-- ==== Sys2Proof/Word.lean ====
section
/-! DEFINITION. The widths the manual gives its words, and the sparse table that holds everything the device has many
of (registers, cells, memory bytes): a list of key and value pairs, keys rising, no entry at its key's default. -/

namespace Sys2Proof

/-- A byte. -/
abbrev Byte := BitVec 8
/-- A 32-bit word: a register, a tile-memory word, the data of a stream word. -/
abbrev Word := BitVec 32
/-- A 64-bit word: a bank word, an accumulator. -/
abbrev DWord := BitVec 64
/-- A 38-bit stream word (R28): END 37, KIND 36:35, ARG 34:32, DATA 31:0. -/
abbrev SWord := BitVec 38
/-- A 6-bit tag, bits 37:32 of a stream word. -/
abbrev Tag := BitVec 6

/-- A sparse table: keys strictly rising, no value equal to its key's default. -/
abbrev Tbl (α : Type) := List (Nat × α)

end Sys2Proof
end

