-- ==== Sys2Proof/Types.lean ====
section
/-! DEFINITION. The plain data that commands carry and that the state holds: blocks and pages, stream flits, BE packets,
the fields of a cell's micro-instruction. -/

namespace Sys2Proof

/-- The blocks of the page map (Table 20-1). -/
inductive Blk where
  | rtr | cog | prb | rgn | qp | qm | bank | pkg | clk | rst | pwr | bist | iob | hbm | fvl | cfg | sec | glc | tsk
  | wdt | grn | hlth | pcie | xcv | eth | uart | spi | iic | dma | gov | enc | twn | dbg | trc
  deriving DecidableEq, Repr

/-- A register page: its block and its INSTANCE (Table 20-1). -/
structure Page where
  blk  : Blk
  inst : Nat
  deriving DecidableEq, Repr

/-- The four sides, in the manual's order N, E, S, W (codes 0 to 3). -/
inductive Side where
  | north | east | south | west
  deriving DecidableEq, Repr

/-- What the ejecting endpoint's SECDED check finds for one group of a flit (R41). The manual does not give the code,
so the outcome of the check stands in the flit; the words of a `corrected` group are the corrected ones. -/
inductive Ecc where
  | clean | corrected | bad
  deriving DecidableEq, Repr

/-- A flit of eight stream words in stream order (R39) with the outcome of its four SECDED groups. -/
structure Flit where
  words : Vector SWord 8
  ecc   : Vector Ecc 4
  deriving DecidableEq, Repr

/-- The BE header flit's fields (R42, Table 2-6). -/
structure Header where
  len      : BitVec 7
  bkind    : BitVec 3
  prio     : BitVec 2
  destPort : BitVec 6
  destNode : BitVec 8
  status   : BitVec 4
  txn      : BitVec 8
  srcPort  : BitVec 6
  srcNode  : BitVec 8
  addr     : BitVec 48
  bytes    : BitVec 12
  msg      : Word
  deriving DecidableEq, Repr

/-- A whole BE packet: header and payload flits (R42). -/
structure Packet where
  hdr     : Header
  payload : List Flit
  deriving DecidableEq, Repr

/-- A cell's place: package region number (R311), tile 6·ty + tx, cell 4·cy + cx (R15). -/
structure CellAt where
  region : Fin 128
  tile   : Fin 36
  cell   : Fin 16
  deriving DecidableEq, Repr

/-- The fields of a micro-instruction but OP (R73, Table 4-1). -/
structure Fields where
  inv   : BitVec 1
  test  : BitVec 3
  cp    : BitVec 5
  dst   : BitVec 5
  srca  : BitVec 5
  srcb  : BitVec 5
  omask : BitVec 4
  tm    : BitVec 1
  tval  : BitVec 6
  ctl   : BitVec 5
  fw    : BitVec 1
  ch    : BitVec 1
  deriving DecidableEq, Repr

/-- A flit on a channel with its sideband (R115): class, VC, HEAD, TAIL. -/
structure ChanFlit where
  be   : Bool
  vc   : BitVec 3
  head : Bool
  tail : Bool
  /-- header fields, on a HEAD flit -/
  hdr  : Header
  flit : Flit
  deriving DecidableEq, Repr

/-- One end's FV_ID report (R270). -/
structure IdReport where
  version : BitVec 8
  strap   : BitVec 4
  die     : BitVec 4
  level   : BitVec 8
  deriving DecidableEq, Repr

/-- What lane repair leaves at one end: width code of modules 0 and 1 (0 unused, 1 x32, 2 x64), margins in 1/1,000 UI,
redundant lanes in use. -/
structure Lanes where
  mod0    : Fin 3
  mod1    : Fin 3
  margin0 : BitVec 16
  margin1 : BitVec 16
  repair0 : BitVec 4
  repair1 : BitVec 4
  deriving DecidableEq, Repr

/-- What every received fantail message carries (Table 15-2): whether its CRC checks, SEQ, the ACK valid with ACKV, TS. -/
structure FtHead where
  crcOk : Bool
  seq   : BitVec 16
  ack   : Option (BitVec 16)
  ts    : DWord
  deriving DecidableEq, Repr

/-- One axis of a POSCHK message (Table 15-3): P, STATE, t_e in ns. -/
structure PosCheck where
  pos   : BitVec 56
  state : BitVec 2
  te    : DWord
  deriving DecidableEq, Repr

end Sys2Proof
end

