-- ==== Sys2Proof/Syntax.lean ====
section
/-! DEFINITION. The commands the device takes and the events that befall it: one constructor for each row of the opcode table. -/

namespace Sys2Proof

inductive Instr where
  /- Supplies, resets, clocks at boot (14_clocks_resets_power). `sail` and `d : Fin 8` name the sail of die index + 1; `d : Fin 9`
  a die; `strap` what the sail samples; `pll` one of a die's PLLs; `bootMode`, `twinId`, `brksel` the straps that the cap samples. -/
  /-- POR_ASSERT (R492) -/
  | porAssert
  /-- POR_RELEASE (R492) -/
  | porRelease (bootMode : BitVec 2) (twinId : Bool) (brksel : BitVec 9)
  /-- AREA_SCAN_DONE (R418) -/
  | areaScanDone (a : Fin 3)
  /-- RESET_N_LOW (R335) -/
  | resetNLow
  /-- RST_WARM (R347) -/
  | rstWarm
  /-- RST_COLD (R347) -/
  | rstCold
  /-- RST_SAIL (R347) -/
  | rstSail (sail : Fin 8)
  /-- SAIL_RESET_RELEASE (R336) -/
  | sailResetRelease (sail : Fin 8)
  /-- PLL_LOCK (R330) -/
  | pllLock (d : Fin 9) (pll : Fin 4)
  /-- SAIL_CTRL_RELEASE (R337) -/
  | sailCtrlRelease (sail : Fin 8) (strap : Fin 16)
  /-- REGION_ISLAND_RELEASE (R337) -/
  | regionIslandRelease
  /-- PLL_UNLOCK (R331) -/
  | pllUnlock (sail : Fin 8) (pll : Fin 4)
  /- Links (11_filvar_links). `l` is the link; `a` and `b` are what its first and second die (Table 1-3) report; `second`
  names the receiving end; `rate` a rate code; `delay` in 1/16 cog. -/
  /-- LINK_TRAINING_START (R269) -/
  | linkTrainingStart (l : Fin 12)
  /-- SIDEBAND_INIT_DONE (R269) -/
  | sidebandInitDone (l : Fin 12)
  /-- FV_ID_EXCHANGE (R270) -/
  | fvIdExchange (l : Fin 12) (a b : IdReport)
  /-- MAINBAND_TRAIN_DONE (R269) -/
  | mainbandTrainDone (l : Fin 12) (rate : Fin 4)
  /-- LANE_REPAIR_DONE (R269) -/
  | laneRepairDone (l : Fin 12) (a b : Lanes)
  /-- FV_WIDTH_EXCHANGE (R271) -/
  | fvWidthExchange (l : Fin 12)
  /-- WIDTH_RETRAIN_DONE (R271) -/
  | widthRetrainDone (l : Fin 12) (a b : Lanes)
  /-- ECHO_MEASURE_DONE (R269) -/
  | echoMeasureDone (l : Fin 12) (delay : BitVec 16)
  /-- MARKER_ALIGN (R147) -/
  | markerAlign (l : Fin 12)
  /-- TRAINING_STEP_TIMEOUT (R269) -/
  | trainingStepTimeout (l : Fin 12)
  /-- FILVAR_FRAME_RX (R264) -/
  | filvarFrameRx (l : Fin 12) (second : Bool)
  /-- GS_ALIGNER_RELEASE (R153) -/
  | gsAlignerRelease (n : Fin 144) (p : Fin 4)
  /-- ADAPTER_CRC_FAIL (R276) -/
  | adapterCrcFail (l : Fin 12) (second : Bool)
  /-- FVL_RETRAIN (R277) -/
  | fvlRetrain (l : Fin 12)
  /-- CREDIT_RETURN (R126) -/
  | creditReturn (n : Fin 144) (port : Fin 4) (vc : Fin 8)
  /- Routers and endpoints (02_stream_words, 06_millrace). `n` is router 12·y + x; `input`, `port` 0 N, 1 E, 2 S, 3 W, 4 L; `f` the
  flit; `sb` what the sideband's code finds; `hpar` the hop parity bits that fail; `p` the packet, none for the oldest one waiting at
  the node; `masked` the host's mask of an MSI-X vector. -/
  /-- ROUTER_FLIT_IN (R117) -/
  | routerFlitIn (n : Fin 144) (input : Fin 5) (f : ChanFlit) (sb : Ecc) (hpar : BitVec 4)
  /-- PRB_FREEZE (R140) -/
  | prbFreeze (n : Fin 144)
  /-- GS_INJECT_SAMPLE (R151) -/
  | gsInjectSample (n : Fin 144)
  /-- BE_PACKET_INJECT (R118) -/
  | bePacketInject (n : Fin 144) (p : Option Packet)
  /-- ENDPOINT_BE_ARRIVE (R137) -/
  | endpointBeArrive (n : Fin 144) (f : ChanFlit) (masked : Bool)
  /-- GS_FLIT_EJECT (R41) -/
  | gsFlitEject (n : Fin 144) (f : Flit)
  /-- EP_CLOSE (R136) -/
  | epClose (n : Fin 144)
  /-- EP_OPEN (R136) -/
  | epOpen (n : Fin 144)
  /-- GATE_CLOSED (R136) -/
  | gateClosed (n : Fin 144)
  /-- GATE_FORCED_CLOSE (R136) -/
  | gateForcedClose (n : Fin 144)
  /- Cogs and rounds (07_scheduled_service). `node` is router 12·y + x; `w` the entry; `round` the armed round. -/
  /-- ROUND_START (R145) -/
  | roundStart (d : Fin 9)
  /-- COG_TAB_DATA_WRITE (R157) -/
  | cogTabDataWrite (node : Fin 144) (w : Word)
  /-- COG_TAB_DATA_READ (R157) -/
  | cogTabDataRead (node : Fin 144)
  /-- COG_SWAP_ARM (R158) -/
  | cogSwapArm (node : Fin 144) (round : BitVec 16)
  /-- COG_SWAP_DISARM (R158) -/
  | cogSwapDisarm (node : Fin 144) (round : BitVec 16)
  /-- COG_ENABLE (R160) -/
  | cogEnable (node : Fin 144)
  /- Regions, cells, tile memory, sequencers (03_cells to 05_tiles_and_regions). `a` is the cell, `f` its micro-instruction's
  fields; `r` the region, `t` the tile. -/
  /-- REGION_CYCLE (R63) -/
  | regionCycle (r : Fin 128)
  /-- CELL_RESULT_LAND (R50) -/
  | cellResultLand (a : CellAt)
  /-- CELL_NOP (R81) -/
  | cellNop (a : CellAt) (f : Fields)
  /-- CELL_MOV (R81) -/
  | cellMov (a : CellAt) (f : Fields)
  /-- CELL_ADD (R81) -/
  | cellAdd (a : CellAt) (f : Fields)
  /-- CELL_ADDC (R81) -/
  | cellAddc (a : CellAt) (f : Fields)
  /-- CELL_ADDW (R85) -/
  | cellAddw (a : CellAt) (f : Fields)
  /-- CELL_SUB (R81) -/
  | cellSub (a : CellAt) (f : Fields)
  /-- CELL_SUBC (R81) -/
  | cellSubc (a : CellAt) (f : Fields)
  /-- CELL_SUBW (R85) -/
  | cellSubw (a : CellAt) (f : Fields)
  /-- CELL_ADDI (R81) -/
  | cellAddi (a : CellAt) (f : Fields)
  /-- CELL_SUBI (R81) -/
  | cellSubi (a : CellAt) (f : Fields)
  /-- CELL_ABS (R80) -/
  | cellAbs (a : CellAt) (f : Fields)
  /-- CELL_SEL (R81) -/
  | cellSel (a : CellAt) (f : Fields)
  /-- CELL_MIN (R81) -/
  | cellMin (a : CellAt) (f : Fields)
  /-- CELL_MAX (R81) -/
  | cellMax (a : CellAt) (f : Fields)
  /-- CELL_MINU (R81) -/
  | cellMinu (a : CellAt) (f : Fields)
  /-- CELL_MAXU (R81) -/
  | cellMaxu (a : CellAt) (f : Fields)
  /-- CELL_CMPEQ (R81) -/
  | cellCmpeq (a : CellAt) (f : Fields)
  /-- CELL_CMPNE (R81) -/
  | cellCmpne (a : CellAt) (f : Fields)
  /-- CELL_CMPLT (R81) -/
  | cellCmplt (a : CellAt) (f : Fields)
  /-- CELL_CMPLE (R81) -/
  | cellCmple (a : CellAt) (f : Fields)
  /-- CELL_CMPLTU (R81) -/
  | cellCmpltu (a : CellAt) (f : Fields)
  /-- CELL_CMPLEU (R81) -/
  | cellCmpleu (a : CellAt) (f : Fields)
  /-- CELL_CMPLTW (R85) -/
  | cellCmpltw (a : CellAt) (f : Fields)
  /-- CELL_CMPLTUW (R85) -/
  | cellCmpltuw (a : CellAt) (f : Fields)
  /-- CELL_AND (R81) -/
  | cellAnd (a : CellAt) (f : Fields)
  /-- CELL_OR (R81) -/
  | cellOr (a : CellAt) (f : Fields)
  /-- CELL_XOR (R81) -/
  | cellXor (a : CellAt) (f : Fields)
  /-- CELL_ANDN (R81) -/
  | cellAndn (a : CellAt) (f : Fields)
  /-- CELL_SHL (R81) -/
  | cellShl (a : CellAt) (f : Fields)
  /-- CELL_SHR (R81) -/
  | cellShr (a : CellAt) (f : Fields)
  /-- CELL_SAR (R81) -/
  | cellSar (a : CellAt) (f : Fields)
  /-- CELL_ROL (R81) -/
  | cellRol (a : CellAt) (f : Fields)
  /-- CELL_SHLI (R81) -/
  | cellShli (a : CellAt) (f : Fields)
  /-- CELL_SHRI (R81) -/
  | cellShri (a : CellAt) (f : Fields)
  /-- CELL_SARI (R81) -/
  | cellSari (a : CellAt) (f : Fields)
  /-- CELL_POPC (R81) -/
  | cellPopc (a : CellAt) (f : Fields)
  /-- CELL_LD (R84) -/
  | cellLd (a : CellAt) (f : Fields)
  /-- CELL_ST (R84) -/
  | cellSt (a : CellAt) (f : Fields)
  /-- CELL_TAGRD (R81) -/
  | cellTagrd (a : CellAt) (f : Fields)
  /-- CELL_TAGOUT (R81) -/
  | cellTagout (a : CellAt) (f : Fields)
  /-- CELL_MUL (R81) -/
  | cellMul (a : CellAt) (f : Fields)
  /-- CELL_MULH (R81) -/
  | cellMulh (a : CellAt) (f : Fields)
  /-- CELL_MULHU (R81) -/
  | cellMulhu (a : CellAt) (f : Fields)
  /-- CELL_MAC (R83) -/
  | cellMac (a : CellAt) (f : Fields)
  /-- CELL_MACU (R83) -/
  | cellMacu (a : CellAt) (f : Fields)
  /-- CELL_MSU (R83) -/
  | cellMsu (a : CellAt) (f : Fields)
  /-- CELL_MUL_H (R82) -/
  | cellMulH (a : CellAt) (f : Fields)
  /-- CELL_ACCRD (R81) -/
  | cellAccrd (a : CellAt) (f : Fields)
  /-- CELL_ADD_H (R82) -/
  | cellAddH (a : CellAt) (f : Fields)
  /-- CELL_SUB_H (R82) -/
  | cellSubH (a : CellAt) (f : Fields)
  /-- CELL_ADDS_H (R82) -/
  | cellAddsH (a : CellAt) (f : Fields)
  /-- CELL_SUBS_H (R82) -/
  | cellSubsH (a : CellAt) (f : Fields)
  /-- CELL_MIN_H (R82) -/
  | cellMinH (a : CellAt) (f : Fields)
  /-- CELL_MAX_H (R82) -/
  | cellMaxH (a : CellAt) (f : Fields)
  /-- CELL_CMPLT_H (R81) -/
  | cellCmpltH (a : CellAt) (f : Fields)
  /-- CELL_MAC_H (R83) -/
  | cellMacH (a : CellAt) (f : Fields)
  /-- CELL_ADD_B (R82) -/
  | cellAddB (a : CellAt) (f : Fields)
  /-- CELL_SUB_B (R82) -/
  | cellSubB (a : CellAt) (f : Fields)
  /-- CELL_ADDUS_B (R82) -/
  | cellAddusB (a : CellAt) (f : Fields)
  /-- CELL_SUBUS_B (R82) -/
  | cellSubusB (a : CellAt) (f : Fields)
  /-- CELL_MINU_B (R82) -/
  | cellMinuB (a : CellAt) (f : Fields)
  /-- CELL_MAXU_B (R82) -/
  | cellMaxuB (a : CellAt) (f : Fields)
  /-- CELL_MAC_B (R83) -/
  | cellMacB (a : CellAt) (f : Fields)
  /-- CELL_SAD_B (R83) -/
  | cellSadB (a : CellAt) (f : Fields)
  /-- TILE_MEM_BE_ACCESS (R56) -/
  | tileMemBeAccess (r : Fin 128) (t : Fin 36)
  /-- TILE_MEM_WAIT_LIMIT (R56) -/
  | tileMemWaitLimit (r : Fin 128) (t : Fin 36)
  /-- SEQ_STEP_TIME (R106) -/
  | seqStepTime (r : Fin 128)
  /- Deliveries and queues (08_millpond_queues). `page` is a QP page: 0 to 127 the regions', 128 to 131 the millpond quarters';
  `i` its index (R200); `txn`, `status`, `data` a response's. -/
  /-- SAMPLE_DELIVERY (R218) -/
  | sampleDelivery (d : Fin 9)
  /-- QUEUE_WORD_ARRIVE (R190) -/
  | queueWordArrive (page : Fin 132) (i : Fin 32) (w : SWord)
  /-- SPILL_IDLE_TIMEOUT (R178) -/
  | spillIdleTimeout (page : Fin 132) (i : Fin 32)
  /-- QUEUE_DELIVER (R186) -/
  | queueDeliver (page : Fin 132) (i : Fin 32)
  /-- LEAT_RESPONSE (R182) -/
  | leatResponse (page : Fin 132) (i : Fin 32) (txn : BitVec 8) (status : BitVec 4) (data : List Byte)
  /-- LEAT_TIMEOUT (R182) -/
  | leatTimeout (page : Fin 132) (i : Fin 32) (txn : BitVec 8)
  /-- LEAT_REISSUE (R182) -/
  | leatReissue (page : Fin 132) (i : Fin 32) (txn : BitVec 8)
  /-- QP_FLUSH (R191) -/
  | qpFlush (page : Fin 132) (i : Fin 32)
  /-- FLUSH_EFFECT (R191) -/
  | flushEffect (page : Fin 132) (i : Fin 32)
  /-- FLUSH_FORCED (R192) -/
  | flushForced (page : Fin 132) (i : Fin 32)
  /-- QP_WEIR_WRITE (R188) -/
  | qpWeirWrite (page : Fin 132) (i : Fin 32) (w : BitVec 12)
  /-- QUEUE_UNBIND (R175) -/
  | queueUnbind (page : Fin 132) (i : Fin 32)
  /-- UNBIND_TIMEOUT (R175) -/
  | unbindTimeout (page : Fin 132) (i : Fin 32)
  /- Queue service. `q` is the queue; POP returns `n + 1` entries; `op` counts from the first reserved operation, 6. -/
  /-- SVC_PUSH (R198) -/
  | svcPush (q : Fin 1048576) (ws : List SWord)
  /-- SVC_POP (R198) -/
  | svcPop (q : Fin 1048576) (n : Fin 256) (quiet : Bool)
  /-- SVC_FLUSH (R198) -/
  | svcFlush (q : Fin 1048576)
  /-- SVC_WEIR (R198) -/
  | svcWeir (q : Fin 1048576) (w : BitVec 12)
  /-- SVC_STATUS (R198) -/
  | svcStatus (q : Fin 1048576)
  /-- SVC_CONFIG (R199) -/
  | svcConfig (q : Fin 1048576) (payload : List Byte)
  /-- SVC_RESERVED_OP (R198) -/
  | svcReservedOp (q : Fin 1048576) (op : Fin 10)
  /-- QM_ENABLE (R202) -/
  | qmEnable (quarter : Fin 4) (on : Bool)
  /- The governor (09_governor) and stamped output. `c` is the encoder channel, `a`, `b`, `z` its accepted levels; `m` the inputs
  whose line fails or returns; `raw` and `par` an SSI frame's bits and parity; `a : Fin 4` an axis; `d` a sail, `g` its group; `t` a
  line trigger; `w` the word written. -/
  /-- ENC_LEVEL_ACCEPT (R205) -/
  | encLevelAccept (c : Fin 8) (a b z : Bool)
  /-- LINE_FAULT (R209) -/
  | lineFault (c : Fin 8) (m : BitVec 3)
  /-- SSI_FRAME_START (R208) -/
  | ssiFrameStart (c : Fin 8)
  /-- SSI_FRAME_END (R208) -/
  | ssiFrameEnd (c : Fin 8) (raw : BitVec 48) (par : Bool)
  /-- AX_CTRL_WRITE (R210) -/
  | axCtrlWrite (a : Fin 4) (w : Word)
  /-- ARM_REF (R212) -/
  | armRef (a : Fin 4)
  /-- INVALIDATE (R213) -/
  | invalidate (a : Fin 4)
  /-- GOV_SAMPLE (R218) -/
  | govSample
  /-- TB_RATE_WRITE (R217) -/
  | tbRateWrite (w : Word)
  /-- TB_ADJ_WRITE (R217) -/
  | tbAdjWrite (w : Word)
  /-- TB_SET (R217) -/
  | tbSet (hi : Word)
  /-- TB_LO_READ (R233) -/
  | tbLoRead
  /-- AX_POS_READ (R233) -/
  | axPosRead (a : Fin 4)
  /-- IO_STAMPED_ARRIVE (R222) -/
  | ioStampedArrive (d g : Fin 8) (w : SWord)
  /-- STAMP_COMMIT (R224) -/
  | stampCommit (d g : Fin 8)
  /-- STAMP_DRIVE_START (R224) -/
  | stampDriveStart (d g : Fin 8)
  /-- LT_ENABLE (R220) -/
  | ltEnable (t : Fin 8) (w : Word)
  /-- TRIGGER_FIRE (R230) -/
  | triggerFire (t : Fin 8)
  /- Banks (10_memory). `b` is the bank (R19), `i` a word index, `e` what the check of a word finds. -/
  /-- BANK_PORT_READ (R239) -/
  | bankPortRead (b : Fin 768) (i : BitVec 15) (e : Ecc)
  /-- BANK_PORT_WRITE (R239) -/
  | bankPortWrite (b : Fin 768) (i : BitVec 15) (w : DWord)
  /-- BANK_PORT_BADCMD (R239) -/
  | bankPortBadcmd (b : Fin 768) (w : SWord)
  /-- BANK_READ_PRESENT (R239) -/
  | bankReadPresent (b : Fin 768)
  /-- BANK_WRITEBACK (R240) -/
  | bankWriteback (b : Fin 768)
  /-- BANK_BE_ACCESS (R241) -/
  | bankBeAccess (b : Fin 768) (e : Ecc)
  /-- BANK_BE_WAIT_LIMIT (R241) -/
  | bankBeWaitLimit (b : Fin 768)
  /-- BANK_OWNER_WRITE (R244) -/
  | bankOwnerWrite (b : Fin 768) (w : Word)
  /-- OWNER_DONE (R244) -/
  | ownerDone (b : Fin 768)
  /-- HELD_REQUEST_TIMEOUT (R244) -/
  | heldRequestTimeout (b : Fin 768)
  /-- BANK_PWR_REQ (R246) -/
  | bankPwrReq (b : Fin 768) (req : BitVec 2)
  /-- BANK_PWR_DONE (R246) -/
  | bankPwrDone (b : Fin 768)
  /-- SECURE_WIPE_DONE (R249) -/
  | secureWipeDone (b : Fin 768)
  /- HBM and DMA (10_memory). `k` is the stack; `failing`, `repaired` its channels; `e : Fin 8` the engine. -/
  /-- HBM_RESTORE_DONE (R253) -/
  | hbmRestoreDone (k rate : Fin 4) (failing : BitVec 16)
  /-- HBM_TRAIN_DONE (R253) -/
  | hbmTrainDone (k rate : Fin 4) (failing repaired : BitVec 16)
  /-- HBM_REQUEST (R254) -/
  | hbmRequest (k : Fin 4) (e : Ecc) (ch : Fin 16)
  /-- HOT_REFRESH (R250) -/
  | hotRefresh (k : Fin 4) (t : BitVec 8)
  /-- HBM_VCC_DROP (R501) -/
  | hbmVccDrop (k : Fin 4)
  /-- DMA_GO (R255) -/
  | dmaGo (e : Fin 8)
  /-- DMA_STOP (R257) -/
  | dmaStop (e : Fin 8)
  /-- DMA_TRANSFER_RESPONSE (R256) -/
  | dmaTransferResponse (e : Fin 8) (txn : BitVec 8) (status : BitVec 4) (data : List Byte)
  /-- DMA_TRANSFER_TIMEOUT (R256) -/
  | dmaTransferTimeout (e : Fin 8) (txn : BitVec 8)
  /- Security (12_security). `secure` tells that the issuer is secure firmware; `fuseOk` that the fuses verify; `admitted` and
  `rom` who asks; `sensors` the tamper sensors now tripped, `under` the direction of the voltage sensor. -/
  /-- SEC_TAKE_OWNERSHIP (R290) -/
  | secTakeOwnership (secure fuseOk : Bool)
  /-- SEC_ADD_OWNER_KEY (R290) -/
  | secAddOwnerKey (secure fuseOk : Bool)
  /-- SEC_REVOKE_OWNER_KEY (R290) -/
  | secRevokeOwnerKey (secure fuseOk : Bool)
  /-- SEC_TO_FIELD (R290) -/
  | secToField (secure fuseOk : Bool)
  /-- SEC_TO_RETURN (R290) -/
  | secToReturn (secure fuseOk : Bool)
  /-- SEC_TO_VOID (R290) -/
  | secToVoid (secure fuseOk : Bool)
  /-- SEC_ADVANCE_ROLLBACK (R288) -/
  | secAdvanceRollback (secure fuseOk : Bool)
  /-- SEC_INSTALL_KEY (R290) -/
  | secInstallKey (secure : Bool)
  /-- SEC_DELETE_KEY (R290) -/
  | secDeleteKey (secure : Bool)
  /-- SEC_GET_DIK (R290) -/
  | secGetDik (secure : Bool)
  /-- SEC_RESERVED_OPCODE (R290) -/
  | secReservedOpcode (op : BitVec 16) (secure : Bool)
  /-- SEC_NONCE_GEN (R289) -/
  | secNonceGen (admitted : Bool)
  /-- NONCE_EXPIRE (R289) -/
  | nonceExpire
  /-- TAMPER_TRIP (R296) -/
  | tamperTrip (sensors : BitVec 5) (under : Bool)
  /-- MESH_REFRESH (R295) -/
  | meshRefresh
  /-- TAMPER_LOG_CLEAR (R302) -/
  | tamperLogClear (w : Word) (rom : Bool)
  /-- DEBUG_UNLOCK (R298) -/
  | debugUnlock (level : BitVec 2) (admitted fuseOk : Bool)
  /-- TRNG_READ (R300) -/
  | trngRead (quiet : Bool)
  /-- TRNG_HEALTH_FAIL (R300) -/
  | trngHealthFail (proportion : Bool)
  /-- TRNG_RECOVER (R300) -/
  | trngRecover
  /- Images and loading (13_configuration). A record carries COND, TARGET and its data in plain text. -/
  /-- IMAGE_HEADER (R305) -/
  | imageHeader (h : List Byte)
  /-- RECORD_CELL (R307) -/
  | recordCell (cond : BitVec 8) (target : DWord) (data : List Byte)
  /-- RECORD_CELL_INIT (R307) -/
  | recordCellInit (cond : BitVec 8) (target : DWord) (data : List Byte)
  /-- RECORD_TILE (R307) -/
  | recordTile (cond : BitVec 8) (target : DWord) (data : List Byte)
  /-- RECORD_REGION (R307) -/
  | recordRegion (cond : BitVec 8) (target : DWord) (data : List Byte)
  /-- RECORD_BANK (R307) -/
  | recordBank (cond : BitVec 8) (target : DWord) (data : List Byte)
  /-- RECORD_COG (R307) -/
  | recordCog (cond : BitVec 8) (target : DWord) (data : List Byte)
  /-- RECORD_XING (R307) -/
  | recordXing (cond : BitVec 8) (target : DWord) (data : List Byte)
  /-- RECORD_QUEUE (R307) -/
  | recordQueue (cond : BitVec 8) (target : DWord) (data : List Byte)
  /-- RECORD_MEMORY (R309) -/
  | recordMemory (cond : BitVec 8) (target : DWord) (data : List Byte)
  /-- RECORD_ZERO (R309) -/
  | recordZero (cond : BitVec 8) (target : DWord) (data : List Byte)
  /-- RECORD_PACKAGE (R307) -/
  | recordPackage (cond : BitVec 8) (target : DWord) (data : List Byte)
  /-- RECORD_GOVERNOR (R307) -/
  | recordGovernor (cond : BitVec 8) (target : DWord) (data : List Byte)
  /-- RECORD_SECURITY (R307) -/
  | recordSecurity (cond : BitVec 8) (target : DWord) (data : List Byte)
  /-- RECORD_CORE (R307) -/
  | recordCore (cond : BitVec 8) (target : DWord) (data : List Byte)
  /-- RECORD_IOB (R307) -/
  | recordIob (cond : BitVec 8) (target : DWord) (data : List Byte)
  /-- RECORD_RESTORE (R307) -/
  | recordRestore (cond : BitVec 8) (target : DWord) (data : List Byte)
  /-- RECORD_COG_SWAP (R307) -/
  | recordCogSwap (cond : BitVec 8) (target : DWord) (data : List Byte)
  /-- RECORD_RESERVED (R308) -/
  | recordReserved (type : BitVec 8) (target : DWord)
  /-- RECORD_END (R309) -/
  | recordEnd (target : DWord)
  /-- IMAGE_TAG (R310) -/
  | imageTag (tag : List Byte)
  /-- STREAM_TIMEOUT (R310) -/
  | streamTimeout
  /-- LOAD_ACTIVATE (R313) -/
  | loadActivate
  /-- CFG_GO (R320) -/
  | cfgGo (src : BitVec 2)
  /-- CFG_ABORT (R325) -/
  | cfgAbort
  /-- SLUICE_WORD (R321) -/
  | sluiceWord (w : SWord)
  /- Self-test (19_test_and_debug): unit `type`, `index` on die `d`, and whether it passed. -/
  /-- BIST_UNIT_START (R454) -/
  | bistUnitStart (d : Fin 9)
  /-- BIST_UNIT_END (R453) -/
  | bistUnitEnd (type : Fin 8) (d : Fin 9) (index : Fin 96) (pass : Bool)
  /-- BOOT_BIST_END (R454) -/
  | bootBistEnd
  /-- BIST_ONLINE_TICK (R457) -/
  | bistOnlineTick (sail : Fin 8)
  /- Clocks and power (14_clocks_resets_power). `i` is the island; a domain is `die`, `kind`, `index` (R343). -/
  /-- CLK_ISL_CTRL_WRITE (R332) -/
  | clkIslCtrlWrite (d : Fin 9) (i : Fin 22) (w : Word)
  /-- CLK_CHANGE_DONE (R333) -/
  | clkChangeDone (d : Fin 9) (i : Fin 22)
  /-- TELEMETRY_MSG (R338) -/
  | telemetryMsg (d : Fin 9) (power : BitVec 16) (temp : BitVec 8)
  /-- TELEM_LOST (R338) -/
  | telemLost (d : Fin 9)
  /-- CONTROL_PERIOD (R340) -/
  | controlPeriod
  /-- PWR_SETPOINT_WRITE (R339) -/
  | pwrSetpointWrite (w : Word)
  /-- PWR_WAKE (R344) -/
  | pwrWake (die : Fin 9) (kind : Fin 5) (index : BitVec 7)
  /-- PWR_SLEEP (R343) -/
  | pwrSleep (die : Fin 9) (kind : Fin 5) (index : BitVec 7) (force : Bool)
  /-- PWR_RETAIN (R348) -/
  | pwrRetain (die : Fin 9) (kind : Fin 5) (index : BitVec 7)
  /-- PWR_INVALID (R348) -/
  | pwrInvalid (op : BitVec 2) (die kind : BitVec 4) (index : BitVec 7)
  /-- SLEEP_DRAIN_END (R343) -/
  | sleepDrainEnd
  /-- PWR_DONE (R343) -/
  | pwrDone
  /- The twin (15_twin). `h` is what every fantail message carries. -/
  /-- TWN_ENABLE (R360) -/
  | twnEnable (on : Bool)
  /-- HELLO_TIMEOUT (R360) -/
  | helloTimeout
  /-- FANTAIL_TRAIN_DONE (R354) -/
  | fantailTrainDone (locked : BitVec 4)
  /-- FT_HELLO_SEND (R356) -/
  | ftHelloSend
  /-- FT_BEAT_SEND (R356) -/
  | ftBeatSend
  /-- FT_POSCHK_SEND (R364) -/
  | ftPoschkSend
  /-- FT_HELLO_RX (R360) -/
  | ftHelloRx (h : FtHead) (id : Bool) (role : Fin 6) (mode axis : BitVec 2) (span : BitVec 24) (hash : DWord)
  /-- FT_BEAT_RX (R358) -/
  | ftBeatRx (h : FtHead) (echoTs echoAt : DWord)
  /-- FT_POSCHK_RX (R364) -/
  | ftPoschkRx (h : FtHead) (a0 a1 a2 a3 : PosCheck)
  /-- FT_DIGEST_RX (R366) -/
  | ftDigestRx (h : FtHead) (span : Word) (digest : DWord) (pkts : Word)
  /-- FT_MIRQ_RX (R361) -/
  | ftMirqRx (h : FtHead) (q : Word) (ws : List SWord)
  /-- FT_CKPT_RX (R362) -/
  | ftCkptRx (h : FtHead) (span : Word) (pairs : List (Word × Word))
  /-- FT_GRAN_RX (R363) -/
  | ftGranRx (h : FtHead) (id off : Word) (last : Bool) (data : List Byte)
  /-- FT_FAIL_RX (R367) -/
  | ftFailRx (h : FtHead)
  /-- FT_SWITCH_RX (R370) -/
  | ftSwitchRx (h : FtHead) (p : BitVec 56) (ack : Bool)
  /-- FT_STATE_RX (R372) -/
  | ftStateRx (h : FtHead) (a : BitVec 48) (data : List Byte)
  /-- FT_RESEND_TIMEOUT (R357) -/
  | ftResendTimeout
  /-- FT_SILENCE_TIMEOUT (R357) -/
  | ftSilenceTimeout
  /-- OWN_RAISE (R352) -/
  | ownRaise
  /-- FENCE_IN_HIGH (R353) -/
  | fenceInHigh
  /-- PEER_OWN_FALL (R368) -/
  | peerOwnFall
  /-- TAKEOVER_BLOCKED (R368) -/
  | takeoverBlocked
  /-- TWN_SWITCH_GO (R370) -/
  | twnSwitchGo
  /-- SWITCH_ACK_TIMEOUT (R370) -/
  | switchAckTimeout
  /-- SWITCH_HANDOVER (R370) -/
  | switchHandover
  /-- TWN_JOIN (R375) -/
  | twnJoin
  /-- TWN_DETACH (R375) -/
  | twnDetach
  /-- TWN_UNFENCE (R371) -/
  | twnUnfence
  /-- TWN_FAIL (R351) -/
  | twnFail
  /-- SPAN_CLOSE (R365) -/
  | spanClose
  /-- DIGEST_TIMEOUT (R366) -/
  | digestTimeout
  /-- JOIN_STEP_TIMEOUT (R372) -/
  | joinStepTimeout
  /- Core instructions and accesses (16_glaette_cores). `c` is the core; `rd`, `ra`, `rb` registers; `sf` sets flags; `bad` an
  uncorrectable dirty line met; `k` the transfers done before a multiple breaks off. -/
  /-- GLC_ADD (R386) -/
  | glcAdd (c : Fin 4) (rd ra rb : BitVec 5) (sf : Bool)
  /-- GLC_SUB (R386) -/
  | glcSub (c : Fin 4) (rd ra rb : BitVec 5) (sf : Bool)
  /-- GLC_AND (R386) -/
  | glcAnd (c : Fin 4) (rd ra rb : BitVec 5) (sf : Bool)
  /-- GLC_OR (R386) -/
  | glcOr (c : Fin 4) (rd ra rb : BitVec 5) (sf : Bool)
  /-- GLC_XOR (R386) -/
  | glcXor (c : Fin 4) (rd ra rb : BitVec 5) (sf : Bool)
  /-- GLC_ANDN (R386) -/
  | glcAndn (c : Fin 4) (rd ra rb : BitVec 5) (sf : Bool)
  /-- GLC_SHL (R386) -/
  | glcShl (c : Fin 4) (rd ra rb : BitVec 5) (sf : Bool)
  /-- GLC_SHR (R386) -/
  | glcShr (c : Fin 4) (rd ra rb : BitVec 5) (sf : Bool)
  /-- GLC_SAR (R386) -/
  | glcSar (c : Fin 4) (rd ra rb : BitVec 5) (sf : Bool)
  /-- GLC_SLT (R386) -/
  | glcSlt (c : Fin 4) (rd ra rb : BitVec 5) (sf : Bool)
  /-- GLC_SLTU (R386) -/
  | glcSltu (c : Fin 4) (rd ra rb : BitVec 5) (sf : Bool)
  /-- GLC_MIN (R386) -/
  | glcMin (c : Fin 4) (rd ra rb : BitVec 5) (sf : Bool)
  /-- GLC_MAX (R386) -/
  | glcMax (c : Fin 4) (rd ra rb : BitVec 5) (sf : Bool)
  /-- GLC_MINU (R386) -/
  | glcMinu (c : Fin 4) (rd ra rb : BitVec 5) (sf : Bool)
  /-- GLC_MAXU (R386) -/
  | glcMaxu (c : Fin 4) (rd ra rb : BitVec 5) (sf : Bool)
  /-- GLC_MUL (R386) -/
  | glcMul (c : Fin 4) (rd ra rb : BitVec 5) (sf : Bool)
  /-- GLC_MULH (R386) -/
  | glcMulh (c : Fin 4) (rd ra rb : BitVec 5) (sf : Bool)
  /-- GLC_MULHU (R386) -/
  | glcMulhu (c : Fin 4) (rd ra rb : BitVec 5) (sf : Bool)
  /-- GLC_DIV (R386) -/
  | glcDiv (c : Fin 4) (rd ra rb : BitVec 5) (sf : Bool)
  /-- GLC_DIVU (R386) -/
  | glcDivu (c : Fin 4) (rd ra rb : BitVec 5) (sf : Bool)
  /-- GLC_REM (R386) -/
  | glcRem (c : Fin 4) (rd ra rb : BitVec 5) (sf : Bool)
  /-- GLC_REMU (R386) -/
  | glcRemu (c : Fin 4) (rd ra rb : BitVec 5) (sf : Bool)
  /-- GLC_CLZ (R386) -/
  | glcClz (c : Fin 4) (rd ra : BitVec 5) (sf : Bool)
  /-- GLC_POPC (R386) -/
  | glcPopc (c : Fin 4) (rd ra : BitVec 5) (sf : Bool)
  /-- GLC_CMP (R386) -/
  | glcCmp (c : Fin 4) (ra rb : BitVec 5)
  /-- GLC_ADDI (R385) -/
  | glcAddi (c : Fin 4) (rd ra : BitVec 5) (imm : BitVec 16)
  /-- GLC_ANDI (R385) -/
  | glcAndi (c : Fin 4) (rd ra : BitVec 5) (imm : BitVec 16)
  /-- GLC_ORI (R385) -/
  | glcOri (c : Fin 4) (rd ra : BitVec 5) (imm : BitVec 16)
  /-- GLC_XORI (R385) -/
  | glcXori (c : Fin 4) (rd ra : BitVec 5) (imm : BitVec 16)
  /-- GLC_SLTI (R385) -/
  | glcSlti (c : Fin 4) (rd ra : BitVec 5) (imm : BitVec 16)
  /-- GLC_SLTIU (R385) -/
  | glcSltiu (c : Fin 4) (rd ra : BitVec 5) (imm : BitVec 16)
  /-- GLC_LUI (R385) -/
  | glcLui (c : Fin 4) (rd : BitVec 5) (imm : BitVec 16)
  /-- GLC_SHLI (R385) -/
  | glcShli (c : Fin 4) (rd ra n : BitVec 5)
  /-- GLC_SHRI (R385) -/
  | glcShri (c : Fin 4) (rd ra n : BitVec 5)
  /-- GLC_SARI (R385) -/
  | glcSari (c : Fin 4) (rd ra n : BitVec 5)
  /-- GLC_CMPI (R385) -/
  | glcCmpi (c : Fin 4) (ra : BitVec 5) (imm : BitVec 16)
  /-- GLC_LDW (R385) -/
  | glcLdw (c : Fin 4) (rd ra : BitVec 5) (imm : BitVec 16) (bad : Bool)
  /-- GLC_LDH (R385) -/
  | glcLdh (c : Fin 4) (rd ra : BitVec 5) (imm : BitVec 16) (bad : Bool)
  /-- GLC_LDHU (R385) -/
  | glcLdhu (c : Fin 4) (rd ra : BitVec 5) (imm : BitVec 16) (bad : Bool)
  /-- GLC_LDB (R385) -/
  | glcLdb (c : Fin 4) (rd ra : BitVec 5) (imm : BitVec 16) (bad : Bool)
  /-- GLC_LDBU (R385) -/
  | glcLdbu (c : Fin 4) (rd ra : BitVec 5) (imm : BitVec 16) (bad : Bool)
  /-- GLC_STW (R385) -/
  | glcStw (c : Fin 4) (rd ra : BitVec 5) (imm : BitVec 16) (bad : Bool)
  /-- GLC_STH (R385) -/
  | glcSth (c : Fin 4) (rd ra : BitVec 5) (imm : BitVec 16) (bad : Bool)
  /-- GLC_STB (R385) -/
  | glcStb (c : Fin 4) (rd ra : BitVec 5) (imm : BitVec 16) (bad : Bool)
  /-- GLC_LDL (R396) -/
  | glcLdl (c : Fin 4) (rd ra : BitVec 5) (imm : BitVec 16) (bad : Bool)
  /-- GLC_STC (R396) -/
  | glcStc (c : Fin 4) (rd ra rb : BitVec 5) (bad : Bool)
  /-- GLC_B (R388) -/
  | glcB (c : Fin 4) (cond : Fin 15) (disp : BitVec 22)
  /-- GLC_CALL (R379) -/
  | glcCall (c : Fin 4) (disp : BitVec 26)
  /-- GLC_CALLR (R379) -/
  | glcCallr (c : Fin 4) (ra : BitVec 5) (imm : BitVec 16)
  /-- GLC_J (R385) -/
  | glcJ (c : Fin 4) (disp : BitVec 26)
  /-- GLC_JR (R385) -/
  | glcJr (c : Fin 4) (ra : BitVec 5) (imm : BitVec 16)
  /-- GLC_RET (R379) -/
  | glcRet (c : Fin 4)
  /-- GLC_RTX (R399) -/
  | glcRtx (c : Fin 4)
  /-- GLC_STM (R395) -/
  | glcStm (c : Fin 4) (bs : BitVec 2) (mask : BitVec 24) (k : Fin 25) (bad : Bool)
  /-- GLC_LDM (R395) -/
  | glcLdm (c : Fin 4) (bs : BitVec 2) (mask : BitVec 24) (k : Fin 25) (bad : Bool)
  /-- GLC_SVC (R398) -/
  | glcSvc (c : Fin 4) (imm : BitVec 16)
  /-- ILLEGAL_TRAP (R389) -/
  | illegalTrap (c : Fin 4)
  /-- GLC_WSPILL (R380) -/
  | glcWspill (c : Fin 4) (rd : BitVec 5)
  /-- GLC_WFILL (R380) -/
  | glcWfill (c : Fin 4) (rd : BitVec 5)
  /-- GLC_YIELD (R403) -/
  | glcYield (c : Fin 4)
  /-- GLC_WAIT (R402) -/
  | glcWait (c : Fin 4) (rd ra : BitVec 5)
  /-- GLC_SIGNAL (R402) -/
  | glcSignal (c : Fin 4) (ra : BitVec 5)
  /-- GLC_MFSR (R387) -/
  | glcMfsr (c : Fin 4) (rd : BitVec 5) (n : Fin 12)
  /-- GLC_MTSR (R387) -/
  | glcMtsr (c : Fin 4) (n : Fin 12) (ra : BitVec 5)
  /-- GLC_FENCE (R387) -/
  | glcFence (c : Fin 4)
  /-- GLC_CWB (R387) -/
  | glcCwb (c : Fin 4) (ra : BitVec 5)
  /-- GLC_CINV (R387) -/
  | glcCinv (c : Fin 4) (ra : BitVec 5)
  /-- GLC_IINV (R387) -/
  | glcIinv (c : Fin 4) (ra : BitVec 5)
  /-- GLC_BKPT (R387) -/
  | glcBkpt (c : Fin 4)
  /-- GLC_SECCLR (R405) -/
  | glcSecclr (c : Fin 4)
  /-- BUS_RETRY (R394) -/
  | busRetry (c : Fin 4)
  /-- BUS_RESPONSE_TIMEOUT (R394) -/
  | busResponseTimeout (c : Fin 4)
  /-- LOCK_FORCE (R397) -/
  | lockForce (c : Fin 4)
  /- Tasks and watchdogs (16_glaette_cores). `t` is the task; `node` and `port` the initiator. -/
  /-- TSK_TIMER_EXPIRE (R402) -/
  | tskTimerExpire (c : Fin 4) (t : Fin 16)
  /-- SLICE_EXPIRE (R403) -/
  | sliceExpire (c : Fin 4)
  /-- EVENT_MESSAGE_RX (R402) -/
  | eventMessageRx (second : Bool) (msg : Word)
  /-- TSK_EVPEND_WRITE (R402) -/
  | tskEvpendWrite (c : Fin 4) (t : Fin 16) (w : Word)
  /-- TSK_ENABLE_WRITE (R401) -/
  | tskEnableWrite (c : Fin 4) (t : Fin 16) (w : Word)
  /-- CORE_RESET (R400) -/
  | coreReset (c : Fin 4) (node : BitVec 8) (port : BitVec 6)
  /-- WDT_KICK (R406) -/
  | wdtKick (c : Fin 4) (w : Word)
  /-- WDT_EXPIRE (R406) -/
  | wdtExpire (c : Fin 4)
  /-- FAB_SYNC (R408) -/
  | fabSync (w : SWord)
  /-- FAB_EXPIRE (R408) -/
  | fabExpire
  /-- PKG_KICK (R409) -/
  | pkgKick (w : Word)
  /-- PKG_EXPIRE (R409) -/
  | pkgExpire
  /- Granary and health (17_granary_and_health). `who` is the initiator; `vhold` the hold voltage in 1/20 V; `readings` one die's
  monitors. -/
  /-- GRN_COMMIT (R417) -/
  | grnCommit (who : Fin 3) (vhold : BitVec 8)
  /-- GRN_DELETE (R417) -/
  | grnDelete (who : Fin 3) (vhold : BitVec 8)
  /-- GRN_READ (R417) -/
  | grnRead (who : Fin 3)
  /-- GRN_BAD_OP (R417) -/
  | grnBadOp (op : Fin 5)
  /-- COMMIT_DONE (R416) -/
  | commitDone (fails : BitVec 4)
  /-- COMPACTION_DONE (R419) -/
  | compactionDone
  /-- POWERFAIL (R420) -/
  | powerfail (vhold : BitVec 8)
  /-- POWERFAIL_CLEAR (R420) -/
  | powerfailClear (vhold : BitVec 8)
  /-- MONITOR_READ (R423) -/
  | monitorRead (d : Fin 9) (readings : Vector (BitVec 16) 32)
  /-- LIFE_HOUR (R424) -/
  | lifeHour
  /- I/O banks (18_io_and_interfaces). `d` is the sail (or die), `g` the group, `p` the pin, `b` the VCCIO bank. -/
  /-- IO_STREAM_WORD (R432) -/
  | ioStreamWord (d g : Fin 8) (w : SWord)
  /-- IO_CAPTURE_WORD (R432) -/
  | ioCaptureWord (d g : Fin 8) (v : Word)
  /-- CAL_RUN (R434) -/
  | calRun (d : Fin 8) (lock : Bool) (nc : BitVec 9) (t0 : Word)
  /-- IOB_PIN_WRITE (R437) -/
  | iobPinWrite (d : Fin 9) (p : Fin 64) (w : DWord)
  /-- IOB_GRP_WRITE (R430) -/
  | iobGrpWrite (d g : Fin 8) (w : DWord)
  /-- VCCIO_LOSS (R501) -/
  | vccioLoss (d : Fin 9) (b : Fin 4)
  /- External interfaces (18_io_and_interfaces). `l` is a lane, `m` a MAC, `f` a function, `k` a serial controller, `i` an instance. -/
  /-- XCV_RAW_RX (R440) -/
  | xcvRawRx (l : Fin 32) (w : Word)
  /-- ETH_FRAME_RX (R440) -/
  | ethFrameRx (m : Fin 8) (frame : List Byte) (fcsOk : Bool)
  /-- ETH_FRAME_TX (R440) -/
  | ethFrameTx (m : Fin 8)
  /-- PCIE_BAR0_WRITE (R442) -/
  | pcieBar0Write (f : Fin 2) (off : BitVec 28) (data : List Byte)
  /-- PCIE_BAR0_READ (R442) -/
  | pcieBar0Read (f : Fin 2) (off : BitVec 28) (n : BitVec 12)
  /-- PCIE_BAR2_WRITE (R442) -/
  | pcieBar2Write (bs : List Byte)
  /-- MSIX_MESSAGE (R442) -/
  | msixMessage (msg : BitVec 11) (masked : Bool)
  /-- PCIE_LINK_CHANGE (R441) -/
  | pcieLinkChange (up : Bool) (gen : Fin 6) (width : Fin 5)
  /-- HDMA_GO (R443) -/
  | hdmaGo (c : Fin 4)
  /-- HDMA_TIMEOUT (R443) -/
  | hdmaTimeout (c : Fin 4) (timeout : Bool)
  /-- UART_DATA_WRITE (R446) -/
  | uartDataWrite (k : Fin 4) (b : Byte)
  /-- UART_DATA_READ (R446) -/
  | uartDataRead (k : Fin 4) (quiet : Bool)
  /-- SERIAL_RX_BYTE (R446) -/
  | serialRxByte (k : Fin 14) (b : Byte) (frameErr : Bool)
  /-- SPI_GO (R446) -/
  | spiGo (i : Fin 6) (n : BitVec 13)
  /-- IIC_GO (R446) -/
  | iicGo (i : Fin 4) (w : Word) (lost : Bool)
  /- Test and debug (19_test_and_debug). -/
  /-- TAP_INSTRUCTION_LOAD (R462) -/
  | tapInstructionLoad (d : Fin 9) (code : BitVec 8)
  /-- FUSE_DR_UPDATE (R464) -/
  | fuseDrUpdate (bank : BitVec 6) (value : BitVec 2) (go fuseOk : Bool)
  /-- DBG_NOP (R466) -/
  | dbgNop (a : BitVec 48) (v : Word)
  /-- DBG_READ (R466) -/
  | dbgRead (a : BitVec 48)
  /-- DBG_WRITE_NP (R466) -/
  | dbgWriteNp (a : BitVec 48) (v : Word)
  /-- DBG_WRITE (R466) -/
  | dbgWrite (a : BitVec 48) (v : Word)
  /-- SECACC_ACCESS (R467) -/
  | secaccAccess (op : Fin 4) (a : BitVec 48) (v : Word)
  /-- DBG_HALT (R469) -/
  | dbgHalt (c : Fin 4)
  /-- DBG_RESUME (R470) -/
  | dbgResume (c : Fin 4)
  /-- DBG_STEP (R470) -/
  | dbgStep (c : Fin 4)
  /-- DBG_HALT_ALL (R471) -/
  | dbgHaltAll (halt resume : BitVec 4)
  /-- DBG_CREG_ACCESS (R470) -/
  | dbgCregAccess (c : Fin 4) (w : Option Word)
  /-- VCC_DBG_LOSS (R501) -/
  | vccDbgLoss
  /-- TRC_CLAIM (R473) -/
  | trcClaim (node : BitVec 8) (port : BitVec 6)
  /-- TRC_RELEASE (R473) -/
  | trcRelease (node : BitVec 8) (port : BitVec 6)
  /-- TRACE_RECORD_RX (R472) -/
  | traceRecordRx (rec : Vector Byte 32)
  /-- TRC_RDATA_READ (R474) -/
  | trcRdataRead (quiet : Bool)
  /- Registers (20_register_reference). `p` is the page, `node` and `port` the initiator. -/
  /-- EVT_PEND_CLEAR (R486) -/
  | evtPendClear (p : Page) (bits : Word) (node : BitVec 8) (port : BitVec 6)
  /-- EVT_EN_WRITE (R486) -/
  | evtEnWrite (p : Page) (bits : Word) (node : BitVec 8) (port : BitVec 6)
  /-- ERR_CLEAR (R482) -/
  | errClear (p : Page) (node : BitVec 8) (port : BitVec 6)
  /-- LOCK_SET (R488) -/
  | lockSet (p : Page) (node : BitVec 8) (port : BitVec 6)
  /-- BLK_ENABLE (R483) -/
  | blkEnable (p : Page) (on : Bool) (node : BitVec 8) (port : BitVec 6)
  /-- BLK_POWER_WAKE (R484) -/
  | blkPowerWake (p : Page) (node : BitVec 8) (port : BitVec 6)
  /-- BLK_POWER_SLEEP (R484) -/
  | blkPowerSleep (p : Page) (node : BitVec 8) (port : BitVec 6)
  /-- BLK_POWER_RETAIN (R484) -/
  | blkPowerRetain (p : Page) (node : BitVec 8) (port : BitVec 6)
  /-- BLK_SOFT_RESET (R485) -/
  | blkSoftReset (p : Page) (node : BitVec 8) (port : BitVec 6)
  /-- REG_READ_CLEAR (R488) -/
  | regReadClear (p : Page) (off : BitVec 12) (node : BitVec 8) (port : BitVec 6)
  /-- REGISTER_WRITE (R488) -/
  | registerWrite (a : BitVec 48) (v : Word) (posted : Bool) (node : BitVec 8) (port : BitVec 6)
  /- Events of other chapters. -/
  /-- RESET_N_RELEASE (R492) -/
  | resetNRelease
  /-- VCCIO_RETURN (R493) -/
  | vccioReturn (d : Fin 9) (b : Fin 4)
  /-- VCC_DBG_RISE (R465) -/
  | vccDbgRise
  /-- TRST_N_ASSERT (R465) -/
  | trstNAssert
  /-- PEER_OWN_RISE (R352) -/
  | peerOwnRise
  /-- LINE_OK_RETURN (R209) -/
  | lineOkReturn (c : Fin 8) (m : BitVec 3)
  /-- REF_LOST (R346) -/
  | refLost (d : Fin 9)
  /-- HOT_REFRESH_END (R250) -/
  | hotRefreshEnd (k : Fin 4) (t : BitVec 8)
  /-- TB_SLEW_DONE (R217) -/
  | tbSlewDone
  /-- DBG_RESPONSE_TIMEOUT (R466) -/
  | dbgResponseTimeout
  /-- HOST_COMPLETION_RX (R443) -/
  | hostCompletionRx (c : Fin 4) (bs : List Byte)
  /-- ETH_LINK_CHANGE (R451) -/
  | ethLinkChange (m : Fin 8) (lock link : Bool)
  /-- SERIAL_TRANSFER_DONE (R446) -/
  | serialTransferDone (k : Fin 14) (nack lost : Bool)
  /-- SOURCE_READ_ERROR (R324) -/
  | sourceReadError (chain : Bool) (off : Word)
  /-- CHAIN_BYTE_ARRIVE (R316) -/
  | chainByteArrive (b : Byte)
  deriving DecidableEq, Repr

end Sys2Proof
end

