-- ==== Sys2Proof/Config.lean ====
section
/-! DEFINITION. Values that the manual leaves open, as constants without a body (see notes/assumptions). -/

namespace Sys2Proof

/-- The value used where the manual leaves a value open; the state counts how many have been used.
(DESIGN CHOICE, log entry 6.) -/
opaque Config.freeValue : Nat → Word

/-- Words that the GS source of a transceiver lane holds; the manual gives no number. (DESIGN CHOICE, log entry 90.) -/
opaque Config.xcvDepth : Nat

/-! Standard functions that the manual names and does not define (12_security, 13_configuration): uninterpreted, so a
claim holds whatever they compute. -/

/-- SHA-384 of a byte string. (DESIGN CHOICE, log entry 7.) -/
opaque Config.sha384 : List Byte → BitVec 384

/-- ECDSA P-384 over SHA-384 (R287): public key, signature, message. (DESIGN CHOICE, log entry 7.) -/
opaque Config.ecdsaOk : List Byte → List Byte → List Byte → Bool

/-- The part's root secret (R282), as its PUF and the helper data fused at manufacture give it.
(DESIGN CHOICE, log entry 7.) -/
opaque Config.rootSecret : BitVec 2048 → BitVec 256

/-- The P-384 public key of a private number, as 96 bytes X then Y (R282). (DESIGN CHOICE, log entry 7.) -/
opaque Config.p384Public : Nat → List Byte

/-- ECDH of a P-384 private number with a public key (R284): the shared secret, none where it fails.
(DESIGN CHOICE, log entry 7.) -/
opaque Config.p384Ecdh : Nat → List Byte → Option (List Byte)

/-- AES key wrap under a key, and its inverse (R284). (DESIGN CHOICE, log entry 7.) -/
opaque Config.keyWrap : List Byte → List Byte → List Byte
/-- See the log (DESIGN CHOICE, log entry 7). -/
opaque Config.keyUnwrap : List Byte → List Byte → Option (List Byte)

/-- The eight check bits of a flit's SECDED group (R41), and the five of a channel's sideband (R115); the manual gives
neither code. (DESIGN CHOICE, log entry 9.) -/
opaque Config.flitCode : BitVec 76 → BitVec 8
/-- See the log (DESIGN CHOICE, log entry 9). -/
opaque Config.sidebandCode : BitVec 7 → BitVec 5

/-- The AES-256-GCM tag of an image (R304): image key, header bytes, plaintext of the records.
(DESIGN CHOICE, log entry 7.) -/
opaque Config.imageTag : List Byte → List Byte → List Byte → List Byte

/-- The AES-256 counter-mode key stream of an image (R304): image key, IV, offset in the records.
(DESIGN CHOICE, log entry 7.) -/
opaque Config.keystream : List Byte → List Byte → Nat → Byte

end Sys2Proof
end

