-- ==== Sys2Proof/Machine/Geometry.lean ====
section
/-! DEFINITION. Dies, nodes, regions, links and page addresses (01_package, Table 20-1). -/

namespace Sys2Proof.Machine

/-- The number of a block's TYPE (Table 20-1). -/
def blkCode : Blk → Nat
  | .rtr => 0x01 | .cog => 0x02 | .prb => 0x03 | .rgn => 0x04 | .qp => 0x05 | .qm => 0x06 | .bank => 0x07
  | .pkg => 0x08 | .clk => 0x09 | .rst => 0x0A | .pwr => 0x0B | .bist => 0x0C | .iob => 0x0D | .hbm => 0x0E
  | .fvl => 0x0F | .cfg => 0x10 | .sec => 0x11 | .glc => 0x12 | .tsk => 0x13 | .wdt => 0x14 | .grn => 0x15
  | .hlth => 0x16 | .pcie => 0x17 | .xcv => 0x18 | .eth => 0x19 | .uart => 0x1A | .spi => 0x1B | .iic => 0x1C
  | .dma => 0x1D | .gov => 0x1E | .enc => 0x1F | .twn => 0x20 | .dbg => 0x21 | .trc => 0x22

/-- Package coordinates of a die's north-west router (Table 1-1). -/
def dieOrigin : Nat → Nat × Nat
  | 0 => (4, 4) | 1 => (4, 0) | 2 => (8, 0) | 3 => (8, 4) | 4 => (8, 8)
  | 5 => (4, 8) | 6 => (0, 8) | 7 => (0, 4) | _ => (0, 0)

/-- The die whose 4 × 4 block holds router (x, y), x and y at most 11. -/
def dieAt (x y : Nat) : Nat :=
  match x / 4, y / 4 with
  | 1, 1 => 0 | 1, 0 => 1 | 2, 0 => 2 | 2, 1 => 3 | 2, 2 => 4 | 1, 2 => 5 | 0, 2 => 6 | 0, 1 => 7 | _, _ => 8

def nodeX (node : Nat) : Nat := node % 16
def nodeY (node : Nat) : Nat := node / 16
def mkNode (x y : Nat) : Nat := y * 16 + x

/-- The node {y,x} of router 12·y + x: commands name the 144 routers by this number (R114). -/
def nodeNum (i : Fin 144) : Nat := mkNode (i.val % 12) (i.val / 12)

/-- A node of the grid exists when x and y are at most 11 (R18). -/
def nodeExists (node : Nat) : Bool := nodeX node ≤ 11 && nodeY node ≤ 11

def nodeDie (node : Nat) : Nat := dieAt (nodeX node) (nodeY node)

def isCapNode (node : Nat) : Bool := nodeExists node && nodeDie node == 0
def isRegionNode (node : Nat) : Bool := nodeExists node && nodeDie node != 0

/-- The sail (1 to 8) of region r = 16·(s − 1) + n (R311). -/
def regionSail (r : Nat) : Nat := r / 16 + 1

/-- The node of region r (R15, R311). -/
def regionNode (r : Nat) : Nat :=
  let o := dieOrigin (regionSail r)
  mkNode (o.1 + r % 4) (o.2 + r % 16 / 4)

/-- The region number of a region node (R15, R311). -/
def nodeRegion (node : Nat) : Nat :=
  let d := nodeDie node
  let o := dieOrigin d
  16 * (d - 1) + 4 * (nodeY node - o.2) + (nodeX node - o.1)

/-- Home nodes (Table 1-6). -/
def homeNode : Nat → Nat
  | 0 => 0x44 | 1 => 0x05 | 2 => 0x0A | 3 => 0x5B | 4 => 0xAB | 5 => 0xB6 | 6 => 0xB1 | 7 => 0x60 | _ => 0x10

/-- The transform and position the strap sets (R11, Tables 1-1, 1-2): mirror, rotation. -/
def strapTransform : Nat → Nat × Nat
  | 1 => (0, 0) | 2 => (1, 0) | 3 => (0, 1) | 4 => (1, 1) | 5 => (0, 2) | 6 => (1, 2) | 7 => (0, 3) | 8 => (1, 3)
  | _ => (0, 0)

/-- The two dies of a link (Table 1-3). -/
def linkDies : Nat → Nat × Nat
  | 0 => (0, 1) | 1 => (0, 3) | 2 => (0, 5) | 3 => (0, 7) | 4 => (1, 2) | 5 => (3, 2) | 6 => (3, 4) | 7 => (5, 4)
  | 8 => (5, 6) | 9 => (7, 6) | 10 => (7, 8) | _ => (1, 8)

/-- The links of a die (Table 1-3). -/
def dieLinks (d : Nat) : List Nat := (List.range 12).filter fun l => (linkDies l).1 == d || (linkDies l).2 == d

/-- Native link sites A to D, 0 to 3, of a link's two ends (Tables 1-2, 1-3); the cap's sites N, E, S, W are 4 to 7
(R480). -/
def linkSites : Nat → Nat × Nat
  | 0 => (4, 2) | 1 => (5, 2) | 2 => (6, 2) | 3 => (7, 2) | 4 => (1, 1) | 5 => (3, 2) | 6 => (1, 1) | 7 => (3, 2)
  | 8 => (1, 1) | 9 => (3, 2) | 10 => (1, 1) | _ => (3, 2)

/-- The router beside router (x, y) on a side, none at the package edge. -/
def neighbour (node : Nat) : Side → Option Nat
  | .north => if 1 ≤ nodeY node then some (mkNode (nodeX node) (nodeY node - 1)) else none
  | .south => if nodeY node < 11 then some (mkNode (nodeX node) (nodeY node + 1)) else none
  | .west => if 1 ≤ nodeX node then some (mkNode (nodeX node - 1) (nodeY node)) else none
  | .east => if nodeX node < 11 then some (mkNode (nodeX node + 1) (nodeY node)) else none

/-- The link that carries the edge between two dies (R16). -/
def linkBetween (a b : Nat) : Option Nat :=
  (List.range 12).find? fun l => linkDies l == (a, b) || linkDies l == (b, a)

/-- The link a router's side crosses, if it leaves the die (R16). -/
def crossingLink (node : Nat) (side : Side) : Option Nat :=
  match neighbour node side with
  | some m => if nodeDie m = nodeDie node then none else linkBetween (nodeDie node) (nodeDie m)
  | none => none

def sideNum : Side → Nat
  | .north => 0 | .east => 1 | .south => 2 | .west => 3

def sideOf : Nat → Side
  | 0 => .north | 1 => .east | 2 => .south | _ => .west

def opposite : Side → Side
  | .north => .south | .east => .west | .south => .north | .west => .east

/-- Package bank number of bank k of region r (R19). -/
def bankOf (r k : Nat) : Nat := 6 * r + k

/-- Package address of the first byte of a bank (Table 1-4). -/
def bankBase (b : Nat) : Nat := regionNode (b / 6) * 2 ^ 40 + 0x1000000 + b % 6 * 0x40000

/-- Package address of a tile's memory (Table 1-4). -/
def tileBase (r t : Nat) : Nat := regionNode r * 2 ^ 40 + 0x2000000 + t * 0x2000

/-- Key of a cell, of a tile and of a tile's lane. -/
def tileKey (r t : Nat) : Nat := r * 36 + t
def cellKey (a : CellAt) : Nat := (a.region.val * 36 + a.tile.val) * 16 + a.cell.val

/-- Node 0x55, 0x56, 0x65, 0x66 of a millpond quarter (R169, R480). -/
def quarterNode : Nat → Nat
  | 0 => 0x55 | 1 => 0x56 | 2 => 0x65 | _ => 0x66

/-- The page of a link's end on a die: pages of links are numbered by die·16 + SITE, since both ends of a link may have
the same SITE and so the same INSTANCE link·8 + SITE (Table 20-1). -/
def fvlPage (l d : Nat) : Page :=
  ⟨.fvl, d * 16 + (if (linkDies l).1 = d then (linkSites l).1 else (linkSites l).2)⟩

/-- The link at a site of a die. -/
def siteLink (d site : Nat) : Option Nat := (List.range 12).find? fun l => fvlPage l d == ⟨.fvl, d * 16 + site⟩ &&
  ((linkDies l).1 == d || (linkDies l).2 == d)

/-- The other die of a link. -/
def farDie (l d : Nat) : Nat := if (linkDies l).1 = d then (linkDies l).2 else (linkDies l).1

/-- The side of die d that faces die e, as a port number (Table 1-1). -/
def facing (d e : Nat) : Nat :=
  let o := dieOrigin d
  let p := dieOrigin e
  if p.2 < o.2 then 0 else if o.1 < p.1 then 1 else if o.2 < p.2 then 2 else 3

/-- Router edge e of a link at die d (Table 11-2): the node and its port. -/
def linkEdge (l d e : Nat) : Nat × Nat :=
  let o := dieOrigin d
  let side := facing d (farDie l d)
  (match side with
   | 0 => mkNode (o.1 + e) o.2
   | 1 => mkNode (o.1 + 3) (o.2 + e)
   | 2 => mkNode (o.1 + e) (o.2 + 3)
   | _ => mkNode o.1 (o.2 + e), side)

/-- The edge number of a router's crossing port. -/
def edgeOf (node port : Nat) : Nat := if port = 0 ∨ port = 2 then nodeX node % 4 else nodeY node % 4

/-- The node that carries a page (Table 20-1). -/
def pageNode (p : Page) : Nat :=
  match p.blk with
  | .rtr | .cog | .prb => p.inst
  | .rgn => regionNode p.inst
  | .qp => if p.inst < 128 then regionNode p.inst else quarterNode (p.inst - 0x100)
  | .qm => quarterNode p.inst
  | .bank => regionNode (p.inst / 6)
  | .pkg | .bist | .hbm => homeNode p.inst
  | .clk | .rst | .pwr => if p.inst = 0 then 0x74 else homeNode p.inst
  | .iob => if p.inst = 0 then 0x75 else homeNode p.inst
  | .fvl => homeNode (p.inst / 16)
  | .cfg | .sec => 0x44
  | .glc | .tsk => if p.inst < 2 then 0x45 else 0x46
  | .wdt => if p.inst = 0 then 0x45 else 0x46
  | .grn | .hlth => 0x47
  | .pcie => 0x54
  | .xcv => if p.inst = 0 then 0x54 else 0x57
  | .eth => 0x57
  | .uart | .spi | .iic => 0x75
  | .dma => 0x76
  | .gov | .enc => 0x64
  | .twn => 0x67
  | .dbg | .trc => 0x77

end Sys2Proof.Machine
end

