-- ==== Sys2Proof/Machine/Data/Control.lean ====
section
/-! DEFINITION. The state of fuses, the SEC engine, clocks, resets and power (12_security, 14_clocks_resets_power) beside
their registers. -/

namespace Sys2Proof.Machine

/-- Fuses (Table 12-3), the stepping and feature level of the dies (Tables 1-10, 20-4), and the brake fuses of the I/O
banks (R436): two bits by die·4 + bank. -/
structure Fuses where
  lc         : BitVec 4
  hash       : Vector (BitVec 384) 3
  revoke     : BitVec 3
  rollback   : Vector (BitVec 64) 4
  unlockFail : BitVec 64
  serial     : DWord
  helper     : BitVec 2048
  stepping   : BitVec 16
  level      : Vector (BitVec 8) 9
  brake      : Tbl Nat
  deriving DecidableEq, Repr

/-- See the log (DESIGN CHOICE, log entry 3). -/
def Fuses.blank : Fuses :=
  { lc := 0, hash := Vector.replicate 3 0, revoke := 0, rollback := Vector.replicate 4 0, unlockFail := 0, serial := 0
    helper := 0, stepping := 0, level := Vector.replicate 9 0, brake := [] }

/-- Device keys (Table 12-1): DIK as a private number, DWK, SEK. -/
structure SecKeys where
  dik : Nat
  dwk : List Byte
  sek : List Byte
  deriving DecidableEq, Repr

/-- A life-cycle transition before its step 5 (R292): opcode, LC bit, the owner hash to be fused with it, and whether the
fuses will verify. -/
structure LcJob where
  op     : Nat
  bit    : Nat
  hash   : Option (BitVec 384)
  fuseOk : Bool
  deriving DecidableEq, Repr

/-- The SEC engine (R282 to R300). -/
structure Sec where
  /-- device keys in force, none while zeroised (R282); the last reconstruction failed its check (R283) -/
  keys      : Option SecKeys
  keyFail   : Bool
  /-- a transition that waits for its secure wipes (R292) -/
  lcJob     : Option LcJob
  /-- image keys of OWNER slots in SEC (R284) -/
  slots     : Tbl (List Byte)
  nonceOk   : Bool
  /-- words in the TRNG buffer -/
  words     : Nat
  mesh      : Word
  /-- network cycle of the last failed unlock (R298) -/
  failedAt  : Option Nat
  /-- a tamper HALT is in force (R296) -/
  halt      : Bool
  deriving DecidableEq, Repr

def Sec.reset : Sec :=
  { keys := none, keyFail := false, lcJob := none, slots := [], nonceOk := false, words := 0, mesh := 0, failedAt := none, halt := false }

/-- A `PWR.DOM_REQ` being carried out (R343, R344). -/
structure DomReq where
  op    : Nat
  die   : Nat
  kind  : Nat
  index : Nat
  /-- SLEEP: the gate has gone ASLEEP (step 4) -/
  asleep : Bool
  deriving DecidableEq, Repr

/-- The power manager (R338 to R344). -/
structure Power where
  req  : Option DomReq
  /-- cap domains OFF: bits 1 to 3 cores, 4 DMA, 5 TRC -/
  off  : BitVec 6
  /-- telemetry of the control period by die: sum in 0.1 W, and messages -/
  acc  : Tbl (Nat × Nat)
  /-- consecutive periods over the setpoint with nothing left to throttle (R341) -/
  overrun : Nat
  deriving DecidableEq, Repr

def Power.reset : Power := { req := none, off := 0, acc := [], overrun := 0 }

/-- What the board ties and supplies (R490 to R501): position straps by sail (R11), the boot-mode and TWIN_ID straps,
BRKSEL levels as sampled at POR release, the level of RESET_N, POR, VCC_DBG present, and VCCIO planes below 80 % by
die·4 + bank. -/
structure Board where
  straps   : Tbl Nat
  bootMode : Nat
  twinId   : Bool
  brksel   : BitVec 9
  resetLow : Bool
  por      : Bool
  vccDbg   : Bool
  vccioBad : BitVec 36
  deriving DecidableEq, Repr

/-- See the log (DESIGN CHOICE, log entry 3). -/
def Board.reset : Board :=
  { straps := [], bootMode := 0, twinId := false, brksel := 0, resetLow := false, por := true, vccDbg := true, vccioBad := 0 }

end Sys2Proof.Machine
end

