-- ==== Sys2Proof/Machine/Data/Core.lean ====
section
/-! DEFINITION. The state of the Glaette cores and their watchdogs (16_glaette_cores) beside their registers. -/

namespace Sys2Proof.Machine

/-- A slot of the window ring (R378): tag, halves, and the slot below it in its task's chain. LINK keeps bits 31:2. -/
structure WSlot where
  valid : Bool
  task  : Nat
  out   : Bool
  age   : Nat
  link  : Word
  p     : Vector Word 8
  w     : Vector Word 8
  below : Option Nat
  deriving DecidableEq, Repr

/-- See the log (DESIGN CHOICE, log entry 5). -/
def WSlot.free : WSlot :=
  { valid := false, task := 0, out := false, age := 0, link := 0, p := Vector.replicate 8 0, w := Vector.replicate 8 0
    below := none }

/-- A line of a data cache (R393): core address divided by 64, its bytes, and whether they await write-back. -/
structure CacheLine where
  line  : Nat
  data  : List Byte
  dirty : Bool
  deriving DecidableEq, Repr

/-- A counter in µs that counts down: network cycles left when it was last set, and the cycle of that moment while it
runs. -/
structure Countdown where
  left    : Nat
  since   : Option Nat
  deriving DecidableEq, Repr

def Countdown.zero : Countdown := { left := 0, since := none }

/-- A Glaette core (R377 to R405). -/
structure Core where
  shared  : Vector Word 8
  slots   : Vector WSlot 12
  nextAge : Nat
  /-- the running task, with its PC and the bits of ST that are stored (Table 16-3) -/
  task    : Option Nat
  pc      : Word
  st      : Word
  xpc     : Word
  xst     : Word
  xcause  : Word
  xaddr   : Word
  /-- caches by set, most recently used line first -/
  dcache  : Tbl (List CacheLine)
  icache  : Tbl (List Nat)
  /-- tasks in order of rotation (R403) -/
  order   : List Nat
  /-- task timers, the mask of each waiting task's WAIT, and the core's watchdog (R402, R406) -/
  timers  : Tbl Countdown
  masks   : Tbl Word
  wdt     : Countdown
  /-- an access whose target is under test: its address and the retries made (R394) -/
  bus     : Option (Nat × Nat)
  /-- the interrupted task's WIN while its trap handler runs; a switch to a task of the same priority is due (R380, R397) -/
  intr    : Option Nat
  turnDue : Bool
  /-- a debug halt waits for the end of a locked sequence; a step is under way (R469, R470) -/
  haltAsk : Bool
  stepping : Bool
  deriving DecidableEq, Repr

/-- See the log (DESIGN CHOICE, log entry 5). -/
def Core.reset : Core :=
  { shared := Vector.replicate 8 0, slots := Vector.replicate 12 WSlot.free, nextAge := 0, task := none, pc := 0, st := 0
    xpc := 0, xst := 0, xcause := 0, xaddr := 0, dcache := [], icache := [], order := List.range 16, timers := [], masks := []
    wdt := Countdown.zero, bus := none, intr := none, turnDue := false, haltAsk := false, stepping := false }

end Sys2Proof.Machine
end

