-- ==== Sys2Proof/Machine/Data/Fabric.lean ====
section
/-! DEFINITION. The state of cells, tiles and regions (03_cells, 04_cell_operations, 05_tiles_and_regions). -/

namespace Sys2Proof.Machine

/-- The word IDLE with cause EMPTY (R31, R32): tag 0x18, data 0. -/
abbrev idleWord : SWord := 0x1800000000#38

/-- A result on its way (R50): what a micro-instruction issued in one region cycle writes and drives in a later one. -/
structure InFlight where
  /-- region cycle of issue -/
  issue : Nat
  /-- region cycle from which the result is visible, issue + L -/
  land  : Nat
  /-- context of the slot (R49 names it) -/
  ctx   : BitVec 3
  /-- destination code of Table 4-4; `none` where nothing is written by DST -/
  dst   : Option (BitVec 5)
  val   : Word
  /-- the accumulator's new value, for accumulating operations (R83) -/
  acc   : Option DWord
  /-- flags written: mask and values in the order Z N C V P, Z in bit 0 -/
  fmask : BitVec 5
  flags : BitVec 5
  /-- outputs driven: bit 3 N, 2 E, 1 S, 0 W (R73), and the word driven -/
  omask : BitVec 4
  word  : SWord
  /-- the context register's new number and hold bit (R64) -/
  num   : Option (BitVec 3)
  hold  : Option Bool
  deriving DecidableEq, Repr

/-- A cell's state (R46, Table 3-1) with the words it drives and the results in flight. -/
structure Cell where
  v       : Vector Word 16
  acc     : DWord
  /-- Z, N, C, V, P in bits 0 to 4 -/
  flags   : BitVec 5
  m0      : BitVec 11
  m1      : BitVec 11
  ctxNum  : BitVec 3
  ctxHold : Bool
  sptr    : Vector (BitVec 3) 8
  last    : Option (BitVec 3)
  flight  : List InFlight
  /-- outputs N, E, S, W and the region cycle they are driven in; in every other cycle they carry IDLE EMPTY (R48) -/
  outs    : Vector SWord 4
  outCyc  : Nat
  /-- the sum an accumulating operation issued in `accCyc` produces, for chaining (R52) -/
  accSum  : DWord
  accCyc  : Nat
  /-- carry driven to the east neighbour in region cycle `ranCyc`, and the last region cycle in which a slot ran -/
  carry   : Bool
  ranCyc  : Nat
  deriving DecidableEq, Repr

/-- A cell before activation: it holds no state (R68); every value a load does not state is 0 (R69). -/
def Cell.reset : Cell :=
  { v := Vector.replicate 16 0#32, acc := 0, flags := 0, m0 := 0, m1 := 0, ctxNum := 0, ctxHold := false
    sptr := Vector.replicate 8 0#3, last := none, flight := [], outs := Vector.replicate 4 idleWord, outCyc := 0
    accSum := 0, accCyc := 0, carry := false, ranCyc := 0 }

/-- A BE read or write of tile memory being served word by word (R56, R503). -/
structure TileAccess where
  pkt    : Packet
  /-- words already served, in address order -/
  done   : Nat
  /-- data read so far -/
  data   : List Word
  deriving DecidableEq, Repr

/-- A region's state beside its registers (R102 to R111). Region cycles are counted from activation, A being cycle 0. -/
structure Region where
  /-- region cycle about to run -/
  cyc      : Nat
  /-- what the sequencer presents in that cycle (R105) -/
  seqCtx   : BitVec 3
  step     : Bool
  /-- sequencer: entry in force, steps left in it, pending steps, region cycles since the last step, next crossing
  point in 1/256 count -/
  entry    : Nat
  spanLeft : Nat
  backlog  : Nat
  kcount   : Nat
  cross    : Option (BitVec 56)
  axisWait : Bool
  /-- incoming lanes latched for the present cycle, key tile·16 + side·4 + lane -/
  lanes    : Tbl SWord
  /-- long lines for the present cycle, key row·4 + t for H, 24 + column·4 + t for V -/
  lines    : Tbl SWord
  /-- words on outgoing boundary lanes, taken by send ports in the present cycle, key tile·16 + side·4 + lane -/
  bound    : Tbl SWord
  /-- words the receive ports present in the present cycle, key port -/
  present  : Tbl SWord
  /-- region cycle (plus one) in which an owner last accessed a quarter, key tile·4 + quarter -/
  qbusy    : Tbl Nat
  /-- BE tile-memory accesses waiting, in order of admission, each with its tile -/
  tileAcc  : List TileAccess
  /-- destinations of BE send ports (TXDEST): key port; value node·64 + port, with its BE priority -/
  txdest   : Tbl Word
  deriving DecidableEq, Repr

def Region.reset : Region :=
  { cyc := 0, seqCtx := 0, step := false, entry := 0, spanLeft := 0, backlog := 0, kcount := 0, cross := none, axisWait := false, lanes := []
    lines := [], bound := [], present := [], qbusy := [], tileAcc := [], txdest := [] }

end Sys2Proof.Machine
end

