-- ==== Sys2Proof/Machine/Data/Governor.lean ====
section
/-! DEFINITION. The governor's state (09_governor) beside its registers. Times of edges are in 1/8 ns of the timebase. -/

namespace Sys2Proof.Machine

/-- One axis of a governor sample (R218): published position 48.8, newest edge, V in 2^−24 counts/µs, state and flags. -/
structure AxSample where
  pos   : BitVec 56
  te    : Int
  pe    : BitVec 56
  vel   : Int
  state : BitVec 2
  still : Bool
  overspeed : Bool
  deriving DecidableEq, Repr

def AxSample.reset : AxSample := { pos := 0, te := 0, pe := 0, vel := 0, state := 0, still := false, overspeed := false }

/-- A governor sample of all axes, with the timebase value in ns at which it was taken (R218). -/
structure GovSample where
  time : Nat
  axes : Vector AxSample 4
  deriving DecidableEq, Repr

def GovSample.reset : GovSample := { time := 0, axes := Vector.replicate 4 AxSample.reset }

/-- An axis (R211 to R215) beside `GOV.AX_STAT`. -/
structure Axis where
  /-- position, unsigned 48.16 modulo 2^64 -/
  pos     : BitVec 64
  /-- newest edge: time, and position after it -/
  te      : Int
  pe      : BitVec 64
  /-- edges of one direction since the last reversal or reference, newest first: time and position -/
  hist    : List (Int × BitVec 64)
  vel     : Int
  /-- value-derived position and the last frame value, in ABS and INC_ABS modes (R211, R213) -/
  absPos  : BitVec 64
  frame   : Option (BitVec 48)
  /-- consecutive bad frames (R213) -/
  bad     : Nat
  deriving DecidableEq, Repr

/-- See the log (DESIGN CHOICE, log entry 5). -/
def Axis.reset : Axis :=
  { pos := 0, te := 0, pe := 0, hist := [], vel := 0, absPos := 0, frame := none, bad := 0 }

/-- An encoder channel (R205 to R208): accepted input levels, the SSI frame under way. -/
structure EncChan where
  a       : Bool
  b       : Bool
  z       : Bool
  /-- first falling clock edge of the SSI frame under way, in 1/8 ns -/
  frameAt : Option Int
  /-- earliest start of the next SSI frame, in 1/8 ns: POLL after the last start, RECOVER after its end (R208) -/
  nextAt  : Int
  /-- inputs found open or shorted, bits A, B, Z (R209) -/
  fault   : BitVec 3
  deriving DecidableEq, Repr

/-- See the log (DESIGN CHOICE, log entry 5). -/
def EncChan.reset : EncChan := { a := false, b := false, z := false, frameAt := none, nextAt := 0, fault := 0 }

/-- A line trigger (R229 to R231): next point or next time in ns; the firing time predicted for the point in 1/8 ns and
whether it is committed; the last firing; the words of its GS source. -/
structure Trigger where
  point  : Option (BitVec 56)
  next   : Nat
  tp     : Option Int
  fixed  : Bool
  lastAt : Option Int
  source : List SWord
  deriving DecidableEq, Repr

def Trigger.reset : Trigger := { point := none, next := 0, tp := none, fixed := false, lastAt := none, source := [] }

end Sys2Proof.Machine
end

