-- ==== Sys2Proof/Machine/Data/Granary.lean ====
section
/-! DEFINITION. The state of the granary and the health monitors (17_granary_and_health) beside their registers. -/

namespace Sys2Proof.Machine

/-- Who asks the granary for an operation (R414, R417): initiators of the command register that are neither a core nor
the boot ROM, tasks of the cores, secure tasks and the boot ROM; the device's own writers, the SEC engine, the fantail. -/
inductive GrnWho where
  | other | core | secure | device | sec | fantail
  deriving DecidableEq, Repr

/-- A request to the granary: OP (1 COMMIT, 2 DELETE, 3 READ), identifier, LEN and ADDR of the command register; the
payload that a writer inside the device brings. -/
structure GrnReq where
  op   : Nat
  who  : GrnWho
  id   : Word
  len  : Nat
  addr : Nat
  data : List Byte
  deriving DecidableEq, Repr

/-- A commit in flight (R417). -/
structure GrnCommit where
  who  : GrnWho
  id   : Word
  tomb : Bool
  data : List Byte
  deriving DecidableEq, Repr

/-- The current version of an identifier (R416): flash offset of its header, SEQ, TOMB, LEN. -/
structure GrnEntry where
  off  : Nat
  seq  : Word
  tomb : Bool
  len  : Nat
  deriving DecidableEq, Repr

/-- The granary (R414 to R422). The flash itself stands in byte memory, in the granary read window. -/
structure Grn where
  /-- current versions by identifier (R418) -/
  index   : Tbl (Option GrnEntry)
  /-- areas whose scan has ended, bit a (R418) -/
  scanned : BitVec 3
  /-- sectors in use by area, oldest first, the head last; next free unit of 16 bytes in the head -/
  used    : Tbl (List Nat)
  pos     : Tbl Nat
  /-- SEQ of the newest commit by area -/
  seq     : Tbl Word
  /-- failed programs by sector, retired sectors, and sectors whose erase was abandoned (R416, R420) -/
  failed  : Tbl Nat
  retired : List Nat
  cut     : List Nat
  /-- requests in arrival order, the commit in flight, the sector being erased (R417, R419) -/
  queue   : List GrnReq
  flight  : Option GrnCommit
  erasing : Option Nat
  deriving DecidableEq, Repr

/-- See the log (DESIGN CHOICE, log entry 3). -/
def Grn.blank : Grn :=
  { index := [], scanned := 0, used := [], pos := [], seq := [], failed := [], retired := [], cut := [],
    queue := [], flight := none, erasing := none }

/-- The health monitors (R423 to R425). -/
structure Health where
  /-- hourly values of U in 1/300,000, newest first, at most 1,000 -/
  hist    : List Nat
  /-- monitors excluded until the next cap reset, by die -/
  bad     : Tbl (BitVec 32)
  /-- `LIFE_WARN`, `LIFE_ALARM`, `END_OF_LIFE` raised and not yet re-armed (R425) -/
  warned  : Bool
  alarmed : Bool
  ended   : Bool
  /-- margins and retry counts of trainings by link, newest first (R425) -/
  trained : Tbl (List (Nat × Nat))
  /-- the wear record as last committed: hours and hourly values (R424) -/
  saved   : Nat × List Nat
  deriving DecidableEq, Repr

def Health.reset : Health :=
  { hist := [], bad := [], warned := false, alarmed := false, ended := false, trained := [], saved := (0, []) }

end Sys2Proof.Machine
end

