-- ==== Sys2Proof/Machine/Data/Io.lean ====
section
/-! DEFINITION. The state of I/O groups (18_io_and_interfaces) beside their registers. Times are exact fractions of 1/8 ns
of the sail's timebase copy: numerator and denominator. -/

namespace Sys2Proof.Machine

/-- A moment as an exact fraction of 1/8 ns; the denominator is not 0. -/
abbrev Moment := Int × Nat

/-- A stamped packet at an output group (R222 to R226). -/
structure StampPkt where
  target  : BitVec 56
  /-- predicted crossing, while there is one -/
  tp      : Option Moment
  /-- DATA and DATA-CTX words that have arrived -/
  words   : List SWord
  /-- words it occupies in the buffer, the POS word included -/
  stored  : Nat
  ended   : Bool
  /-- committed: I/O cycle k, tap, and the moment of the first word (R224) -/
  first   : Option (Int × Nat × Moment)
  driving : Bool
  deriving DecidableEq, Repr

/-- What becomes of the rest of the packet now arriving at a group: it is discarded, or discarded and counted in the POISON
word that its END makes (R33). -/
inductive GrpRest where
  | none | drop
  | poison (cause count : Nat)
  deriving DecidableEq, Repr

/-- A group of a sail (R430 to R433). -/
structure Grp where
  /-- stamped packets in arrival order; a packet is arriving; the rest of it is discarded -/
  pkts    : List StampPkt
  inPkt   : Bool
  rest    : GrpRest
  /-- STREAM: words not yet driven with the moment each begins, and how many of the youngest belong to the packet now
  arriving -/
  stream  : List (SWord × Moment)
  curLen  : Nat
  /-- the moment up to which beats are taken, and the last word driven -/
  busy    : Moment
  last    : Option SWord
  /-- words given to the pins with the moment each begins; the last that has ended stays for HOLD -/
  line    : List (SWord × Moment)
  /-- CAPTURE: words for the GS source; words placed of the packet now forming, of PKT; its rest is discarded -/
  cap     : List SWord
  capCnt  : Nat
  capDrop : Bool
  deriving DecidableEq, Repr

def Grp.reset : Grp :=
  { pkts := [], inPkt := false, rest := .none, stream := [], curLen := 0, busy := (0, 1), last := none, line := [], cap := []
    capCnt := 0, capDrop := false }

end Sys2Proof.Machine
end

