-- ==== Sys2Proof/Machine/Data/Network.lean ====
section
/-! DEFINITION. The state of routers, endpoints, cog schedules and queues (06_millrace, 07_scheduled_service,
08_millpond_queues) beside their registers. -/

namespace Sys2Proof.Machine

/-- What holds an output channel, or runs through an input channel: the other end of the path and the packet's header
(R124, R139). -/
structure Passage where
  port : Nat
  hdr  : Header
  deriving DecidableEq, Repr

/-- A BE packet arriving flit by flit at an L port: whether the gate admitted it at its HEAD (R135), its header and the
payload so far. -/
structure Arriving where
  admitted : Bool
  hdr      : Header
  payload  : List Flit
  deriving DecidableEq, Repr

/-- A request that expects a response, as its destination keeps it until the response has gone (R124): the initiator's node
and port, its transaction number, and the response once it is made. -/
structure Owed where
  src  : BitVec 8
  port : BitVec 6
  txn  : BitVec 8
  resp : Option Packet
  deriving DecidableEq, Repr

/-- The discard under way at a GS receiving port after an uncorrectable group, or after a reserved control code (R34,
R41): the POISON cause and the words counted so far. -/
structure PortSpoil where
  cause : Nat
  count : Nat
  deriving DecidableEq, Repr

/-- A router and its endpoint (R114 to R141). Ports N, E, S, W, L are 0 to 4; a channel is port·8 + VC. -/
structure Router where
  /-- BE input buffers by channel, oldest flit first, each flit with the network cycle of its buffer write (R116, R123,
  R127) -/
  bufs    : Tbl (List (Nat × ChanFlit))
  /-- GS flits between input buffer and output register (R116): network cycle of the output register, input, flit -/
  pipe    : List (Nat × Nat × ChanFlit)
  /-- flits of injected packets that still wait at L for a credit, by VC (R126, R127), and the first network cycle in
  which L takes a flit again (R115) -/
  inject  : Tbl (List ChanFlit)
  injNext : Nat
  /-- input channels discarding a packet to its TAIL (R131) -/
  discard : Tbl Bool
  /-- what holds an output channel from HEAD to TAIL: the input and header (R124) -/
  held    : Tbl (Option Passage)
  /-- credits consumed and not yet returned, by output channel (R126) -/
  used    : Tbl Nat
  /-- starvation counts by output channel (R125) -/
  starve  : Tbl Nat
  /-- input last granted, by output channel (R125) -/
  granted : Tbl Nat
  /-- output registers: the flit that left by each port in network cycle `outCyc` -/
  outs    : Tbl (Option ChanFlit)
  outCyc  : Nat
  /-- BE packets arriving at L, by VC -/
  arrive  : Tbl (Option Arriving)
  /-- requests whose response has not gone, in the order of arrival (R124) -/
  owed    : List Owed
  /-- discards under way at receiving ports (R41), by EJ -/
  spoil   : Tbl (Option PortSpoil)
  /-- trace records waiting for injection, at most four (R141) -/
  traces  : List Packet
  /-- on a cap node: the first island of its blocks has left reset, so its gate follows CLOSE (R142, R337) -/
  opened  : Bool
  deriving DecidableEq, Repr

/-- See the log (DESIGN CHOICE, log entry 5; DESIGN CHOICE, log entry 20). -/
def Router.reset : Router :=
  { bufs := [], pipe := [], inject := [], injNext := 0, discard := [], held := [], used := [], starve := []
    granted := [], outs := [], outCyc := 0, arrive := [], owed := [], spoil := [], traces := [], opened := false }

/-- The cog counter and round count of a die's routers, a round length taken at a later round (R145), and the die's
timebase copy when the round began, in 1/8 ns (R268). -/
structure DieCogs where
  cog    : Nat
  round  : Word
  len    : Nat
  newLen : Option (Nat × Word)
  began  : Int
  deriving DecidableEq, Repr

def DieCogs.reset : DieCogs := { cog := 0, round := 0, len := 1024, newLen := none, began := 0 }

/-- A queue descriptor (R171, Table 8-2). -/
structure Desc where
  state    : BitVec 3
  gated    : Bool
  axis     : BitVec 2
  flush    : Bool
  marker   : Bool
  weir     : BitVec 12
  ringLog2 : BitVec 5
  lead     : Word
  base     : BitVec 40
  markCnt  : BitVec 24
  rd       : BitVec 29
  rdWord   : BitVec 3
  wr       : BitVec 29
  /-- packets whose END word is stored; PKTS of the table is `Desc.shown` -/
  pkts     : BitVec 24
  bound    : Bool
  kind     : BitVec 2
  port     : BitVec 6
  node     : BitVec 8
  deriving DecidableEq, Repr

def Desc.zero : Desc :=
  { state := 0, gated := false, axis := 0, flush := false, marker := false, weir := 0, ringLog2 := 0, lead := 0
    base := 0, markCnt := 0, rd := 0, rdWord := 0, wr := 0, pkts := 0, bound := false, kind := 0, port := 0, node := 0 }

/-- Phases of a leat transfer (R182): sent and waiting for its response; waiting to be reissued; answered; waiting for its
first issue. -/
inductive LeatPhase where
  | sent | retry | done | queued
  deriving DecidableEq, Repr

/-- A leat transfer of one ring slot (R182). -/
structure Leat where
  txn    : BitVec 8
  slot   : Nat
  phase  : LeatPhase
  /-- network cycle of the latest issue -/
  issued : Nat
  /-- the slot's words, for a spill write; the words read, for a refill already answered -/
  words  : List SWord
  /-- the transfer's words were removed by a flush or a rollback: it completes and has no further effect -/
  dead   : Bool
  deriving DecidableEq, Repr

/-- The spoiled packet under way at a producer side: replaced by POISON (R33), discarded for want of room (R181),
`starved` telling SPILL_STARVED from OVERFLOW, or removed by a forced flush (R192). -/
inductive Spoil where
  | none
  | poison (cause count : Nat)
  | drop (starved : Bool)
  | flushed
  deriving DecidableEq, Repr

/-- A ring slot that holds words of the packet now arriving: its index, the older words it begins with, and how many
words of the packet it holds (R181). -/
structure PktSlot where
  slot  : Nat
  older : List SWord
  count : Nat
  deriving DecidableEq, Repr

/-- Unbinding phases (R175): none; waiting for leat transfers; writing the words to the ring. -/
inductive UnbindPhase where
  | none | draining | writing
  deriving DecidableEq, Repr

/-- A queue's attachment (R168, R176): a region port, a millpond GS window, or a service queue's producer and consumer
sides. -/
structure Att where
  bound    : Bool
  queue    : Nat
  window   : List SWord
  staging  : List SWord
  writes   : List Leat
  reads    : List Leat
  nextTxn  : BitVec 8
  /-- words of the packet now arriving: how many have come (R38), those stored, and the ring slots they lie in -/
  arrived  : Nat
  cur      : List SWord
  /-- every word of that packet stored so far, delivered ones included (R361) -/
  whole    : List SWord
  slots    : List PktSlot
  spoil    : Spoil
  /-- network cycle of the last arrival -/
  lastArr  : Nat
  /-- the consumer has taken part of the head packet; its gate has released it (R193) -/
  mid      : Bool
  released : Bool
  /-- a refill lost its slot: words that come next to the window are discarded up to an END, with their number so far;
  one POISON word then takes their place (R183) -/
  skip     : Option Nat
  /-- places in the window of the POISON words that stand for lost slots (R183): PKTS does not count them -/
  lost     : List Nat
  /-- BE send port (R168): header of the STREAM packet under way, payload flits still to come, the words of the next one,
  and whether an END has closed it -/
  beHdr    : Option Header
  beLeft   : Nat
  beBuf    : List SWord
  beEnd    : Bool
  /-- network cycle in which the pending flush was requested -/
  flushAt  : Nat
  unbind   : UnbindPhase
  unbindAt : Nat
  /-- RD and WR once the words of an unbinding queue are written -/
  unbindRd : Nat
  unbindWr : Nat
  deriving DecidableEq, Repr

/-- See the log (DESIGN CHOICE, log entry 5). -/
def Att.reset : Att :=
  { bound := false, queue := 0, window := [], staging := [], writes := [], reads := [], nextTxn := 0, arrived := 0
    cur := [], whole := [], slots := [], spoil := .none, lastArr := 0, mid := false, released := false, skip := none
    lost := [], beHdr := none, beLeft := 0, beBuf := [], beEnd := false, flushAt := 0
    unbind := .none, unbindAt := 0, unbindRd := 0, unbindWr := 0 }

end Sys2Proof.Machine
end

