-- ==== Sys2Proof/Machine/Data/Link.lean ====
section
/-! DEFINITION. The state of the Filvar links (11_filvar_links) beside their registers. -/

namespace Sys2Proof.Machine

/-- A slot of a frame (Table 11-3): router edge, and the flit with the cog and round of its output register. -/
structure Slot where
  edge  : Nat
  cog   : Nat
  round : Word
  flit  : ChanFlit
  deriving DecidableEq, Repr

/-- A Filvar frame (Table 11-2): the sender's cog and round count, FENCE, credit returns (edge and VC), slots, the sample
word with its index, and the control word with its type. -/
structure Frame where
  cog   : Nat
  round : Word
  fence : Bool
  cred  : List (Nat × Nat)
  slots : List Slot
  svc0  : Option (Nat × DWord)
  svc1  : Option (Nat × Word)
  deriving DecidableEq, Repr

/-- One end of a link. -/
structure LinkEnd where
  /-- flits that left the routers and wait for a slot; credits to return -/
  wait  : List Slot
  cred  : List (Nat × Nat)
  /-- slots placed in a window of eight cogs, and the window (R264) -/
  win   : Nat × Nat
  /-- frames on their way to the far end, oldest first, and how often the oldest has failed its CRC (R276) -/
  sent  : List Frame
  fails : Nat
  /-- retries in a span of 2^16 rounds, and the span (R276) -/
  burst : Nat × Nat
  /-- governor sample words received in order (R267), and the low half of a TBLO word -/
  rx    : List DWord
  tblo  : Word
  /-- BE packets received past HEAD without TAIL, by edge·8 + VC (R278) -/
  open_ : Tbl Bool
  /-- the ROUND word received in training step 7, with the network cycle of its receipt, and the timebase that the TBLO
  and TBHI words then made (R147, R269) -/
  mkRound : Option (Word × Nat)
  mkTime  : Option DWord
  /-- cog counter and low round bits of the newest frame received, for the ECHO words of training step 6 (R268) -/
  echo    : Nat × Nat
  deriving DecidableEq, Repr

def LinkEnd.reset : LinkEnd :=
  { wait := [], cred := [], win := (0, 0), sent := [], fails := 0, burst := (0, 0), rx := [], tblo := 0, open_ := []
    mkRound := none, mkTime := none, echo := (0, 0) }

/-- A link: training step in progress, 0 none (R269); network cycles of entries into RETRAIN in the last 10 s (R278). -/
structure Link where
  step    : Nat
  entries : List Nat
  deriving DecidableEq, Repr

def Link.reset : Link := { step := 0, entries := [] }

/-- What link training has found: sails that answered, strap faults, dies aligned to the markers (bits by die), feature
levels reported, and whether the boot's training has ended (R14, R27, R147, R275). -/
structure Training where
  answered : BitVec 9
  strapBad : BitVec 9
  aligned  : BitVec 9
  levels   : Tbl Nat
  done     : Bool
  deriving DecidableEq, Repr

def Training.reset : Training := { answered := 0, strapBad := 0, aligned := 0, levels := [], done := false }

/-- A GS flit held by an aligner: input port, the cog and round of its release (R153). -/
structure Held where
  port  : Nat
  cog   : Nat
  round : Word
  flit  : ChanFlit
  deriving DecidableEq, Repr

end Sys2Proof.Machine
end

