-- ==== Sys2Proof/Machine/Data/Loader.lean ====
section
/-! DEFINITION. The state of the loader (13_configuration) and of self-test (19_test_and_debug) beside their registers. -/

namespace Sys2Proof.Machine

/-- A record as staged (R306). -/
structure Rec where
  type   : Nat
  cond   : Nat
  target : DWord
  data   : List Byte
  deriving DecidableEq, Repr

/-- The loader (R304 to R327). -/
structure Loader where
  /-- the header of the stream in progress; plaintext of its records so far; stream offset of the next record -/
  hdr     : List Byte
  text    : List Byte
  off     : Nat
  /-- staged records in arrival order: shadow planes and staging store -/
  recs    : List Rec
  ended   : Bool
  /-- regions a record's encoding error rejected -/
  bad     : List Nat
  /-- package addresses and lengths written directly (R310) -/
  direct  : List (Nat × Nat)
  /-- the load is an attempt of the boot ROM; the golden attempt; the variant -/
  boot    : Bool
  golden  : Bool
  variant : Nat
  /-- the tag has verified and stage 4 waits (R323); then T_act in ns -/
  waiting : Bool
  tact    : Option Nat
  /-- a sluice stream is in progress -/
  sluice  : Bool
  /-- versions of the images running, by KIND -/
  ran     : Tbl (Option Nat)
  /-- chain: bytes beyond the own stream are forwarded; the byte on CHO_D (R316) -/
  forward : Bool
  chainOut : Option Byte
  /-- bytes that came by the chain input, and STREAM_LEN of the own stream, 0 until its header has passed check 4 (R316) -/
  chainIn : Nat
  ownLen  : Nat
  /-- stream bytes received and not yet taken as a header, a record or the tag -/
  buf     : List Byte
  /-- flash source: SOURCE of the manifest entry (0 striped, 1 port 0, 2 port 1) and OFFSET; its LENGTH (R310, R315) -/
  flash   : Option (Nat × Nat)
  limit   : Option Nat
  /-- SRC MEMORY: package address of the next byte, and bytes still to be read (R315) -/
  memAt   : Option (Nat × Nat)
  /-- boot has stopped for good (R455); network cycle in which the boot began -/
  dead    : Bool
  bootAt  : Nat
  deriving DecidableEq, Repr

def Loader.reset : Loader :=
  { hdr := [], text := [], off := 0, recs := [], ended := false, bad := [], direct := [], boot := false, golden := false
    variant := 0, waiting := false, tact := none, sluice := false, ran := [], forward := false, chainOut := none
    chainIn := 0, ownLen := 0, buf := [], flash := none, limit := none, memAt := none
    dead := false, bootAt := 0 }

/-- A unit of self-test (Table 19-1): type 1 to 7, die, index. -/
structure TestUnit where
  type  : Nat
  die   : Nat
  index : Nat
  deriving DecidableEq, Repr

/-- Self-test engines (R452 to R460). -/
structure Bist where
  /-- units under test, and whether their test is an online one -/
  running : List (TestUnit × Bool)
  /-- units that have failed since the last cap reset, in the entries of the failure record (R456) -/
  failed  : List Word
  /-- number of failures of this boot -/
  fails   : Nat
  /-- the next unit of each engine, by die: of the boot test, then of the sail's online rotation -/
  nextIdx : Tbl Nat
  /-- network cycle in which the boot test began -/
  began   : Nat
  deriving DecidableEq, Repr

def Bist.reset : Bist := { running := [], failed := [], fails := 0, nextIdx := [], began := 0 }

end Sys2Proof.Machine
end

