-- ==== Sys2Proof/Machine/Data/Memory.lean ====
section
/-! DEFINITION. The state of banks, HBM controllers and DMA engines (10_memory) beside their registers and contents. -/

namespace Sys2Proof.Machine

/-- A bank-port read under way (R239): the region cycle in which it was taken, and the words it presents at m + 3. -/
structure BankRead where
  cyc : Nat
  lo  : SWord
  hi  : SWord
  deriving DecidableEq, Repr

/-- A BE transfer at a bank (R241): words served, bytes read, and the words it has overwritten with their old values. -/
structure BankAccess where
  pkt  : Packet
  done : Nat
  data : List Byte
  old  : List (Nat × DWord)
  deriving DecidableEq, Repr

/-- A bank (R237 to R249). -/
structure Bank where
  reads  : List BankRead
  /-- corrected words waiting to be written back, by word (R240) -/
  wback  : Tbl DWord
  /-- region cycle (plus one) of the region's last command (R241) -/
  used   : Nat
  /-- BE transfers admitted, oldest first, and requests held during a handover (R244) -/
  access : List BankAccess
  held   : List Packet
  /-- the owner a handover installs: KIND and INDEX (R244) -/
  next   : Option (Nat × Nat)
  /-- power state a transition leads to, and a request waiting for it or for a handover (R246) -/
  target : Option Nat
  queued : Option Nat
  /-- a wipe is in progress (R249) -/
  wiping : Bool
  deriving DecidableEq, Repr

def Bank.reset : Bank :=
  { reads := [], wback := [], used := 0, access := [], held := [], next := none, target := none, queued := none
    wiping := false }

/-- A segment of a DMA request (R255): source, destination, bytes. -/
structure DmaSeg where
  src : Nat
  dst : Nat
  len : Nat
  deriving DecidableEq, Repr

/-- A DMA transfer outstanding: its transaction, segment, whether it is in its write, destination and bytes. -/
structure DmaOut where
  txn   : Nat
  seg   : Nat
  write : Bool
  dst   : Nat
  len   : Nat
  deriving DecidableEq, Repr

/-- A DMA engine (R255 to R257): segments, the next byte to issue, transfers outstanding, failed segments, the first
failure, and STOP. -/
structure Dma where
  segs   : List DmaSeg
  cur    : Nat
  off    : Nat
  outs   : List DmaOut
  txn    : Nat
  failed : List Nat
  first  : Option (Nat × Nat)
  stop   : Bool
  deriving DecidableEq, Repr

def Dma.reset : Dma :=
  { segs := [], cur := 0, off := 0, outs := [], txn := 0, failed := [], first := none, stop := false }

end Sys2Proof.Machine
end

