-- ==== Sys2Proof/Machine/Data/Outer.lean ====
section
/-! DEFINITION. The state of external interfaces (18_io_and_interfaces), the TAP, the debug master and the trace buffer
(19_test_and_debug) beside their registers. -/

namespace Sys2Proof.Machine

/-- A transceiver lane (R439, R440): words waiting at its GS source, words since the last END, last word transmitted. -/
structure Lane where
  rx   : List SWord
  cnt  : Nat
  tx   : Word
  deriving DecidableEq, Repr

def Lane.reset : Lane := { rx := [], cnt := 0, tx := 0 }

/-- A MAC (R440): words waiting at its GS source; packet arriving from its GS sink, spoilt or not; whole frames to send. -/
structure Mac where
  rx   : List SWord
  cur  : List SWord
  bad  : Bool
  tx   : List (List SWord)
  deriving DecidableEq, Repr

def Mac.reset : Mac := { rx := [], cur := [], bad := false, tx := [] }

/-- A serial controller's FIFOs (R446). -/
structure Serial where
  tx : List Byte
  rx : List Byte
  deriving DecidableEq, Repr

def Serial.reset : Serial := { tx := [], rx := [] }

/-- External interfaces: lanes by node instance·16 + local index; MACs; serial controllers: UART 0 to 3, SPI 4 to 9,
IIC 10 to 13; lanes that PCIe has claimed; pending bits of MSI-X and the last vector raised (function·1024 + vector);
bytes done by host DMA channels, and the last bytes written to host memory with their address; the last frame each MAC
put on its line. -/
structure Outer where
  lanes    : Tbl Lane
  macs     : Tbl Mac
  serials  : Tbl Serial
  pcieLanes : Nat
  pba      : Tbl Bool
  msi      : Option Nat
  hdma     : Tbl Nat
  hostOut  : Option (Nat × List Byte)
  ethOut   : Tbl (List Byte)
  deriving DecidableEq, Repr

def Outer.reset : Outer :=
  { lanes := [], macs := [], serials := [], pcieLanes := 0, pba := [], msi := none, hdma := [], hostOut := none, ethOut := [] }

/-- The debug domain (R461 to R471): the instruction in each die's TAP; the DBGACC register; FUSE data register: BUSY and
RESULT. A read by the debug master whose response has not come holds its address. -/
structure Debug where
  ir      : Tbl Nat
  busy    : Bool
  dstatus : BitVec 4
  op      : BitVec 2
  data    : Word
  addr    : BitVec 48
  fuse    : Nat
  deriving DecidableEq, Repr

/-- See the log (PRESUMED, log entry 91). -/
def Debug.reset : Debug := { ir := [], busy := false, dstatus := 0, op := 0, data := 0, addr := 0, fuse := 0 }

end Sys2Proof.Machine
end

