-- ==== Sys2Proof/Machine/Data/Twin.lean ====
section
/-! DEFINITION. The state of the TWN block (15_twin) beside its registers. -/

namespace Sys2Proof.Machine

/-- A fantail message (Table 15-2); bytes 0 to 119 without those that are always 0. -/
structure FtMsg where
  type    : BitVec 8
  seq     : BitVec 16
  ack     : Option (BitVec 16)
  ts      : DWord
  payload : List Byte
  deriving DecidableEq, Repr

/-- The TWN block. -/
structure Twin where
  /-- the message sent last -/
  sent     : Option FtMsg
  /-- reliable messages sent and not acknowledged, oldest first; those that wait; the SEQ of the next one; resends of the
  oldest (R357) -/
  unacked  : List FtMsg
  waiting  : List FtMsg
  nextSeq  : BitVec 16
  resends  : Nat
  /-- SEQ of the last reliable message received in order, none before the first -/
  rxSeq    : Option (BitVec 16)
  /-- last BEAT received: its TS and local arrival time in ns; the last 64 offsets, newest first (R358) -/
  beat     : Option (Nat × Nat)
  offsets  : List Int
  /-- the partner has sent HELLO: its TWIN_ID, role, MODE, AXIS, SPAN (R360, R372) -/
  peer     : Option (Bool × Nat × Nat × Nat × Nat)
  /-- HELLO is awaited after ENABLE (R360) -/
  awaiting : Bool
  /-- consecutive position disagreements (R364), agreements of join step 5 -/
  differ   : Nat
  agree    : Nat
  /-- CRC-64 of stamped groups by span·512 + group, packets of each span, digests received (R365, R366) -/
  crcs     : Tbl DWord
  packets  : Tbl Nat
  digests  : Tbl (Option (DWord × Nat))
  /-- own digests closed and not yet compared, by span -/
  closed   : Tbl (Option DWord)
  /-- delivered counts recorded at the last span close, with the span; the partner's, of the newest checkpoint received
  (R362) -/
  counts   : Nat × List (Nat × Word)
  ckpts    : Nat × List (Nat × Word)
  /-- a takeover or switch under way: when it began in ns, and whether it is planned (R368, R370) -/
  taking   : Option (Nat × Bool)
  /-- P_h of the switch that a STANDBY package has acknowledged (R370) -/
  switchAt : BitVec 56
  /-- OWNER and waiting to raise OWN (R352) -/
  raising  : Bool
  /-- join step 1 to 7, 0 when none; position at the start of WARMUP; POSCHK tries of step 4; first span that counts in
  step 7 (R372) -/
  step     : Nat
  warmFrom : BitVec 56
  tries    : Nat
  firstSpan : Option Nat
  /-- a settings record arriving in part (R363) -/
  gran     : Option (Word × List Byte)
  /-- axes that step 4 of the join has referenced (R373) -/
  aligned  : List Nat
  /-- attachments whose local packet is being discarded up to its END (R361, R368) -/
  cut      : List Nat
  deriving DecidableEq, Repr

/-- See the log (DESIGN CHOICE, log entry 71). -/
def Twin.reset : Twin :=
  { sent := none, unacked := [], waiting := [], nextSeq := 1, resends := 0, rxSeq := none, beat := none, offsets := []
    peer := none, awaiting := false, differ := 0, agree := 0, crcs := [], packets := [], digests := []
    closed := [], counts := (0, []), ckpts := (0, []), taking := none, switchAt := 0, raising := false, step := 0, warmFrom := 0, tries := 0
    firstSpan := none, gran := none, aligned := [], cut := [] }

end Sys2Proof.Machine
end

