-- ==== Sys2Proof/Machine/State.lean ====
section
/-! DEFINITION. The state of the whole device as plain data, the reasons a step can stop, and the state after reset. -/

namespace Sys2Proof.Machine

/-- Reasons for a fault. -/
inductive Fault where
  /-- raised by a cell operation whose fields the loader refuses (R87): the manual gives such a cell no behaviour, and
  no loaded image holds one; safe -/
  | cellEncoding
  deriving DecidableEq, Repr

/-- Reasons for a refusal. -/
inductive Refusal where
  /-- raised by an arm whose command has no meaning yet; safe -/
  | notModelled (mnemonic : String)
  deriving DecidableEq, Repr

structure State where
  /-- commands waiting, first in, first out -/
  pending : List Instr
  /-- register pages: every register that stores a value, by `regKey` -/
  regs    : Tbl Word
  /-- byte memory by package address (R18): banks, tile memory, core SRAM, granary flash, HBM -/
  mem     : List Host.Cell
  /-- BE packets that blocks have made and routers have not yet injected, oldest first -/
  outbox  : List Packet
  cells   : Tbl Cell
  /-- cell control words (R71), slots (R73; key cell·64 + context·8 + slot), tile control words (R99) and switch
  contexts (R90; key tile·8 + context) of the configuration in force -/
  cellCtl : Tbl DWord
  slots   : Tbl (BitVec 48)
  tileCtl : Tbl DWord
  switch  : Tbl (BitVec 512)
  regions : Tbl Region
  /-- network cycles passed; the cap timebase in units of 1/(125·2^35) ns (R216); offsets of the sails' copies from it in
  the same unit, by die; the part of TB_ADJ still to be slewed out, in the same unit (R217) -/
  cycle   : Nat
  tb      : Nat
  tbOff   : Tbl Int
  tbSlew  : Int
  /-- how many free values have been used (Config.freeValue) -/
  free    : Nat
  /-- the answer to the last register access or request that a command made: status (Table 2-8) and data read -/
  status  : BitVec 4
  answer  : List Word
  routers : Tbl Router
  /-- cog counters by die; cog-table entries, key node·2048 + bank·1024 + entry (R149) -/
  dieCogs : Tbl DieCogs
  cogTab  : Tbl Word
  /-- GS flits sampled for injection, key node·1024 + cog of the output register (R151) -/
  gsWait  : Tbl (Option Flit)
  /-- flits a link has taken in the present window of eight cogs, GS and BE, and the window's number, key
  link·16 + sending die (R161) -/
  capWin  : Tbl (Nat × Nat × Nat)
  /-- sails isolated (R14, R274), bit s -/
  isolated : BitVec 9
  /-- cached queue descriptors; the queues cached, least recently used first, pinned ones excepted (R172) -/
  descs   : Tbl Desc
  lru     : List Nat
  /-- attachments: region ports r·32 + i, GS windows (0x100 + quarter)·32 + i, service queues 0x10000 + q -/
  atts    : Tbl Att
  /-- packets of mirrored queues handed to TWN and not yet sent: queue, words (none for a flush request); packets of
  each mirrored queue delivered (R361, R362) -/
  mirrorOut : List (Nat × List SWord)
  mirrorCnt : Tbl Word
  axes    : Tbl Axis
  encs    : Tbl EncChan
  trigs   : Tbl Trigger
  /-- governor samples on their way to each die, oldest first, and the newest delivered on each die (R218) -/
  samples : Tbl (List GovSample)
  sampled : Tbl GovSample
  /-- banks by package number (R19); requests at each HBM stack, oldest first (R254); DMA engines -/
  banks   : Tbl Bank
  hbmReq  : Tbl (List Packet)
  dmas    : Tbl Dma
  /-- links by number, their ends by link·16 + die, what training found, GS flits in the aligners by node (R153), and
  governor sample words a die has still to send, each with the link it came by (R267) -/
  links    : Tbl Link
  linkEnds : Tbl LinkEnd
  training : Training
  aligners : Tbl (List Held)
  sampleOut : Tbl (List (Nat × DWord × Nat))
  /-- fuses, SEC engine, power manager, board; how far each die's reset release has come (R337): 0 held, 1 control
  islands, 2 network island and link sites, 3 forwarding -/
  fuses    : Fuses
  sec      : Sec
  power    : Power
  board    : Board
  released : Tbl Nat
  /-- granary and health monitors -/
  grn      : Grn
  health   : Health
  /-- I/O groups, key die·8 + g; t_0 of each sail's last calibration in 2^−10 ns (R434); the brake is on for HALT,
  FENCE_IN or fabric watchdog expiry (R436) -/
  grps     : Tbl Grp
  /-- pins that a loaded or written pin word configures, key die·64 + pin (R314) -/
  pinSet   : Tbl Bool
  calT0    : Tbl Nat
  braked   : Bool
  capBraked : Bool
  twin     : Twin
  /-- cores 0 to 3; core-SRAM lines with a reservation, by core (R396); fabric and package watchdogs (R408, R409) -/
  cores    : Tbl Core
  resv     : Tbl (Option Nat)
  fabWdt   : Countdown
  pkgWdt   : Countdown
  /-- loader, self-test, external interfaces, debug domain, records of the trace buffer (R472) -/
  loader   : Loader
  bist     : Bist
  outer    : Outer
  dbg      : Debug
  trace    : Tbl (List Byte)
  /-- regions whose gate closes before they are cleared (R104, R323), bit r -/
  clearing : BitVec 128
  deriving DecidableEq, Repr

/-- The device with its supplies just come up and power-on reset still asserted (R335, R337): every register at its reset
value (an unlisted key of `regs`), blank fuses and granary, nothing released, nothing waiting.
(DESIGN CHOICE, log entry 3.) -/
def State.reset : State :=
  { pending := [], regs := [], mem := [], outbox := [], cells := [], cellCtl := [], slots := [], tileCtl := []
    switch := [], regions := [], cycle := 0, tb := 0, tbOff := [], tbSlew := 0, free := 0, status := 0, answer := []
    routers := [], dieCogs := [], cogTab := [], gsWait := [], capWin := [], isolated := 0, descs := [], lru := []
    atts := [], mirrorOut := [], mirrorCnt := [], axes := [], encs := [], trigs := [], samples := [], sampled := []
    banks := [], hbmReq := [], dmas := [], links := [], linkEnds := [], training := Training.reset, aligners := []
    sampleOut := [], fuses := Fuses.blank, sec := Sec.reset, power := Power.reset, board := Board.reset, released := []
    grn := Grn.blank, health := Health.reset, grps := [], pinSet := [], calT0 := [], braked := false, capBraked := false, twin := Twin.reset, cores := []
    resv := [], fabWdt := Countdown.zero, pkgWdt := Countdown.zero, loader := Loader.reset, bist := Bist.reset
    outer := Outer.reset, dbg := Debug.reset, trace := [], clearing := 0 }

end Sys2Proof.Machine
end

