-- ==== Sys2Proof/Machine/Table.lean ====
section
/-! DEFINITION. Operations on sparse tables. Every many-of-a-kind part of the state is read with `tget` and written with
`tset` alone, so that the canonical form (keys rising, no default value listed) is kept in one place. -/

namespace Sys2Proof.Machine

/-- The value at key `i`; an unlisted key holds its default `d i`. -/
def tget {α : Type} (d : Nat → α) : Tbl α → Nat → α
  | [], i => d i
  | (k, v) :: t, i => if k = i then v else tget d t i

/-- Places `v` at key `i`, keeping the keys in order. -/
def tins {α : Type} (i : Nat) (v : α) : Tbl α → Tbl α
  | [] => [(i, v)]
  | (k, w) :: t => if i < k then (i, v) :: (k, w) :: t else if i = k then (i, v) :: t else (k, w) :: tins i v t

/-- Removes every entry at key `i`. -/
def terase {α : Type} (i : Nat) (t : Tbl α) : Tbl α := t.filter (fun e => !decide (e.1 = i))

/-- Writes `v` at key `i`; writing the default removes the entry. -/
def tset {α : Type} [DecidableEq α] (d : Nat → α) (t : Tbl α) (i : Nat) (v : α) : Tbl α :=
  if v = d i then terase i t else tins i v t

/-- Drops every entry whose key satisfies `p`: those keys return to their defaults. -/
def tdrop {α : Type} (p : Nat → Bool) (t : Tbl α) : Tbl α := t.filter (fun e => !p e.1)

/-- The keys from the head on rise strictly and stay above `lo`. -/
def tsortedFrom {α : Type} : Option Nat → Tbl α → Bool
  | _, [] => true
  | none, (k, _) :: t => tsortedFrom (some k) t
  | some l, (k, _) :: t => decide (l < k) && tsortedFrom (some k) t

/-- The canonical form: keys strictly rising, no entry equal to its key's default. -/
def twf {α : Type} [DecidableEq α] (d : Nat → α) (t : Tbl α) : Bool :=
  tsortedFrom none t && t.all (fun e => !decide (e.2 = d e.1))

end Sys2Proof.Machine
end

