-- ==== Sys2Proof/Machine/Ops.lean ====
section
/-! DEFINITION. The named operations over registers, memory and events that every family shares. -/

namespace Sys2Proof.Machine

/-! Bits and numbers. -/

/-- Field `len` bits wide at bit `lo` of a register. -/
def fld (w : Word) (lo len : Nat) : Nat := w.toNat / 2 ^ lo % 2 ^ len

/-- Register with its field at `lo` replaced by the low `len` bits of `v`. -/
def putFld (w : Word) (lo len v : Nat) : Word :=
  (w &&& ~~~(BitVec.ofNat 32 ((2 ^ len - 1) * 2 ^ lo))) ||| BitVec.ofNat 32 (v % 2 ^ len * 2 ^ lo)

def bit (w : Word) (i : Nat) : Bool := w.getLsbD i

/-- A Bool as a number. -/
def b2n (b : Bool) : Nat := if b then 1 else 0

/-- Saturating addition in `len` bits. -/
def satAdd (len a b : Nat) : Nat := min (a + b) (2 ^ len - 1)

/-- List update at an index; unchanged beyond the end. -/
def lset {α : Type} (l : List α) (i : Nat) (v : α) : List α := l.set i v

/-! Registers (R5, R7, R478). -/

/-- Key of the register at an offset of a page. -/
def regKey (p : Page) (off : Nat) : Nat := (blkCode p.blk * 0x1000 + p.inst) * 0x1000 + off

/-- Reset value of `CLK.ISL_CTRL[i]` of a die (Tables 14-1, 14-8): SRC, DIV and DIVMAX; the cores' class is 3. -/
def islReset (d i : Nat) : Nat :=
  let mk := fun src div => div * 0x10000 + div * 0x100 + src
  if d ≠ 0 then
    if i < 16 then mk 5 2
    else if i = 16 then mk 4 2
    else if i = 17 then mk 5 2 + 6 * 2 ^ 26 + 0x50
    else 0
  else match i with
    | 0 => mk 4 2
    | 2 | 3 | 4 | 5 => mk 5 2 + 3 * 2 ^ 24
    | 9 => mk 4 8
    | 10 | 21 => mk 5 5
    | 15 | 16 => mk 5 8
    | 17 => mk 5 10
    | 19 | 20 => mk 1 1
    | _ => if i < 22 then mk 5 2 else 0

/-- Reset value of a stored register, by block TYPE and offset, where it is not 0 (R7). -/
def regReset (code inst off : Nat) : Word :=
  -- `per base n size` : `off` is the same register of one of `n` instances, `size` bytes apart
  let per := fun (base n size : Nat) => decide (base ≤ off ∧ off < base + n * size ∧ (off - base) % size = 0)
  match code with
  | 0x01 => if off = 0x44 then 0x100 else if off = 0x48 then 1 else if off = 0x4C then 2 else 0
  | 0x04 => if off = 0x40 then 1 else 0
  | 0x09 => if off = 0x40 then 6
    else if per 0x100 22 8 then islReset inst ((off - 0x100) / 8)
    else if per 0x104 22 8 then
      let w := islReset inst ((off - 0x104) / 8)
      (w &&& 0x3F00#32) ||| (w &&& 7#32)
    else 0
  | 0x0A => if off = 0x48 then 1 else if off = 0x50 then 0xFF else 0
  | 0x0B => if inst = 0 then (if off = 0x40 then 0x1C2 else if off = 0x48 then 0x64 else if off = 0x4C then 0xA else 0) else 0
  | 0x0C => if inst = 0 then (if off = 0x40 then 0x0003E800 else if off = 0x44 then 0x40 else 0) else 0
  | 0x0D => if off = 0x44 ∧ inst ≠ 0 then 0x000A0000 else 0
  | 0x0F => if off = 0x44 then 3 else if off = 0x4C then 0x2000 else 0
  | 0x10 => if off = 0x54 then 0xA else 0
  | 0x12 => if off = 0x48 then 0xFFFF0000 else 0
  | 0x14 => if off = 0x44 ∧ inst = 0 then 0x186A0 else if off = 0x54 ∧ inst = 0 then 0x3E8
    else if per 0x100 2 0x20 then 2 else if per 0x104 2 0x20 then 0x2710 else if per 0x108 2 0x20 then 0x3E8 else 0
  | 0x15 => if off = 0x5C then 0x64 else 0
  | 0x16 => if off = 0x4C then 0xAB18 else if off = 0x50 then 0x2238 else if off = 0x54 then 0x96 else 0
  | 0x17 => if off = 0x40 then 0x4A else 0
  | 0x18 => if per 0x104 16 0x20 then 0x2710 else 0
  | 0x19 => if per 0x100 8 0x40 then 0x05F20000 else 0
  | 0x1D => if per 0x114 8 0x40 then 2 else 0
  | 0x1E => if per 0x100 4 0x40 then 0x00040000 else if per 0x104 4 0x40 then 0x00010000
    else if per 0x10C 4 0x40 then 0x2710 else if per 0x118 4 0x40 then 4 else if per 0x20C 8 0x20 then 0x64 else 0
  | 0x1F => if per 0x100 8 0x40 then 0x30 else if per 0x104 8 0x40 then 0x1359 else if per 0x108 8 0x40 then 0x00140064 else 0
  | 0x20 => if off = 0x40 then 0xA00 else if off = 0x48 then 0x1000 else if off = 0x4C then 2 else 0
  | _ => 0

/-- Reset value of the register at a key. -/
def resetOfKey (k : Nat) : Word := regReset (k / 0x1000000) (k / 0x1000 % 0x1000) (k % 0x1000)

/-- The stored value of a register. -/
def State.reg (s : State) (p : Page) (off : Nat) : Word := tget resetOfKey s.regs (regKey p off)

/-- The state with a register's stored value replaced. -/
def State.setReg (s : State) (p : Page) (off : Nat) (v : Word) : State :=
  { s with regs := tset resetOfKey s.regs (regKey p off) v }

/-- A field of a register. -/
def State.rfld (s : State) (p : Page) (off lo len : Nat) : Nat := fld (s.reg p off) lo len

def State.setFld (s : State) (p : Page) (off lo len v : Nat) : State :=
  s.setReg p off (putFld (s.reg p off) lo len v)

/-- One flag bit of a register. -/
def State.rbit (s : State) (p : Page) (off i : Nat) : Bool := bit (s.reg p off) i

def State.setBit (s : State) (p : Page) (off i : Nat) (b : Bool) : State := s.setFld p off i 1 (b2n b)

/-- A counter counts up by `n` and stops at its largest value. -/
def State.bumpFld (s : State) (p : Page) (off lo len n : Nat) : State :=
  s.setFld p off lo len (satAdd len (s.rfld p off lo len) n)

/-- A 32-bit counter, saturating. -/
def State.bumpBy (s : State) (p : Page) (off n : Nat) : State := s.bumpFld p off 0 32 n

def State.bump (s : State) (p : Page) (off : Nat) : State := s.bumpBy p off 1

/-- Every register of the pages and offsets that `q` names (page code, instance, offset) returns to its reset value. -/
def State.resetRegs (s : State) (q : Nat → Nat → Nat → Bool) : State :=
  { s with regs := tdrop (fun k => q (k / 0x1000000) (k / 0x1000 % 0x1000) (k % 0x1000)) s.regs }

/-! Byte memory (R2, R18). -/

/-- First byte of the granary read window (Table 1-5). -/
def flashBase : Nat := 0x47 * 2 ^ 40 + 0x2000000

/-- What a byte of memory reads as while nothing has written it: the erased flash of the granary reads all ones (R414),
every other byte 0. (DESIGN CHOICE, log entry 4.) -/
def memReset (a : Nat) : Byte := if flashBase ≤ a ∧ a < flashBase + 0x800000 then 0xFF else 0

/-- See the log (DESIGN CHOICE, log entry 4). -/
def State.readByte (s : State) (a : Nat) : Byte := tget memReset s.mem a

def State.writeByte (s : State) (a : Nat) (v : Byte) : State := { s with mem := tset memReset s.mem a v }

/-- `n` bytes from address `a`, lowest first. -/
def State.readBytes (s : State) (a n : Nat) : List Byte := (List.range n).map fun i => s.readByte (a + i)

def State.writeBytes (s : State) (a : Nat) : List Byte → State
  | [] => s
  | b :: bs => (s.writeByte a b).writeBytes (a + 1) bs

/-- Reservations on a 64-byte line that a write of `n` bytes at `a` touches are lost (R396). -/
def State.breakResv (s : State) (a n : Nat) : State :=
  { s with resv := s.resv.filter fun e => match e.2 with
      | some l => decide (n = 0 ∨ (a + n - 1) / 64 < l ∨ l < a / 64)
      | none => true }

/-- A write by an initiator: reservations on the lines it touches are lost. -/
def State.writeMem (s : State) (a : Nat) (bs : List Byte) : State := (s.writeBytes a bs).breakResv a bs.length

/-- A 32-bit word, least significant byte at the lowest address (R2). -/
def State.readWord (s : State) (a : Nat) : Word :=
  s.readByte (a + 3) ++ s.readByte (a + 2) ++ s.readByte (a + 1) ++ s.readByte a

/-- The bytes of a word, least significant first. -/
def wordBytes (w : Word) : List Byte := [w.extractLsb' 0 8, w.extractLsb' 8 8, w.extractLsb' 16 8, w.extractLsb' 24 8]

def State.writeWord (s : State) (a : Nat) (w : Word) : State := s.writeBytes a (wordBytes w)

/-- A 64-bit word, low half first. -/
def State.readDWord (s : State) (a : Nat) : DWord := s.readWord (a + 4) ++ s.readWord a

def State.writeDWord (s : State) (a : Nat) (w : DWord) : State :=
  (s.writeWord a (w.extractLsb' 0 32)).writeWord (a + 4) (w.extractLsb' 32 32)

/-- Every byte from `a` on, `n` of them, returns to what unwritten memory reads as. -/
def State.clearBytes (s : State) (a n : Nat) : State :=
  { s with mem := tdrop (fun k => decide (a ≤ k ∧ k < a + n)) s.mem }

/-- A word from up to four bytes, lowest first; missing bytes are 0 (R43). -/
def bytesWord (l : List Byte) : Word := l.getD 3 0 ++ l.getD 2 0 ++ l.getD 1 0 ++ l.getD 0 0

/-! Stream words (R28 to R32). -/

def SWord.isEnd (w : SWord) : Bool := w.getLsbD 37
def SWord.kind (w : SWord) : BitVec 2 := w.extractLsb' 35 2
def SWord.arg (w : SWord) : BitVec 3 := w.extractLsb' 32 3
def SWord.data (w : SWord) : Word := w.extractLsb' 0 32
def SWord.tag (w : SWord) : Tag := w.extractLsb' 32 6
def mkWord (tag : Tag) (data : Word) : SWord := tag ++ data

/-- CTRL with code IDLE, whatever its END bit (R31, R32). -/
def SWord.isIdle (w : SWord) : Bool := SWord.kind w == 3#2 && SWord.arg w == 0#3
def SWord.isPos (w : SWord) : Bool := SWord.kind w == 2#2
/-- CTRL with a reserved code (R31, R34). (DEDUCED, log entry 25.) -/
def SWord.isReserved (w : SWord) : Bool := SWord.kind w == 3#2 && 4#3 ≤ SWord.arg w
def SWord.isPoison (w : SWord) : Bool := SWord.kind w == 3#2 && SWord.arg w == 2#3

/-- IDLE with a cause (R31): 0 EMPTY, 1 UNBOUND, 2 CLOSED, 3 GATED. -/
def idleOf (cause : Nat) : SWord := mkWord 0x18#6 (BitVec.ofNat 32 cause)

/-- The POISON word the device makes (R31, R33): END 1, cause, node, words discarded in its place. -/
def poisonWord (cause node count : Nat) : SWord :=
  mkWord 0x3A#6 (BitVec.ofNat 32 (min count 0xFFFF * 0x10000 + node % 256 * 256 + cause % 256))

/-- The FLUSH-MARK with END (R31, R34). -/
def flushMark (count : Nat) : SWord := mkWord 0x39#6 (BitVec.ofNat 32 (min count 0xFFFFFF))

/-! Events of register pages (R486, R487). -/

/-- A BE packet without payload, all fields zero but those given. -/
def bareHeader : Header :=
  { len := 0, bkind := 0, prio := 0, destPort := 0, destNode := 0, status := 0, txn := 0, srcPort := 0, srcNode := 0
    addr := 0, bytes := 0, msg := 0 }

/-- A posted MESSAGE (R43). -/
def messageTo (src dest port prio : Nat) (msg : Word) : Packet :=
  ⟨{ bareHeader with bkind := 6, prio := BitVec.ofNat 2 prio, destPort := BitVec.ofNat 6 port
                     destNode := BitVec.ofNat 8 dest, srcNode := BitVec.ofNat 8 src, msg := msg }, []⟩

/-- A block hands a BE packet to its router for injection. (DESIGN CHOICE, log entry 12.) -/
def State.send (s : State) (p : Packet) : State := { s with outbox := s.outbox ++ [p] }

/-- One notification of event `e`, where EVT_ROUTE sends it (R486, Table 20-7). -/
def State.notify (s : State) (p : Page) (_e : Nat) : State :=
  let rt := s.reg p 0x1C
  let prio := fld rt 28 2
  match fld rt 30 2 with
  | 1 =>
    let core := fld rt 12 2
    s.send (messageTo (pageNode p) (if core < 2 then 0x45 else 0x46) 0x22 prio
      (BitVec.ofNat 32 (core % 2 * 2 ^ 12 + fld rt 8 4 * 2 ^ 8 + fld rt 0 5)))
  | 2 => s.send (messageTo (pageNode p) 0x54 0x22 prio (BitVec.ofNat 32 (fld rt 0 11)))
  | _ => s

/-- ERR_INFO and ERR_ADDR take the first capturable event while CAPTURED is 0; later ones set MORE (R487). -/
def State.capture (s : State) (p : Page) (info : Word) (addr : DWord) : State :=
  if s.rbit p 0x2C 31 then s.setBit p 0x2C 30 true
  else (((s.setReg p 0x20 info).setReg p 0x24 (addr.extractLsb' 0 32)).setReg p 0x28 (addr.extractLsb' 32 32)).setBit
    p 0x2C 31 true

/-- An occurrence of event `e` sets EVT_RAW bit e; a bit of EVT_PEND that changes from 0 to 1 sends one notification
(R486). -/
def State.event (s : State) (p : Page) (e : Nat) : State :=
  let s' := s.setBit p 0x10 e true
  if !s.rbit p 0x10 e && s.rbit p 0x14 e then s'.notify p e else s'

/-- An event of the page's event table occurs: captured and set (R486, R487). -/
def State.raise (s : State) (p : Page) (e : Nat) (info : Word) (addr : DWord) : State :=
  (s.capture p info addr).event p e

/-! Cells, tiles, regions. -/

def State.cell (s : State) (k : Nat) : Cell := tget (fun _ => Cell.reset) s.cells k
def State.setCell (s : State) (k : Nat) (c : Cell) : State := { s with cells := tset (fun _ => Cell.reset) s.cells k c }
def State.region (s : State) (r : Nat) : Region := tget (fun _ => Region.reset) s.regions r
def State.setRegion (s : State) (r : Nat) (x : Region) : State :=
  { s with regions := tset (fun _ => Region.reset) s.regions r x }

/-- How far a die's reset release has come (R337). -/
def State.releasedTo (s : State) (d : Nat) : Nat := tget (fun _ => 0) s.released d

/-! Routers, schedules, queues, the governor. -/

def State.router (s : State) (n : Nat) : Router := tget (fun _ => Router.reset) s.routers n
def State.setRouter (s : State) (n : Nat) (x : Router) : State :=
  { s with routers := tset (fun _ => Router.reset) s.routers n x }
def State.cogs (s : State) (d : Nat) : DieCogs := tget (fun _ => DieCogs.reset) s.dieCogs d
def State.setCogs (s : State) (d : Nat) (x : DieCogs) : State :=
  { s with dieCogs := tset (fun _ => DieCogs.reset) s.dieCogs d x }
def State.att (s : State) (k : Nat) : Att := tget (fun _ => Att.reset) s.atts k
def State.setAtt (s : State) (k : Nat) (x : Att) : State := { s with atts := tset (fun _ => Att.reset) s.atts k x }
def State.desc (s : State) (q : Nat) : Desc := tget (fun _ => Desc.zero) s.descs q
def State.setDesc (s : State) (q : Nat) (x : Desc) : State := { s with descs := tset (fun _ => Desc.zero) s.descs q x }
def State.axis (s : State) (a : Nat) : Axis := tget (fun _ => Axis.reset) s.axes a
def State.setAxis (s : State) (a : Nat) (x : Axis) : State := { s with axes := tset (fun _ => Axis.reset) s.axes a x }
def State.enc (s : State) (c : Nat) : EncChan := tget (fun _ => EncChan.reset) s.encs c
def State.setEnc (s : State) (c : Nat) (x : EncChan) : State := { s with encs := tset (fun _ => EncChan.reset) s.encs c x }
def State.trig (s : State) (t : Nat) : Trigger := tget (fun _ => Trigger.reset) s.trigs t
def State.setTrig (s : State) (t : Nat) (x : Trigger) : State :=
  { s with trigs := tset (fun _ => Trigger.reset) s.trigs t x }

def State.bank (s : State) (b : Nat) : Bank := tget (fun _ => Bank.reset) s.banks b
def State.setBank (s : State) (b : Nat) (x : Bank) : State := { s with banks := tset (fun _ => Bank.reset) s.banks b x }
def State.dma (s : State) (e : Nat) : Dma := tget (fun _ => Dma.reset) s.dmas e
def State.setDma (s : State) (e : Nat) (x : Dma) : State := { s with dmas := tset (fun _ => Dma.reset) s.dmas e x }

def State.link (s : State) (l : Nat) : Link := tget (fun _ => Link.reset) s.links l
def State.setLink (s : State) (l : Nat) (x : Link) : State := { s with links := tset (fun _ => Link.reset) s.links l x }
def State.linkEnd (s : State) (l d : Nat) : LinkEnd := tget (fun _ => LinkEnd.reset) s.linkEnds (l * 16 + d)
def State.setLinkEnd (s : State) (l d : Nat) (x : LinkEnd) : State :=
  { s with linkEnds := tset (fun _ => LinkEnd.reset) s.linkEnds (l * 16 + d) x }
def State.aligner (s : State) (n : Nat) : List Held := tget (fun _ => []) s.aligners n
def State.setAligner (s : State) (n : Nat) (x : List Held) : State := { s with aligners := tset (fun _ => []) s.aligners n x }

/-- The sample of an axis as delivered on a die (R218). -/
def State.delivered (s : State) (d a : Nat) : AxSample :=
  (tget (fun _ => GovSample.reset) s.sampled d).axes.toList.getD a AxSample.reset

/-- Axis state VALID (Table 9-3). -/
def AxSample.valid (x : AxSample) : Bool := x.state == 2#2

/-! Time. -/

/-- Units of the timebase in one ns. (DEDUCED, log entry 33.) -/
def tbUnit : Nat := 125 * 2 ^ 35

/-- The package timebase in ns (R216), and on a die's copy in 1/8 ns. -/
def State.tbNs (s : State) : Nat := s.tb / tbUnit
def State.tbDie (s : State) (d : Nat) : Int := ((s.tb : Int) + tget (fun _ => 0) s.tbOff d) * 8 / tbUnit

/-- Elapsed network cycles since one was noted. -/
def State.since (s : State) (c : Nat) : Nat := s.cycle - c

/-! Answers to commands (R44). -/

def stOK : Nat := 0
def stNodeAbsent : Nat := 1
def stUnmapped : Nat := 2
def stEndpointClosed : Nat := 3
def stDestAsleep : Nat := 4
def stUnderTest : Nat := 5
def stDataError : Nat := 6
def stMalformed : Nat := 7
def stDenied : Nat := 8

/-- The answer a command's sender receives. (DESIGN CHOICE, log entry 11.) -/
def State.reply (s : State) (status : Nat) (data : List Word) : State :=
  { s with status := BitVec.ofNat 4 status, answer := data }

/-- A free value: random or left open by the manual (R299). (DESIGN CHOICE, log entry 6.) -/
def State.takeFree (s : State) : Word × State := (Config.freeValue s.free, { s with free := s.free + 1 })

end Sys2Proof.Machine
end

