-- ==== Sys2Proof/Machine/Cogs.lean ====
section
/-! DEFINITION. Rounds, cog tables and swaps (07_scheduled_service, R145 to R167). -/

namespace Sys2Proof.Machine

def cogPage (n : Nat) : Page := ⟨.cog, n⟩

/-- The routers of a die. -/
def dieNodes (d : Nat) : List Nat :=
  let o := dieOrigin d
  (List.range 16).map fun i => mkNode (o.1 + i % 4) (o.2 + i / 4)

/-- An entry of a cog-table bank (R149). -/
def cogKey (n bank k : Nat) : Nat := n * 2048 + bank * 1024 + k
def State.cogEntry (s : State) (n bank k : Nat) : Word := tget (fun _ => 0) s.cogTab (cogKey n bank k)
def State.setCogEntry (s : State) (n bank k : Nat) (w : Word) : State :=
  { s with cogTab := tset (fun _ => 0) s.cogTab (cogKey n bank k) w }

/-- `COG.STAT` bits (Table 7-8). -/
def State.cogActive (s : State) (n : Nat) : Nat := s.rfld (cogPage n) 0x48 12 1
def State.cogArmed (s : State) (n : Nat) : Bool := s.rbit (cogPage n) 0x48 13
def State.cogGoverning (s : State) (n : Nat) : Bool := s.rbit (cogPage n) 0x48 15

/-- The entry in force at a router in the present cog; before GOVERNING every output is FREE (R149, R160). -/
def State.entryNow (s : State) (n : Nat) : Word :=
  if s.cogGoverning n then s.cogEntry n (s.cogActive n) (s.cogs (nodeDie n)).cog else 0

/-- Select of output o of an entry (Table 7-1). -/
def entrySel (w : Word) (o : Nat) : Nat := fld w (4 * o) 4
def entryEj (w : Word) : Nat := fld w 20 5
def entryInj (w : Word) : Nat := fld w 25 5
def entryInjV (w : Word) : Bool := bit w 30

/-- The start of a round at one router: bank 0 comes into force after ENABLE, an armed swap happens (R159, R160). A swap
armed for the very round that ENABLE comes into force in happens at that start too.
(DESIGN CHOICE, log entry 100.) -/
def State.roundStartAt (s : State) (n : Nat) (round : Word) : State :=
  let p := cogPage n
  if s.cogArmed n && fld round 0 16 == s.rfld p 0x50 0 16 then
    let b := 1 - s.cogActive n
    let s := ((s.setBit p 0x48 13 false).setBit p 0x50 31 false).setFld p 0x48 12 1 b
    (if s.rbit p 0x40 0 then s.setBit p 0x48 15 true else s).raise p 2 (BitVec.ofNat 32 (0x03000000 + b)) 0
  else if s.rbit p 0x40 0 && !s.cogGoverning n then (s.setBit p 0x48 15 true).setFld p 0x48 12 1 0
  else s

/-- The cog counter of a die wraps to 0 and a round begins (R145): the round count advances, a round length armed for
this round is taken, and every router of the die acts on the round start. -/
def State.roundStart (s : State) (d : Nat) : State :=
  let x := s.cogs d
  let round := x.round + 1
  let new := x.newLen.any fun y => y.2 == round
  let x := match x.newLen with
    | some (len, n) => if n = round then { x with len := len, newLen := none } else x
    | none => x
  let s := s.setCogs d { x with cog := 0, round := round, began := s.tbDie d }
  let s := (dieNodes d).foldl (fun s n => s.roundStartAt n round) s
  -- an image activated before its round length came into force is enabled now (R145)
  if new && s.rbit ⟨.cfg, 0⟩ 0x44 31 then (dieNodes d).foldl (fun s n => s.setBit (cogPage n) 0x40 0 true) s else s

/-- One network cycle of a die's cog counter (R145). -/
def State.cogTick (s : State) (d : Nat) : State :=
  let x := s.cogs d
  if x.len ≤ x.cog + 1 then s.roundStart d else s.setCogs d { x with cog := x.cog + 1 }

/-- The standby bank may be written, or the active one, under R157. -/
def State.tabWritable (s : State) (n : Nat) : Bool :=
  s.rfld (cogPage n) 0x54 16 1 != s.cogActive n && !s.cogArmed n

/-- INDEX advances when AUTOINC is set (Table 7-10). -/
def State.tabAdvance (s : State) (n : Nat) : State :=
  let p := cogPage n
  if s.rbit p 0x54 31 then s.setFld p 0x54 0 10 (s.rfld p 0x54 0 10 + 1) else s

/-- A write to `COG.TAB_DATA` (R157). -/
def State.cogTabWrite (s : State) (n : Nat) (w : Word) : State × Nat :=
  let p := cogPage n
  let bank := s.rfld p 0x54 16 1
  let i := s.rfld p 0x54 0 10
  if s.tabWritable n then ((s.setCogEntry n bank i (w &&& 0x7FFFFFFF#32)).tabAdvance n, stOK)
  else ((s.raise p 4 (BitVec.ofNat 32 (0x05000000 + i * 256 + bank)) 0).tabAdvance n, stDenied)

/-- A read of `COG.TAB_DATA`; a QUIET read does not advance INDEX (Table 7-10, R468). -/
def State.cogTabRead (s : State) (n : Nat) (quiet : Bool) : State × Word :=
  let p := cogPage n
  let w := s.cogEntry n (s.rfld p 0x54 16 1) (s.rfld p 0x54 0 10)
  (if quiet then s else s.tabAdvance n, w)

/-- A write to `COG.SWAP` (R158): ARM in bit 31, the round in bits 15:0. A write of ARM = 0 stores its ROUND, also where
nothing is armed. (DESIGN CHOICE, log entry 100.) -/
def State.cogSwapWrite (s : State) (n : Nat) (w : Word) : State × Nat :=
  let p := cogPage n
  if bit w 31 then
    let ahead := (fld w 0 16 + 2 ^ 16 - fld (s.cogs (nodeDie n)).round 0 16) % 2 ^ 16
    if 2 ≤ ahead ∧ ahead ≤ 32767 then
      ((s.setReg p 0x50 (BitVec.ofNat 32 (2 ^ 31 + fld w 0 16))).setBit p 0x48 13 true, stOK)
    else (s.raise p 3 (BitVec.ofNat 32 (0x04000000 + fld w 0 8)) 0, stDenied)
  else ((s.setReg p 0x50 (BitVec.ofNat 32 (fld w 0 16))).setBit p 0x48 13 false, stOK)

/-- A write to `COG.CTRL` (R160): ENABLE once set stays; a write of 0 is ignored. -/
def State.cogCtrlWrite (s : State) (n : Nat) (w : Word) : State :=
  if bit w 0 then s.setBit (cogPage n) 0x40 0 true else s

/-- The index of a port of a node as a side. -/
def portXing (n p : Nat) : Option Nat := if p < 4 then crossingLink n (sideOf p) else none

/-- `XING_DROP` with a cause (R155, R161, R162). -/
def State.xingDrop (s : State) (n port cause : Nat) : State :=
  let off := match cause with | 1 => 0x70 | 2 => 0x74 | _ => 0x78
  (s.bump (cogPage n) off).raise (cogPage n) 1
    (BitVec.ofNat 32 (0x02000000 + port * 2 ^ 21 + cause * 2 ^ 18 + (s.cogs (nodeDie n)).cog * 256)) 0

/-- A round marker compared with the local round start, in 1/16 cog (R148): positive where the local counter is ahead, cut
to its low eight bits in `COG.SKEW`. (DESIGN CHOICE, log entry 100.) -/
def State.skewCheck (s : State) (n port : Nat) (skew : Int) : State :=
  let p := cogPage n
  let s := s.setFld p 0x5C (8 * port) 8 (BitVec.ofInt 8 skew).toNat
  if skew.natAbs > 16 then
    (s.setBit p 0x48 14 true).raise p 0
      (BitVec.ofNat 32 (0x01000000 + port * 2 ^ 21 + (BitVec.ofInt 8 skew).toNat)) 0
  else s

def execCogTabDataWrite (node : Fin 144) (w : Word) (s : State) : Host.Outcome State Fault Refusal :=
  let x := s.cogTabWrite (nodeNum node) w
  .next (x.1.reply x.2 [])

def execCogTabDataRead (node : Fin 144) (s : State) : Host.Outcome State Fault Refusal :=
  let x := s.cogTabRead (nodeNum node) false
  .next (x.1.reply stOK [x.2])

def execCogSwapArm (node : Fin 144) (round : BitVec 16) (s : State) : Host.Outcome State Fault Refusal :=
  let x := s.cogSwapWrite (nodeNum node) (BitVec.ofNat 32 (2 ^ 31 + round.toNat))
  .next (x.1.reply x.2 [])

def execCogEnable (node : Fin 144) (s : State) : Host.Outcome State Fault Refusal :=
  .next ((s.cogCtrlWrite (nodeNum node) 1#32).reply stOK [])

end Sys2Proof.Machine
end

