-- ==== Sys2Proof/Machine/Flags.lean ====
section
/-! DEFINITION. Results and flags of 32-bit arithmetic, shared by the cells (R80) and the Glaette cores. -/

namespace Sys2Proof.Machine

/-- The flags of a result. -/
structure Flags where
  z : Bool
  n : Bool
  c : Bool
  v : Bool
  deriving DecidableEq, Repr

/-- A + B + carry in: the sum, and Z, N, carry out of bit 31, signed overflow (R80). -/
def addc (a b : Word) (cin : Bool) : Word × Flags :=
  let r : Word := a + b + BitVec.ofNat 32 (b2n cin)
  (r, { z := r == 0, n := r.msb, c := decide (2 ^ 32 ≤ a.toNat + b.toNat + b2n cin)
        v := decide (r.toInt ≠ a.toInt + b.toInt + (b2n cin : Int)) })

/-- A subtract is A + ~B + carry in; C is 1 when no borrow occurs (R80). -/
def subc (a b : Word) (cin : Bool) : Word × Flags := addc a (~~~b) cin

/-- Z and N of a result; C and V play no part. -/
def znOf (r : Word) : Flags := { z := r == 0, n := r.msb, c := false, v := false }

/-- Clamp an integer to a signed range of `w` bits: the value and whether it was clamped. -/
def satS (w : Nat) (x : Int) : Int × Bool :=
  let hi : Int := 2 ^ (w - 1) - 1
  let lo : Int := -(2 ^ (w - 1))
  if x > hi then (hi, true) else if x < lo then (lo, true) else (x, false)

/-- Clamp an integer to an unsigned range of `w` bits. -/
def satU (w : Nat) (x : Int) : Int × Bool :=
  let hi : Int := 2 ^ w - 1
  if x > hi then (hi, true) else if x < 0 then (0, true) else (x, false)

/-- Number of 1 bits. -/
def popCount (a : Word) : Nat := ((List.range 32).filter fun i => a.getLsbD i).length

/-- Number of leading 0 bits, 32 for 0. -/
def leadingZeros (a : Word) : Nat := 32 - (if a = 0 then 0 else a.toNat.log2 + 1)

end Sys2Proof.Machine
end

