-- ==== Sys2Proof/Machine/Operands.lean ====
section
/-! DEFINITION. The operand forms of a cell's micro-instruction: operands, destinations, conditions, tags, the context
actions, and which encodings exist (R73 to R79, R84, R87). -/

namespace Sys2Proof.Machine

/-- Fields of a stored 48-bit micro-instruction (R73, Table 4-1). -/
def fieldsOf (w : BitVec 48) : BitVec 6 × Fields :=
  (w.extractLsb' 42 6,
   { inv := w.extractLsb' 41 1, test := w.extractLsb' 38 3, cp := w.extractLsb' 33 5, dst := w.extractLsb' 28 5
     srca := w.extractLsb' 23 5, srcb := w.extractLsb' 18 5, omask := w.extractLsb' 14 4, tm := w.extractLsb' 13 1
     tval := w.extractLsb' 7 6, ctl := w.extractLsb' 2 5, fw := w.extractLsb' 1 1, ch := w.extractLsb' 0 1 })

/-- A source code names one of the four inputs (Table 4-3). -/
def namesInput (code : BitVec 5) : Bool := code.extractLsb' 2 3 == 4#3

/-- The word on the input a source code names. -/
def inputOf (ins : Vector SWord 4) (code : BitVec 5) : SWord := ins.get (code.extractLsb' 0 2).toFin

/-- Operand by code (R75, Table 4-3). Codes 0x1A to 0x1F are reserved and never run (R87). -/
def operand (c : Cell) (ins : Vector SWord 4) (code : BitVec 5) : Word :=
  if code < 0x10#5 then c.v.get (code.extractLsb' 0 4).toFin
  else if namesInput code then SWord.data (inputOf ins code)
  else if code = 0x14#5 then c.acc.extractLsb' 0 32
  else if code = 0x15#5 then c.acc.extractLsb' 32 32
  else if code = 0x16#5 then c.m0.setWidth 32
  else if code = 0x17#5 then c.m1.setWidth 32
  else if code = 0x19#5 then 0xFFFFFFFF#32
  else 0#32

/-- The condition before inversion (R66, R74, Tables 3-3, 4-2). -/
def testHolds (c : Cell) (ins : Vector SWord 4) (step : Bool) (f : Fields) : Bool :=
  let w := ins.get (f.cp.extractLsb' 3 2).toFin
  let p := f.cp.extractLsb' 0 3
  match f.test.toNat with
  | 0 =>
    match p.toNat with
    | 0 => true
    | 6 => step
    | 7 => false
    | k => c.flags.getLsbD (k - 1)
  | 1 => SWord.kind w == p.extractLsb' 0 2
  | 2 => SWord.kind w != 3#2
  | 3 => SWord.isIdle w
  | 4 => !SWord.isIdle w && SWord.isEnd w
  | 5 => SWord.kind w == 3#2 && SWord.arg w == p
  | 6 => SWord.kind w != 3#2 && SWord.arg w == p
  | _ => false

/-- The condition (R74): INV inverts the test. -/
def condHolds (c : Cell) (ins : Vector SWord 4) (step : Bool) (f : Fields) : Bool :=
  testHolds c ins step f != (f.inv == 1#1)

/-- The tag a result is driven with (R78, Table 4-5). -/
def tagFor (ins : Vector SWord 4) (f : Fields) : Tag :=
  if f.tm = 0#1 then f.tval
  else
    let t := SWord.tag (inputOf ins f.srca)
    t ||| (f.tval &&& 0x20#6)

/-- The word driven: an IDLE tag makes the data 0 (R78). -/
def driven (t : Tag) (d : Word) : SWord :=
  if SWord.isIdle (mkWord t 0) then mkWord t 0 else mkWord t d

/-- The context-control action (R79, Table 4-6): new number and hold bit, from operand B where the code says so. -/
def ctlAction (ctl : BitVec 5) (b : Word) : Option (BitVec 3) × Option Bool :=
  let n := ctl.extractLsb' 0 3
  let bn := b.extractLsb' 0 3
  match (ctl.extractLsb' 3 2).toNat with
  | 1 => (some n, some true)
  | 2 => (some n, none)
  | 3 => if n = 0#3 then (none, some false) else if n = 1#3 then (some bn, some true)
         else if n = 2#3 then (some bn, none) else (none, none)
  | _ => (none, none)

/-- Accumulating operations (Table 4-7). -/
def isAccOp (op : BitVec 6) : Bool := op.toNat ∈ [0x2B, 0x2C, 0x2D, 0x37, 0x3E, 0x3F]

/-- Operations that read SRCB as an immediate (Table 4-7). -/
def isImmOp (op : BitVec 6) : Bool := op.toNat ∈ [0x08, 0x09, 0x20, 0x21, 0x22, 0x2F]

/-- Operations on which CH = 1 is allowed (R85). -/
def mayChain (op : BitVec 6) : Bool :=
  (0x02 ≤ op.toNat && op.toNat ≤ 0x09) || (0x10 ≤ op.toNat && op.toNat ≤ 0x17)

/-- The encodings the loader accepts (R87): anything else is `CELL_ENCODING`. (DEDUCED, log entry 15.) -/
def fieldsOk (op : BitVec 6) (f : Fields) : Bool :=
  let p := f.cp.extractLsb' 0 3
  let testOk :=
    match f.test.toNat with
    | 0 => f.cp.extractLsb' 3 2 == 0#2 && p != 7#3
    | 1 => p.getLsbD 2 == false
    | 2 | 3 | 4 => p == 0#3
    | 5 | 6 => true
    | _ => false
  let srcOk (c : BitVec 5) := c ≤ 0x19#5
  let ldst := op == 0x24#6 || op == 0x25#6
  let bOk := if isImmOp op then true
    else if ldst then (f.srcb.getLsbD 4 == false || f.srcb.extractLsb' 2 2 == 0#2)
    else srcOk f.srcb
  let dstOk := f.dst < 0x10#5 || (0x14#5 ≤ f.dst && f.dst ≤ 0x18#5)
  let ctlOk := f.ctl == 0#5 || (f.ctl.extractLsb' 3 2 == 1#2) || (f.ctl.extractLsb' 3 2 == 2#2) ||
    f.ctl == 0x18#5 || f.ctl == 0x19#5 || f.ctl == 0x1A#5
  testOk && srcOk f.srca && bOk && dstOk && ctlOk &&
  (!isAccOp op || ((f.dst == 0x18#5 || f.dst == 0x14#5) && f.omask == 0#4)) &&
  (!(op == 0x25#6 || op == 0x27#6) || f.dst == 0x18#5) &&
  (f.tm == 0#1 || (namesInput f.srca && f.tval.extractLsb' 0 5 == 0#5)) &&
  (op != 0x26#6 || namesInput f.srca) && (op != 0x24#6 || f.srca == 0x18#5) &&
  (f.ch == 0#1 || mayChain op)

/-- The bits that an encoding fixes at 0 (Table 4-2, R87) are 0: CP[4:3] of a flag test, the CP[2:0] bits an input test
leaves unused, SRCB[3:2] of a pointer mode, TVAL[4:0] under COPY. A slot beyond LEN must keep them 0 too (R87, R100).
(DEDUCED, log entry 102.) -/
def reservedOk (op : BitVec 6) (f : Fields) : Bool :=
  let p := f.cp.extractLsb' 0 3
  (match f.test.toNat with
    | 0 => f.cp.extractLsb' 3 2 == 0#2
    | 1 => p.getLsbD 2 == false
    | 2 | 3 | 4 => p == 0#3
    | _ => true) &&
  (!(op == 0x24#6 || op == 0x25#6) || f.srcb.getLsbD 4 == false || f.srcb.extractLsb' 2 2 == 0#2) &&
  (f.tm == 0#1 || f.tval.extractLsb' 0 5 == 0#5)

end Sys2Proof.Machine
end

