-- ==== Sys2Proof/Machine/CellAlu.lean ====
section
/-! DEFINITION. What each cell operation computes from its operands (R80 to R84, Table 4-7), one definition each. -/

namespace Sys2Proof.Machine

/-- What an operation reads. -/
structure CellIn where
  a     : Word
  b     : Word
  /-- the 5-bit immediate s -/
  imm   : Nat
  /-- Z N C V P in bits 0 to 4 -/
  flags : BitVec 5
  west  : Bool
  /-- the accumulator the operation adds to: chained (R52), or 0 for START (R83) -/
  acc   : DWord
  /-- the accumulator by R50 -/
  accNow : DWord
  /-- tag of the word on input A -/
  tagA  : Tag
  /-- tile-memory word at the address, for LD -/
  mem   : Word
  deriving DecidableEq, Repr

/-- What an operation gives. -/
structure CellOut where
  val   : Word
  lat   : Nat
  /-- flags the operation writes (Z N C V P in bits 0 to 4) and their values -/
  fmask : BitVec 5
  flags : BitVec 5
  /-- flags are written whatever FW holds (compares, R80) -/
  always : Bool
  carry : Bool
  acc   : Option DWord
  /-- the operation has a result word (R77) -/
  result : Bool
  /-- TAGOUT's tag -/
  tag   : Option Tag
  deriving DecidableEq, Repr

/-- Flags in their register places. -/
def packFlags (f : Flags) (p : Bool) : BitVec 5 :=
  BitVec.ofNat 5 (b2n f.z + 2 * b2n f.n + 4 * b2n f.c + 8 * b2n f.v + 16 * b2n p)

/-- A one-cycle operation that writes Z and N. -/
def outZN (r : Word) : CellOut :=
  { val := r, lat := 1, fmask := 0b00011, flags := packFlags (znOf r) false, always := false, carry := false
    acc := none, result := true, tag := none }

/-- An operation that writes Z alone. -/
def outZ (r : Word) : CellOut := { outZN r with fmask := 0b00001 }

/-- An add or subtract: Z N C V and the carry. -/
def outAdd (x : Word × Flags) : CellOut :=
  { outZN x.1 with fmask := 0b01111, flags := packFlags x.2 false, carry := x.2.c }

/-- A scalar compare: the flags of the subtraction, P the condition, the result all ones or 0 (R77, R80).
(DEDUCED, log entry 14.) -/
def outCmp (x : Word × Flags) (p : Bool) : CellOut :=
  { outZN (if p then 0xFFFFFFFF#32 else 0#32) with
    fmask := 0b11111, flags := packFlags x.2 p, always := true, carry := x.2.c }

/-- An accumulating operation: Z and N of the 64-bit accumulator (R82), no result word (R83). -/
def outAcc (r : DWord) : CellOut :=
  { val := 0, lat := 3, fmask := 0b00011
    flags := packFlags { z := r == 0, n := r.msb, c := false, v := false } false
    always := false, carry := false, acc := some r, result := false, tag := none }

/-- Lanes of 16 or 8 bits (R82). -/
def lane16 (w : Word) (i : Nat) : BitVec 16 := w.extractLsb' (16 * i) 16
def lane8 (w : Word) (i : Nat) : BitVec 8 := w.extractLsb' (8 * i) 8

def mapH (f : BitVec 16 → BitVec 16 → BitVec 16) (a b : Word) : Word :=
  f (lane16 a 1) (lane16 b 1) ++ f (lane16 a 0) (lane16 b 0)

def mapB (f : BitVec 8 → BitVec 8 → BitVec 8) (a b : Word) : Word :=
  f (lane8 a 3) (lane8 b 3) ++ f (lane8 a 2) (lane8 b 2) ++ f (lane8 a 1) (lane8 b 1) ++ f (lane8 a 0) (lane8 b 0)

/-- V of a packed saturating operation: any lane clamped (R82). -/
def outSat (r : Word) (v : Bool) : CellOut :=
  { outZ r with fmask := 0b01001, flags := packFlags { z := r == 0, n := false, c := false, v := v } false }

/-- Signed 16-bit saturating lanes. -/
def satH (f : Int → Int → Int) (a b : Word) : CellOut :=
  let g (x y : BitVec 16) := satS 16 (f x.toInt y.toInt)
  outSat (mapH (fun x y => BitVec.ofInt 16 (g x y).1) a b)
    ((List.range 2).any fun i => (g (lane16 a i) (lane16 b i)).2)

/-- Unsigned 8-bit saturating lanes. -/
def satB (f : Int → Int → Int) (a b : Word) : CellOut :=
  let g (x y : BitVec 8) := satU 8 (f x.toNat y.toNat)
  outSat (mapB (fun x y => BitVec.ofInt 8 (g x y).1) a b)
    ((List.range 4).any fun i => (g (lane8 a i) (lane8 b i)).2)

def sumI (l : List Int) : Int := l.foldl (· + ·) 0

def cellNop (_ : CellIn) : CellOut := { outZN 0 with fmask := 0, flags := 0, result := false }
def cellMov (x : CellIn) : CellOut := outZN x.a
def cellAdd (x : CellIn) : CellOut := outAdd (addc x.a x.b false)
def cellAddc (x : CellIn) : CellOut := outAdd (addc x.a x.b (x.flags.getLsbD 2))
def cellAddw (x : CellIn) : CellOut := outAdd (addc x.a x.b x.west)
def cellSub (x : CellIn) : CellOut := outAdd (subc x.a x.b true)
def cellSubc (x : CellIn) : CellOut := outAdd (subc x.a x.b (x.flags.getLsbD 2))
def cellSubw (x : CellIn) : CellOut := outAdd (subc x.a x.b x.west)
def cellAddi (x : CellIn) : CellOut := outAdd (addc x.a (BitVec.ofNat 32 x.imm) false)
def cellSubi (x : CellIn) : CellOut := outAdd (subc x.a (BitVec.ofNat 32 x.imm) true)
def cellAbs (x : CellIn) : CellOut :=
  let r : Word := if x.a.msb then -x.a else x.a
  { outZN r with fmask := 0b01011
                 flags := packFlags { znOf r with v := x.a == 0x80000000#32 } false }
def cellSel (x : CellIn) : CellOut := outZN (if x.flags.getLsbD 4 then x.a else x.b)
def cellMin (x : CellIn) : CellOut := outZN (if x.a.sle x.b then x.a else x.b)
def cellMax (x : CellIn) : CellOut := outZN (if x.a.sle x.b then x.b else x.a)
def cellMinu (x : CellIn) : CellOut := outZN (if x.a.ule x.b then x.a else x.b)
def cellMaxu (x : CellIn) : CellOut := outZN (if x.a.ule x.b then x.b else x.a)
def cellCmpeq (x : CellIn) : CellOut := outCmp (subc x.a x.b true) (x.a == x.b)
def cellCmpne (x : CellIn) : CellOut := outCmp (subc x.a x.b true) (x.a != x.b)
/-- See the log (DEDUCED, log entry 14). -/
def cellCmplt (x : CellIn) : CellOut := outCmp (subc x.a x.b true) (x.a.slt x.b)
def cellCmple (x : CellIn) : CellOut := outCmp (subc x.a x.b true) (x.a.sle x.b)
def cellCmpltu (x : CellIn) : CellOut := outCmp (subc x.a x.b true) (x.a.ult x.b)
def cellCmpleu (x : CellIn) : CellOut := outCmp (subc x.a x.b true) (x.a.ule x.b)
def cellCmpltw (x : CellIn) : CellOut :=
  let d := subc x.a x.b x.west
  outCmp d (d.2.n != d.2.v)
def cellCmpltuw (x : CellIn) : CellOut :=
  let d := subc x.a x.b x.west
  outCmp d (!d.2.c)
def cellAnd (x : CellIn) : CellOut := outZN (x.a &&& x.b)
def cellOr (x : CellIn) : CellOut := outZN (x.a ||| x.b)
def cellXor (x : CellIn) : CellOut := outZN (x.a ^^^ x.b)
def cellAndn (x : CellIn) : CellOut := outZN (x.a &&& ~~~x.b)
def cellShl (x : CellIn) : CellOut := outZN (x.a <<< (x.b.toNat % 32))
def cellShr (x : CellIn) : CellOut := outZN (x.a >>> (x.b.toNat % 32))
def cellSar (x : CellIn) : CellOut := outZN (x.a.sshiftRight (x.b.toNat % 32))
def cellRol (x : CellIn) : CellOut := outZN (x.a.rotateLeft (x.b.toNat % 32))
def cellShli (x : CellIn) : CellOut := outZN (x.a <<< x.imm)
def cellShri (x : CellIn) : CellOut := outZN (x.a >>> x.imm)
def cellSari (x : CellIn) : CellOut := outZN (x.a.sshiftRight x.imm)
def cellPopc (x : CellIn) : CellOut := outZ (BitVec.ofNat 32 (popCount x.a))
def cellLd (x : CellIn) : CellOut := { outZN x.mem with lat := 2, fmask := 0, flags := 0 }
def cellSt (x : CellIn) : CellOut := { outZN x.a with fmask := 0, flags := 0 }
def cellTagrd (x : CellIn) : CellOut := outZ (x.tagA.setWidth 32)
def cellTagout (x : CellIn) : CellOut :=
  { outZN x.a with fmask := 0, flags := 0, tag := some (x.b.extractLsb' 0 6) }
def cellMul (x : CellIn) : CellOut := { outZN (x.a * x.b) with lat := 3 }
def cellMulh (x : CellIn) : CellOut :=
  { outZN (BitVec.ofInt 32 (x.a.toInt * x.b.toInt / 2 ^ 32)) with lat := 3 }
def cellMulhu (x : CellIn) : CellOut :=
  { outZN (BitVec.ofNat 32 (x.a.toNat * x.b.toNat / 2 ^ 32)) with lat := 3 }
def cellMac (x : CellIn) : CellOut := outAcc (x.acc + BitVec.ofInt 64 (x.a.toInt * x.b.toInt))
def cellMacu (x : CellIn) : CellOut := outAcc (x.acc + BitVec.ofNat 64 (x.a.toNat * x.b.toNat))
def cellMsu (x : CellIn) : CellOut := outAcc (x.acc - BitVec.ofInt 64 (x.a.toInt * x.b.toInt))
def cellMulH (x : CellIn) : CellOut := { outZ (mapH (· * ·) x.a x.b) with lat := 3 }
def cellAccrd (x : CellIn) : CellOut :=
  let m : Int := if x.imm = 0 then x.accNow.toInt
    else (x.accNow.toInt + 2 ^ (x.imm - 1)) / 2 ^ x.imm
  let r := satS 32 m
  let w := BitVec.ofInt 32 r.1
  { outZN w with lat := 2, fmask := 0b01011, flags := packFlags { znOf w with v := r.2 } false }
def cellAddH (x : CellIn) : CellOut := outZ (mapH (· + ·) x.a x.b)
def cellSubH (x : CellIn) : CellOut := outZ (mapH (· - ·) x.a x.b)
def cellAddsH (x : CellIn) : CellOut := satH (· + ·) x.a x.b
def cellSubsH (x : CellIn) : CellOut := satH (· - ·) x.a x.b
def cellMinH (x : CellIn) : CellOut := outZ (mapH (fun p q => if p.sle q then p else q) x.a x.b)
def cellMaxH (x : CellIn) : CellOut := outZ (mapH (fun p q => if p.sle q then q else p) x.a x.b)
def cellCmpltH (x : CellIn) : CellOut :=
  let r := mapH (fun p q => if p.slt q then 0xFFFF#16 else 0#16) x.a x.b
  { outZ r with fmask := 0b10000, flags := packFlags (znOf r) (r != 0), always := true }
def cellMacH (x : CellIn) : CellOut :=
  outAcc (x.acc + BitVec.ofInt 64 (sumI ((List.range 2).map fun i => (lane16 x.a i).toInt * (lane16 x.b i).toInt)))
def cellAddB (x : CellIn) : CellOut := outZ (mapB (· + ·) x.a x.b)
def cellSubB (x : CellIn) : CellOut := outZ (mapB (· - ·) x.a x.b)
def cellAddusB (x : CellIn) : CellOut := satB (· + ·) x.a x.b
def cellSubusB (x : CellIn) : CellOut := satB (· - ·) x.a x.b
def cellMinuB (x : CellIn) : CellOut := outZ (mapB (fun p q => if p.ule q then p else q) x.a x.b)
def cellMaxuB (x : CellIn) : CellOut := outZ (mapB (fun p q => if p.ule q then q else p) x.a x.b)
def cellMacB (x : CellIn) : CellOut :=
  outAcc (x.acc + BitVec.ofInt 64
    (sumI ((List.range 4).map fun i => ((lane8 x.a i).toNat : Int) * (lane8 x.b i).toInt)))
def cellSadB (x : CellIn) : CellOut :=
  outAcc (x.acc + BitVec.ofInt 64
    (sumI ((List.range 4).map fun i => (((lane8 x.a i).toNat : Int) - (lane8 x.b i).toNat).natAbs)))

/-- The operation of a code (Table 4-7), for the slots a region cycle runs. -/
def cellAlu (op : BitVec 6) : CellIn → CellOut :=
  match op.toNat with
  | 0x00 => cellNop | 0x01 => cellMov | 0x02 => cellAdd | 0x03 => cellAddc | 0x04 => cellAddw | 0x05 => cellSub
  | 0x06 => cellSubc | 0x07 => cellSubw | 0x08 => cellAddi | 0x09 => cellSubi | 0x0A => cellAbs | 0x0B => cellSel
  | 0x0C => cellMin | 0x0D => cellMax | 0x0E => cellMinu | 0x0F => cellMaxu | 0x10 => cellCmpeq | 0x11 => cellCmpne
  | 0x12 => cellCmplt | 0x13 => cellCmple | 0x14 => cellCmpltu | 0x15 => cellCmpleu | 0x16 => cellCmpltw
  | 0x17 => cellCmpltuw | 0x18 => cellAnd | 0x19 => cellOr | 0x1A => cellXor | 0x1B => cellAndn | 0x1C => cellShl
  | 0x1D => cellShr | 0x1E => cellSar | 0x1F => cellRol | 0x20 => cellShli | 0x21 => cellShri | 0x22 => cellSari
  | 0x23 => cellPopc | 0x24 => cellLd | 0x25 => cellSt | 0x26 => cellTagrd | 0x27 => cellTagout | 0x28 => cellMul
  | 0x29 => cellMulh | 0x2A => cellMulhu | 0x2B => cellMac | 0x2C => cellMacu | 0x2D => cellMsu | 0x2E => cellMulH
  | 0x2F => cellAccrd | 0x30 => cellAddH | 0x31 => cellSubH | 0x32 => cellAddsH | 0x33 => cellSubsH
  | 0x34 => cellMinH | 0x35 => cellMaxH | 0x36 => cellCmpltH | 0x37 => cellMacH | 0x38 => cellAddB
  | 0x39 => cellSubB | 0x3A => cellAddusB | 0x3B => cellSubusB | 0x3C => cellMinuB | 0x3D => cellMaxuB
  | 0x3E => cellMacB | _ => cellSadB

end Sys2Proof.Machine
end

