-- ==== Sys2Proof/Machine/CellCore.lean ====
section
/-! DEFINITION. A cell in its region: what its inputs carry, which context runs, issuing a micro-instruction, and landing
its results (R46 to R70, R88 to R101). -/

namespace Sys2Proof.Machine

/-- The page of region r. -/
def rgnPage (r : Nat) : Page := ⟨.rgn, r⟩

/-- Region states (Table 5-7). -/
def stOff : Nat := 0
def stCleared : Nat := 1
def stLoading : Nat := 2
def stActive : Nat := 3
def stUnusable : Nat := 4

/-- `RGN.STATE.STATE` (R102). -/
def State.rgnState (s : State) (r : Nat) : Nat := s.rfld (rgnPage r) 0x40 0 3

def State.rgnActive (s : State) (r : Nat) : Bool := s.rgnState r == stActive

/-- A cell's control word (R71); a cell whose tile has no CELL record has every context of length 1 (R59). -/
def cellCtlReset (_ : Nat) : DWord := 0x0000_0008_4210_8421#64

def State.cellCtlWord (s : State) (k : Nat) : DWord := tget cellCtlReset s.cellCtl k
def State.slotWord (s : State) (k ctx slot : Nat) : BitVec 48 := tget (fun _ => 0) s.slots (k * 64 + ctx * 8 + slot)
def State.tileCtlWord (s : State) (k : Nat) : DWord := tget (fun _ => 0) s.tileCtl k
def State.switchCtx (s : State) (k ctx : Nat) : BitVec 512 := tget (fun _ => 0) s.switch (k * 8 + ctx)

/-- Context descriptor c (Table 3-7): length, RESTART, PACED. -/
def ctxLen (w : DWord) (c : Nat) : Nat := let l := (w.extractLsb' (5 * c) 3).toNat; if l = 0 then 8 else l
def ctxRestart (w : DWord) (c : Nat) : Bool := w.getLsbD (5 * c + 3)
def ctxPaced (w : DWord) (c : Nat) : Bool := w.getLsbD (5 * c + 4)
/-- Steering input: 0 NONE, 1 N, 2 E, 3 S, 4 W (Table 3-6). -/
def steerOf (w : DWord) : Nat := (w.extractLsb' 40 3).toNat

/-- Words lost on an output and the two contexts ERR_INFO names (R49): side, count, lost context, driving context. -/
structure Loss where
  side  : Nat
  count : Nat
  lost  : BitVec 3
  drove : BitVec 3
  deriving DecidableEq, Repr

/-- One landing result written to its destination (R50, R51, R76). -/
def landWrite (c : Cell) (f : InFlight) : Cell :=
  let c := match f.dst with
    | none => c
    | some d =>
      if d < 0x10#5 then { c with v := c.v.set (d.extractLsb' 0 4).toNat f.val (d.extractLsb' 0 4).isLt }
      else if d = 0x14#5 then { c with acc := c.acc.extractLsb' 32 32 ++ f.val }
      else if d = 0x15#5 then { c with acc := f.val ++ c.acc.extractLsb' 0 32 }
      else if d = 0x16#5 then { c with m0 := f.val.extractLsb' 0 11 }
      else if d = 0x17#5 then { c with m1 := f.val.extractLsb' 0 11 }
      else c
  let c := match f.acc with | none => c | some a => { c with acc := a }
  let c := { c with flags := (c.flags &&& ~~~f.fmask) ||| (f.flags &&& f.fmask) }
  let c := match f.num with | none => c | some n => { c with ctxNum := n }
  match f.hold with | none => c | some h => { c with ctxHold := h }

/-- Output side of mask bit (R73: bit 3 N, 2 E, 1 S, 0 W). -/
def drives (f : InFlight) (side : Nat) : Bool := f.omask.getLsbD (3 - side)

/-- The results driving a side in one region cycle: the later-issued stands, the others are lost (R49). -/
def driveSide (due : List InFlight) (side : Nat) : SWord × Option Loss :=
  match (due.filter (drives · side)).reverse with
  | [] => (idleWord, none)
  | [f] => (f.word, none)
  | f :: g :: rest => (f.word, some ⟨side, rest.length + 1, ((g :: rest).getLast?.getD g).ctx, f.ctx⟩)

/-- A cell with every result due by region cycle `n` landed, in issue order, and its outputs driven (R48 to R53). -/
def settle (n : Nat) (c : Cell) : Cell × List Loss :=
  let due := c.flight.filter fun f => f.land ≤ n
  if due = [] then (c, [])
  else
    let c' := due.foldl landWrite { c with flight := c.flight.filter fun f => !decide (f.land ≤ n) }
    let now := due.filter fun f => f.land == n
    if now = [] then (c', [])
    else
      let d := fun i => driveSide now i
      ({ c' with outs := #v[(d 0).1, (d 1).1, (d 2).1, (d 3).1], outCyc := n },
       [(d 0).2, (d 1).2, (d 2).2, (d 3).2].filterMap id)

/-- The word a cell drives on a side in its region's present cycle (R48, R68). -/
def State.cellOutput (s : State) (a : CellAt) (side : Nat) : SWord :=
  if s.rgnActive a.region.val then
    let n := (s.region a.region.val).cyc
    let c := (settle n (s.cell (cellKey a))).1
    if c.outCyc = n then c.outs.toList.getD side idleWord else idleWord
  else idleWord

/-- A cell's place from package coordinates within its region: cell column and row 0 to 23. -/
def cellAtXY (r : Fin 128) (x y : Nat) : CellAt :=
  ⟨r, Fin.ofNat 36 (6 * (y / 4) + x / 4), Fin.ofNat 16 (4 * (y % 4) + x % 4)⟩

def cellX (a : CellAt) : Nat := a.tile.val % 6 * 4 + a.cell.val % 4
def cellY (a : CellAt) : Nat := a.tile.val / 6 * 4 + a.cell.val / 4

/-- The adjacent cell within the region (R88). -/
def cellBeside (a : CellAt) (side : Nat) : Option CellAt :=
  let x := cellX a
  let y := cellY a
  match side with
  | 0 => if y = 0 then none else some (cellAtXY a.region x (y - 1))
  | 1 => if x = 23 then none else some (cellAtXY a.region (x + 1) y)
  | 2 => if y = 23 then none else some (cellAtXY a.region x (y + 1))
  | _ => if x = 0 then none else some (cellAtXY a.region (x - 1) y)

/-- A tile's side lies on the region boundary. -/
def tileAtEdge (t side : Nat) : Bool :=
  match side with
  | 0 => t / 6 == 0 | 1 => t % 6 == 5 | 2 => t / 6 == 5 | _ => t % 6 == 0

/-- Position of a tile along a boundary side (R110). -/
def tilePos (t side : Nat) : Nat := if side = 0 ∨ side = 2 then t % 6 else t / 6

/-- The port register that binds a boundary lane (R110, Table 5-14): RXPORT at 0xC0, TXPORT at 0x100. -/
def State.portAt (s : State) (r base side pos lane : Nat) : List Nat :=
  (List.range 16).filter fun p =>
    let w := s.reg (rgnPage r) (base + 4 * p)
    bit w 7 && fld w 5 2 == side && fld w 2 3 == pos && fld w 0 2 == lane

def bankPage (b : Nat) : Page := ⟨.bank, b⟩

/-- `OWNER.KIND` and INDEX of a bank (Table 10-9). -/
def State.bankKind (s : State) (b : Nat) : Nat := s.rfld (bankPage b) 0x34 4 4
def State.bankIndex (s : State) (b : Nat) : Nat := s.rfld (bankPage b) 0x34 0 3

/-- A bank of the region that it owns feeds this lane with read data (R239). -/
def State.bankFeeds (s : State) (r side pos lane : Nat) : Bool :=
  (List.range 6).any fun k =>
    let w := s.reg (bankPage (6 * r + k)) 0x44
    bit w 7 && fld w 5 2 == side && fld w 2 3 == pos && decide (lane < 2) && s.bankKind (6 * r + k) == 1

/-- The word on an incoming lane in the present region cycle (R88, R89, R111): in cycle A + 1 IDLE EMPTY (R70). -/
def State.laneIn (s : State) (r t side lane : Nat) : SWord :=
  let dflt := if (s.region r).cyc != 1 && tileAtEdge t side && (s.portAt r 0xC0 side (tilePos t side) lane == [])
    && !s.bankFeeds r side (tilePos t side) lane then idleOf 1 else idleWord
  tget (fun _ => dflt) (s.region r).lanes (t * 16 + side * 4 + lane)

/-- The word on a long line: H lines 0 to 3 of a tile's row, V lines 4 to 7 of its column (R88). -/
def lineKey (t line : Nat) : Nat := if line < 4 then t / 6 * 4 + line else 24 + t % 6 * 4 + (line - 4)

def State.lineWord (s : State) (r t line : Nat) : SWord :=
  tget (fun _ => idleWord) (s.region r).lines (lineKey t line)

/-- The source a cell input select names (R91, Table 5-3). -/
def State.cellInput (s : State) (a : CellAt) (side sel : Nat) : SWord :=
  let r := a.region.val
  let t := a.tile.val
  if sel = 1 then
    match cellBeside a side with
    | some b => s.cellOutput b ((side + 2) % 4)
    | none => idleWord
  else if 2 ≤ sel ∧ sel ≤ 5 then s.laneIn r t side (sel - 2)
  else if 6 ≤ sel ∧ sel ≤ 9 then s.lineWord r t (if side = 1 ∨ side = 3 then sel - 6 else sel - 6 + 4)
  else idleWord

/-- The context a cell runs in the present region cycle, given the word on its steering input (R63). -/
def chooseCtx (ctl : DWord) (c : Cell) (steerWord : SWord) (seqCtx : BitVec 3) : BitVec 3 :=
  if steerOf ctl ≠ 0 ∧ SWord.kind steerWord = 1#2 then SWord.arg steerWord
  else if c.ctxHold then c.ctxNum
  else seqCtx

/-- The switch context in force in a tile (R97, R98); FOLLOW takes the followed cell's active context. -/
def State.tileSwitch (s : State) (r : Fin 128) (t : Fin 36) : BitVec 3 :=
  let w := s.tileCtlWord (tileKey r.val t.val)
  let x := s.region r.val
  match (w.extractLsb' 0 2).toNat with
  | 1 => w.extractLsb' 2 3
  | 2 =>
    let a : CellAt := ⟨r, t, (w.extractLsb' 5 4).toFin⟩
    let ctl := s.cellCtlWord (cellKey a)
    let sw := s.cellInput a (steerOf ctl - 1) (w.extractLsb' 9 4).toNat
    chooseCtx ctl (settle x.cyc (s.cell (cellKey a))).1 sw x.seqCtx
  | _ => x.seqCtx

/-- Input select of side d of cell c in a switch context (R90). -/
def cinSel (w : BitVec 512) (c d : Nat) : Nat := (w.extractLsb' (16 * c + 4 * d) 4).toNat

/-- The words on a cell's four inputs in the present region cycle (R47, R91, R98, R103). -/
def State.cellInputs (s : State) (a : CellAt) : Vector SWord 4 :=
  if s.rgnActive a.region.val then
    let tw := s.tileCtlWord (tileKey a.region.val a.tile.val)
    let sw := s.switchCtx (tileKey a.region.val a.tile.val) (s.tileSwitch a.region a.tile).toNat
    let followed := tw.extractLsb' 0 2 == 2#2 && (tw.extractLsb' 5 4).toNat == a.cell.val
    let steer := steerOf (s.cellCtlWord (cellKey a))
    let f := fun d => s.cellInput a d
      (if followed && steer == d + 1 then (tw.extractLsb' 9 4).toNat else cinSel sw a.cell.val d)
    #v[f 0, f 1, f 2, f 3]
  else Vector.replicate 4 idleWord

/-- The active context of a cell in the present region cycle (R63). -/
def State.activeCtx (s : State) (a : CellAt) : BitVec 3 :=
  let ctl := s.cellCtlWord (cellKey a)
  let x := s.region a.region.val
  chooseCtx ctl (settle x.cyc (s.cell (cellKey a))).1 ((s.cellInputs a).toList.getD (steerOf ctl - 1) idleWord) x.seqCtx

/-- The results of a cell due in the present region cycle land; words lost on an output are counted and raise
`CELL_COLLISION` (R49 to R51, Table 5-15). -/
def State.landCell (s : State) (a : CellAt) : State :=
  let r := a.region.val
  let x := settle (s.region r).cyc (s.cell (cellKey a))
  x.2.foldl (fun s l =>
      (s.bumpBy (rgnPage r) 0x54 l.count).raise (rgnPage r) 0
        (BitVec.ofNat 32 (0x01000000 + a.tile.val * 2 ^ 18 + a.cell.val * 2 ^ 14 + l.lost.toNat * 2 ^ 11
          + l.drove.toNat * 4 + l.side)) 0)
    (s.setCell (cellKey a) x.1)

/-- Carry from the west in the present region cycle (R57, R58): 0 at the region's west edge, and 0 while the west
neighbour has run no chaining slot in this cycle. -/
def State.westCarry (s : State) (a : CellAt) : Bool :=
  match cellBeside a 3 with
  | none => false
  | some b =>
    let c := s.cell (cellKey b)
    c.carry && c.ranCyc == (s.region a.region.val).cyc

/-- Tile-memory address of LD and ST (R84): register, or pointer with an optional post-increment. -/
def ldstAddr (c : Cell) (srcb : BitVec 5) : BitVec 11 :=
  if srcb.getLsbD 4 = false then (c.v.get (srcb.extractLsb' 0 4).toFin).extractLsb' 0 11
  else if srcb.getLsbD 1 then c.m1 else c.m0

/-- The pointer a post-increment writes, as a destination code (R84). -/
def postInc (srcb : BitVec 5) : Option (BitVec 5) :=
  if srcb.getLsbD 4 && srcb.getLsbD 0 then some (if srcb.getLsbD 1 then 0x17#5 else 0x16#5) else none

/-- Cell c owns quarter q (R99, R100). -/
def ownsQuarter (w : DWord) (q c : Nat) : Bool :=
  w.getLsbD (13 + 5 * q + 4) && (w.extractLsb' (13 + 5 * q) 4).toNat == c

/-- Package address of a tile-memory word. -/
def tileWordAddr (r t : Nat) (m : BitVec 11) : Nat := tileBase r t + m.toNat * 4

/-- An access to a quarter the cell does not own (R101). -/
def State.quarterFault (s : State) (a : CellAt) (ctx : BitVec 3) (m : BitVec 11) : State :=
  (s.bump (rgnPage a.region.val) 0x58).raise (rgnPage a.region.val) 1
    (BitVec.ofNat 32 (0x02000000 + a.tile.val * 2 ^ 18 + a.cell.val * 2 ^ 14 + ctx.toNat * 2 ^ 11 + m.toNat)) 0

/-- The owner's access occupies its quarter in the present region cycle (R56). -/
def State.markQuarter (s : State) (a : CellAt) (q : Nat) : State :=
  let x := s.region a.region.val
  s.setRegion a.region.val { x with qbusy := tset (fun _ => 0) x.qbusy (a.tile.val * 4 + q) (x.cyc + 1) }

/-- LD and ST at tile memory (R54, R84, R101): the word read and the state after the access. -/
def State.tileAccess (s : State) (a : CellAt) (op : BitVec 6) (ctx : BitVec 3) (m : BitVec 11) (w : Word) :
    Word × State :=
  let q := (m.extractLsb' 9 2).toNat
  if ownsQuarter (s.tileCtlWord (tileKey a.region.val a.tile.val)) q a.cell.val then
    let ad := tileWordAddr a.region.val a.tile.val m
    let s := s.markQuarter a q
    if op = 0x24#6 then (s.readWord ad, s) else (0, s.writeWord ad w)
  else (0, s.quarterFault a ctx m)

def isLdSt (op : BitVec 6) : Bool := op == 0x24#6 || op == 0x25#6

/-- The accumulator an accumulating operation adds to (R52, R83): the sum of one issued in the cycle before, else acc. -/
def accBase (c : Cell) (n : Nat) (start : Bool) : DWord :=
  if start then 0 else if c.accCyc + 1 = n ∧ c.accCyc ≠ 0 then c.accSum else c.acc

/-- The cell with a slot of context `ctx` issued in region cycle `n`: its result in flight, its carry driven. -/
def issueInto (c : Cell) (n : Nat) (ctx : BitVec 3) (op : BitVec 6) (f : Fields) (ins : Vector SWord 4) (ctlB : Word)
    (o : CellOut) : Cell :=
  let act := ctlAction f.ctl ctlB
  let tag := o.tag.getD (tagFor ins f)
  let base : InFlight :=
    { issue := n, land := n + o.lat, ctx := ctx
      dst := if o.result && f.dst != 0x18#5 then some f.dst else none
      val := o.val, acc := o.acc, fmask := if f.fw == 1#1 || o.always then o.fmask else 0#5, flags := o.flags
      omask := if o.result then f.omask else 0#4, word := driven tag o.val, num := none, hold := none }
  let ctlf : List InFlight := if act = (none, none) then [] else
    [{ base with land := n + 1, dst := none, acc := none, fmask := 0, omask := 0, num := act.1, hold := act.2 }]
  let inc : List InFlight := match (if isLdSt op then postInc f.srcb else none) with
    | none => []
    | some d => [{ base with land := n + 1, dst := some d, acc := none, fmask := 0, omask := 0
                             val := ((ldstAddr c f.srcb) + 1).setWidth 32 }]
  let c := { c with flight := c.flight ++ inc ++ [base] ++ ctlf, ranCyc := n, carry := o.carry && f.ch == 1#1 }
  match o.acc with
  | none => c
  | some x => { c with accSum := x, accCyc := n }

/-- A cell runs one micro-instruction in the present region cycle (R50, R63, R67, R85): squashed when its condition is
false, otherwise issued. `alu` is what the operation computes. -/
def State.runSlot (s : State) (a : CellAt) (ctx : BitVec 3) (op : BitVec 6) (f : Fields) (alu : CellIn → CellOut) :
    State :=
  let k := cellKey a
  let x := s.region a.region.val
  let ins := s.cellInputs a
  let s := s.landCell a
  let c := s.cell k
  let n := x.cyc
  if condHolds c ins x.step f then
    let va := operand c ins f.srca
    let m := ldstAddr c f.srcb
    let vb : Word := if isLdSt op then m.setWidth 32 else if isImmOp op then f.srcb.setWidth 32 else operand c ins f.srcb
    let ts := if isLdSt op then s.tileAccess a op ctx m va else (0, s)
    let o := alu { a := va, b := vb, imm := f.srcb.toNat, flags := c.flags, west := s.westCarry a
                   acc := accBase c n (f.dst == 0x14#5), accNow := c.acc, tagA := SWord.tag (inputOf ins f.srca)
                   mem := ts.1 }
    ts.2.setCell k (issueInto c n ctx op f ins vb o)
  else s.setCell k { c with ranCyc := n, carry := false }

/-- A cell may run a slot in the present region cycle: its region is ACTIVE, no tamper HALT holds its clock
(R296), and the cell has run none in it (R50). (DEDUCED, log entry 16.) -/
def State.mayRun (s : State) (a : CellAt) : Bool :=
  s.rgnActive a.region.val && !s.sec.halt && decide ((s.cell (cellKey a)).ranCyc < (s.region a.region.val).cyc)

/-- The slot a cell runs in the present region cycle by command, with the context R63 chooses. A cell of a region that is
not ACTIVE runs no slot (R68), and no cell runs two in one region cycle (R50). (DEDUCED, log entry 16.) -/
def State.cellCommand (s : State) (a : CellAt) (op : BitVec 6) (f : Fields) (alu : CellIn → CellOut) : State :=
  if s.mayRun a then s.runSlot a (s.activeCtx a) op f alu else s

/-- The outcome of a cell command: an encoding the loader refuses has no behaviour (R87). (DEDUCED, log entry 15.) -/
def cellOutcome (s : State) (a : CellAt) (op : BitVec 6) (f : Fields) (alu : CellIn → CellOut) :
    Host.Outcome State Fault Refusal :=
  if fieldsOk op f then .next (s.cellCommand a op f alu) else .fault .cellEncoding

end Sys2Proof.Machine
end

