-- ==== Sys2Proof/Machine/RegionCore.lean ====
section
/-! DEFINITION. A region's sequencer (R105 to R109), one region cycle of its cells and switch boxes (R60 to R63, R88 to
R98), and its configuration being discarded (R104). -/

namespace Sys2Proof.Machine

/-- `RGN.SEQ_CTRL.MODE` (Table 5-11): 0 DISABLED, 1 TIME, 2 POSITION. -/
def State.seqMode (s : State) (r : Nat) : Nat := s.rfld (rgnPage r) 0x44 0 2
/-- K; 0 means 2^20 (Table 5-11). -/
def State.seqK (s : State) (r : Nat) : Nat :=
  let k := s.rfld (rgnPage r) 0x44 12 20
  if k = 0 then 2 ^ 20 else k
def State.seqLast (s : State) (r : Nat) : Nat := s.rfld (rgnPage r) 0x44 4 4
def State.seqAxis (s : State) (r : Nat) : Nat := s.rfld (rgnPage r) 0x44 8 2
/-- Context and span of a table entry; span 0 means 4,096 (Table 5-13). (DEDUCED, log entry 17.) -/
def State.seqEntryCtx (s : State) (r e : Nat) : BitVec 3 := BitVec.ofNat 3 (s.rfld (rgnPage r) (0x80 + 4 * e) 16 3)
def State.seqEntrySpan (s : State) (r e : Nat) : Nat :=
  let n := s.rfld (rgnPage r) (0x80 + 4 * e) 0 12
  if n = 0 then 4096 else n

/-- The sequencer presents a step in the region cycle about to run (R105). -/
def State.presentStep (s : State) (r : Nat) : State := s.setRegion r { s.region r with step := true, kcount := 0 }

/-- The step of the region cycle that ends is spent: the entry in force has one step less to present, and an entry that
has presented its span gives way to the next, in force from the following region cycle (R105).
(DEDUCED, log entry 17.) -/
def State.spendStep (s : State) (r : Nat) : State :=
  let x := s.region r
  if x.step then
    if x.spanLeft ≤ 1 then
      let e := if x.entry = s.seqLast r then 0 else (x.entry + 1) % 16
      s.setRegion r { x with step := false, entry := e, spanLeft := s.seqEntrySpan r e }
    else s.setRegion r { x with step := false, spanLeft := x.spanLeft - 1 }
  else s

/-- The sequencer sets up what it presents in the region cycle about to run, at most one step (R105, R106, R108). -/
def State.beginCycle (s : State) (r : Nat) : State :=
  let s := s.spendStep r
  let x := s.region r
  match s.seqMode r with
  | 1 =>
    let s := s.setRegion r { x with seqCtx := s.seqEntryCtx r x.entry, kcount := x.kcount + 1 }
    if x.kcount + 1 = s.seqK r then s.presentStep r else s
  | 2 =>
    let s := s.setRegion r { x with seqCtx := s.seqEntryCtx r x.entry, backlog := x.backlog - 1 }
    if 0 < x.backlog then s.presentStep r else s
  | _ => s.setRegion r { x with seqCtx := 0 }

/-- The smallest point phase + j·k above a position, modulo 2^56, all in 1/256 count (R107, R229). -/
def nextPoint (phase k : Nat) (pos : BitVec 56) : BitVec 56 :=
  BitVec.ofInt 56 ((phase : Int) + (((pos.toNat : Int) - phase) / k + 1) * k)

/-- Signed modular difference of two published positions, in 1/256 count (R211). -/
def posDiff (a b : BitVec 56) : Int := (a - b).toInt

/-- A position as delivered reaches the sequencer of region r (R107, R108). -/
def State.seqPosition (s : State) (r : Nat) (valid : Bool) (pos : BitVec 56) : State :=
  if s.rgnActive r && s.seqMode r == 2 then
    let x := s.region r
    let k := s.seqK r * 256
    if valid then
      match x.cross with
      | none => s.setRegion r { x with cross := some (nextPoint (s.rfld (rgnPage r) 0x48 0 16 * 256) k pos)
                                       axisWait := false }
      | some c =>
        let d := posDiff pos c
        if d < 0 then s
        else
          let n := d.toNat / k + 1
          let room := 15 - x.backlog
          let s := s.setRegion r { x with cross := some (c + BitVec.ofNat 56 (n * k))
                                          backlog := x.backlog + min n room }
          if room < n then
            (s.bumpBy (rgnPage r) 0x60 (n - room)).raise (rgnPage r) 3
              (BitVec.ofNat 32 (0x04000000 + min (n - room) 0x7FF)) 0
          else s
    else
      (s.bumpBy (rgnPage r) 0x60 x.backlog).setRegion r { x with backlog := 0, cross := none, axisWait := true }
  else s

/-- Region cycle A (R69, R103, R109): the configuration in force starts to run, the sequencer at entry 0. Cell state is
already in place; `valid` and `pos` are the axis as delivered. -/
def State.startRegion (s : State) (r : Nat) (valid : Bool) (pos : BitVec 56) : State :=
  let x := s.region r
  let s := s.setFld (rgnPage r) 0x40 0 3 stActive
  let s := (List.range 6).foldl (fun s k => s.setBank (6 * r + k) { s.bank (6 * r + k) with used := 0 }) s
  let s := s.setRegion r { Region.reset with cyc := 1, txdest := x.txdest, spanLeft := s.seqEntrySpan r 0
                                             axisWait := s.seqMode r == 2 }
  (s.seqPosition r valid pos).beginCycle r

/-- A cell's turn in a region cycle: it chooses its context, runs the slot its pointer names and moves the pointer
(R60, R61, R63). A cell whose slot of this cycle a command has already given runs no second one (R50).
(DEDUCED, log entry 16.) -/
def State.cellTurn (s : State) (a : CellAt) : State :=
  let k := cellKey a
  let ctl := s.cellCtlWord k
  let x := s.region a.region.val
  let ctx := s.activeCtx a
  let i := ctx.toNat
  let c := s.cell k
  let p0 := c.sptr.get ctx.toFin
  let p : BitVec 3 := if ctxRestart ctl i && c.last != some ctx then 0 else p0
  let w := fieldsOf (s.slotWord k i p.toNat)
  let s := if s.mayRun a then s.runSlot a ctx w.1 w.2 (cellAlu w.1) else s.landCell a
  let c := s.cell k
  let p' : BitVec 3 := if !ctxPaced ctl i || x.step then BitVec.ofNat 3 ((p.toNat + 1) % ctxLen ctl i) else p
  s.setCell k { c with sptr := c.sptr.set i p' ctx.isLt, last := some ctx }

/-- All cells of a region take their turns, west before east, so that each carry is there when it is used (R57). -/
def State.allCells (s : State) (r : Fin 128) : State :=
  (List.range 576).foldl (fun s i => s.cellTurn (cellAtXY r (i / 24) (i % 24))) s

/-- The word an outgoing lane select names in the present region cycle (R92, Table 5-4). -/
def State.laneSource (s : State) (r : Fin 128) (t : Fin 36) (side sel : Nat) : SWord :=
  if sel = 0 then idleWord
  else if sel ≤ 0x10 then s.laneIn r.val t.val ((sel - 1) / 4) ((sel - 1) % 4)
  else if sel ≤ 0x14 then
    let p := sel - 0x11
    let c := match side with
      | 0 => p | 1 => 4 * p + 3 | 2 => 12 + p | _ => 4 * p
    s.cellOutput ⟨r, t, Fin.ofNat 16 c⟩ side
  else if sel ≤ 0x18 then s.lineWord r.val t.val (if side = 1 ∨ side = 3 then sel - 0x15 else sel - 0x15 + 4)
  else idleWord

/-- Adds a word to a table of words; IDLE EMPTY is what an unlisted key carries. -/
def putWord (t : Tbl SWord) (k : Nat) (w : SWord) : Tbl SWord := tset (fun _ => idleWord) t k w

/-- The neighbour tile on a side and the key its incoming lane has there (R88). -/
def laneDest (t side lane : Nat) : Nat :=
  match side with
  | 0 => (t - 6) * 16 + 8 + lane
  | 1 => (t + 1) * 16 + 12 + lane
  | 2 => (t + 6) * 16 + lane
  | _ => (t - 1) * 16 + 4 + lane

/-- Outgoing lanes of the present cycle: each tile's words on its neighbours' incoming lanes (first) and on boundary
lanes (second), for the next region cycle (R89, R92). -/
def State.switchLanes (s : State) (r : Fin 128) : Tbl SWord × Tbl SWord :=
  (List.range 576).foldl (fun acc i =>
    let t := Fin.ofNat 36 (i / 16)
    let side := i % 16 / 4
    let lane := i % 4
    let sw := s.switchCtx (tileKey r.val t.val) (s.tileSwitch r t).toNat
    let w := s.laneSource r t side (sw.extractLsb' (256 + 5 * (i % 16)) 5).toNat
    if tileAtEdge t.val side then (acc.1, putWord acc.2 (t.val * 16 + side * 4 + lane) w)
    else (putWord acc.1 (laneDest t.val side lane) w, acc.2)) ([], [])

/-- Tile `i` along line key `lk` (H: west to east, V: north to south), and the line's number in the tile (R88, R96). -/
def lineTile (lk i : Nat) : Nat × Nat :=
  if lk < 24 then (lk / 4 * 6 + i, lk % 4) else (i * 6 + (lk - 24) / 4, (lk - 24) % 4 + 4)

/-- The taps enabled on a line in the present region cycle, lowest tile first (R93, R96). -/
def State.tapsOn (s : State) (r : Fin 128) (lk : Nat) : List (Nat × Nat) :=
  (List.range 6).filterMap fun i =>
    let tl := lineTile lk i
    let t := Fin.ofNat 36 tl.1
    let sw := s.switchCtx (tileKey r.val t.val) (s.tileSwitch r t).toNat
    if sw.getLsbD (384 + tl.2) then some (tl.1, (sw.extractLsb' (336 + 6 * tl.2) 6).toNat) else none

/-- Long lines for the next region cycle: the lowest tile's tap drives; two taps on one line raise `TAP_CONFLICT`, and
the region cycle is counted once (R93, R96). -/
def State.switchLines (s : State) (r : Fin 128) : Tbl SWord × State :=
  let w := (List.range 48).foldl (fun (acc : Tbl SWord) lk =>
    match s.tapsOn r lk with
    | [] => acc
    | (t, src) :: _ =>
      putWord acc lk (s.cellOutput ⟨r, Fin.ofNat 36 t, Fin.ofNat 16 (src % 16)⟩ (src / 16))) []
  let bad := (List.range 48).filter fun lk => 2 ≤ (s.tapsOn r lk).length
  if bad = [] then (w, s)
  else
    (w, bad.foldl (fun s lk =>
      match s.tapsOn r lk with
      | (t, _) :: _ =>
        s.raise (rgnPage r.val) 2 (BitVec.ofNat 32 (0x03000000 + t * 2 ^ 18
          + (s.tileSwitch r (Fin.ofNat 36 t)).toNat * 2 ^ 11 + (lineTile lk 0).2)) 0
      | [] => s) (s.bump (rgnPage r.val) 0x5C))

/-- The fabric's part of a region cycle (R63, R89, R96): lanes and lines are taken as they stand in the cycle, every cell
runs one slot, and the region moves to its next cycle with them latched. `fed` are the words receive ports and bank
ports put on boundary lanes for the next cycle. -/
def State.fabricCycle (s : State) (r : Fin 128) (fed : Tbl SWord) : State :=
  let lanes := s.switchLanes r
  let ln := s.switchLines r
  let s := ln.2.allCells r
  let x := s.region r.val
  let s := s.setRegion r.val { x with cyc := x.cyc + 1, bound := lanes.2, lines := ln.1
                                      lanes := fed.foldl (fun t e => putWord t e.1 e.2) lanes.1 }
  s.beginCycle r.val

/-- Keys of a region's cells and tiles. -/
def cellInRegion (r k : Nat) : Bool := decide (r * 576 ≤ k ∧ k < (r + 1) * 576)
def tileInRegion (r k : Nat) : Bool := decide (r * 36 ≤ k ∧ k < (r + 1) * 36)

/-- The configuration and the state of a region are discarded: its cells hold no state, its page's loaded fields read 0,
its counters stay (R68, R104, R112). The region takes the given state of Table 5-7. (DESIGN CHOICE, log entry 19.) -/
def State.discardRegion (s : State) (r st : Nat) : State :=
  let s := { s with
    cells := tdrop (cellInRegion r) s.cells
    cellCtl := tdrop (cellInRegion r) s.cellCtl
    slots := tdrop (fun k => cellInRegion r (k / 64)) s.slots
    tileCtl := tdrop (tileInRegion r) s.tileCtl
    switch := tdrop (fun k => tileInRegion r (k / 8)) s.switch }
  let s := s.resetRegs fun c i o => c == 0x04 && i == r && (o == 0x44 || o == 0x48 || o == 0x50 || decide (0x80 ≤ o ∧ o < 0x140))
  (s.setRegion r Region.reset).setFld (rgnPage r) 0x40 0 3 st

end Sys2Proof.Machine
end

