-- ==== Sys2Proof/Machine/Router.lean ====
section
/-! DEFINITION. Routers, BE arbitration, probes and admit gates (06_millrace, R114 to R144). -/

namespace Sys2Proof.Machine

def rtrPage (n : Nat) : Page := ⟨.rtr, n⟩
def prbPage (n : Nat) : Page := ⟨.prb, n⟩

/-- The present cog at a router. -/
def State.cogAt (s : State) (n : Nat) : Nat := (s.cogs (nodeDie n)).cog

/-- An event of a router page (Table 6-14): input, VC, cog and the low byte of ERR_INFO. -/
def State.rtrEvent (s : State) (n e input vc cog low : Nat) : State :=
  s.raise (rtrPage n) e
    (BitVec.ofNat 32 ((e + 1) * 2 ^ 24 + input * 2 ^ 21 + vc * 2 ^ 18 + cog % 1024 * 2 ^ 8 + low % 256)) 0

/-- A port of a router exists (R114). -/
def portExists (n p : Nat) : Bool := p = 4 || (neighbour n (sideOf p)).isSome

/-- `RTR.ID` (Table 6-12). -/
def rtrId (n : Nat) : Word :=
  BitVec.ofNat 32 (n + ((List.range 5).map fun p => b2n (portExists n p) * 2 ^ (8 + p)).sum
    + ((List.range 4).map fun p => b2n (portXing n p).isSome * 2 ^ (16 + p)).sum)

/-- Dimension order (R117): the output towards a node, X first, then Y, then L. -/
def routeTo (n dest : Nat) : Nat :=
  if nodeX n < nodeX dest then 1
  else if nodeX dest < nodeX n then 3
  else if nodeY n < nodeY dest then 2
  else if nodeY dest < nodeY n then 0
  else 4

/-- Buffer depth at the far end of an output (R127); the endpoint beyond L holds as many flits per channel as an on-die
input. (PRESUMED, log entry 20.) -/
def depthOf (n p : Nat) : Nat := if (portXing n p).isSome then 48 else 6

def chan (port vc : Nat) : Nat := port * 8 + vc

/-- Channel of a packet (R123). -/
def vcOf (h : Header) : Nat := 2 * h.prio.toNat + b2n (h.bkind == 4#3 || h.bkind == 5#3)

/-- A request that expects a response: WRITE_NP or READ (Table 2-7). -/
def isNonPosted (h : Header) : Bool := h.bkind == 2#3 || h.bkind == 3#3

/-- The payload flits of a list of bytes: 32 bytes a flit, byte b in word ⌊b/4⌋ lane b mod 4, padded with 0 (R43). -/
def bytesFlit (l : List Byte) : Flit :=
  let w := fun i => (bytesWord (l.drop (4 * i) |>.take 4)).setWidth 38
  ⟨#v[w 0, w 1, w 2, w 3, w 4, w 5, w 6, w 7], Vector.replicate 4 .clean⟩

/-- Flits of a byte string; `n` is their number. -/
def bytesFlits : Nat → List Byte → List Flit
  | 0, _ => []
  | n + 1, l => bytesFlit (l.take 32) :: bytesFlits n (l.drop 32)

/-- Bytes of payload flits, `n` of them (R43). -/
def flitBytes (fs : List Flit) (n : Nat) : List Byte :=
  (fs.flatMap fun f => f.words.toList.flatMap fun w => wordBytes (SWord.data w)).take n

/-- The response to a request (R42 to R44): from the answering node, status, and data for an OK read. -/
def responseTo (h : Header) (node status : Nat) (data : List Byte) : Packet :=
  let rd := h.bkind == 3#3
  let n := if rd && status == stOK then (h.bytes.toNat + 31) / 32 else 0
  ⟨{ bareHeader with len := BitVec.ofNat 7 n, bkind := if rd then 4 else 5, prio := h.prio, destPort := h.srcPort
                     destNode := h.srcNode, status := BitVec.ofNat 4 status, txn := h.txn
                     srcNode := BitVec.ofNat 8 node, addr := h.addr, bytes := h.bytes }, bytesFlits n data⟩

/-- A memory request of the device's own blocks (R42, R43): READ, WRITE or WRITE_NP to a package address. -/
def requestTo (src srcPort kind prio txn addr n : Nat) (data : List Byte) : Packet :=
  let len := if kind = 3 then 0 else (n + 31) / 32
  ⟨{ bareHeader with len := BitVec.ofNat 7 len, bkind := BitVec.ofNat 3 kind, prio := BitVec.ofNat 2 prio, destPort := 0x20
                     destNode := BitVec.ofNat 8 (addr / 2 ^ 40), txn := BitVec.ofNat 8 txn
                     srcPort := BitVec.ofNat 6 srcPort, srcNode := BitVec.ofNat 8 src, addr := BitVec.ofNat 48 addr
                     bytes := BitVec.ofNat 12 n }, bytesFlits len data⟩

/-- The endpoint of a node takes on a request that expects a response (R124). -/
def State.owe (s : State) (n : Nat) (h : Header) : State :=
  if isNonPosted h then
    let x := s.router n
    s.setRouter n { x with owed := x.owed ++ [⟨h.srcNode, h.srcPort, h.txn, none⟩] }
  else s

/-- The response `p` answers the oldest of these requests that has its initiator and transaction number and no response
yet; none where there is no such request. -/
def fillOwed (p : Packet) : List Owed → Option (List Owed)
  | [] => none
  | o :: l =>
    if o.src == p.hdr.destNode && o.port == p.hdr.destPort && o.txn == p.hdr.txn && o.resp.isNone then
      some ({ o with resp := some p } :: l)
    else (fillOwed p l).map (o :: ·)

/-- Requests still owed, and the responses that go now: one goes once every earlier request of its initiator, of those
in `wait`, has gone (R124). -/
def releaseOwed (wait : List (BitVec 8 × BitVec 6)) : List Owed → List Owed × List Packet
  | [] => ([], [])
  | o :: l =>
    match o.resp with
    | some p =>
      if wait.contains (o.src, o.port) then let r := releaseOwed wait l; (o :: r.1, r.2)
      else let r := releaseOwed wait l; (r.1, p :: r.2)
    | none => let r := releaseOwed ((o.src, o.port) :: wait) l; (o :: r.1, r.2)

/-- A node's response is made (R124): responses to one initiator leave in the order of its requests. One to a request
that the node's endpoint has not taken on leaves at once. -/
def State.respond (s : State) (n : Nat) (p : Packet) : State :=
  let x := s.router n
  match fillOwed p x.owed with
  | none => s.send p
  | some l =>
    let r := releaseOwed [] l
    r.2.foldl (fun s p => s.send p) (s.setRouter n { x with owed := r.1 })

/-- A packet that no endpoint answers is answered by a router: a non-posted request with a status, a posted one
discarded and counted in `RTR.CNT_BE_DROP` (R17, R20, R137). -/
def State.answerAt (s : State) (n : Nat) (h : Header) (status : Nat) : State :=
  if isNonPosted h then s.respond n (responseTo h n status [])
  else s.bump (rtrPage n) 0x84

/-- A responder's refusal: as `answerAt`, with the refusal counted in `RTR.CNT_REFUSED` (R137). -/
def State.refuseAt (s : State) (n : Nat) (h : Header) (status : Nat) : State :=
  if isNonPosted h then (s.respond n (responseTo h n status [])).bump (rtrPage n) 0x88
  else s.bump (rtrPage n) 0x84

/-- A credit goes back to an output channel (R126): one flit of it has left the receiving buffer. -/
def State.creditIn (s : State) (n port vc : Nat) : State :=
  let x := s.router n
  let k := chan port vc
  s.setRouter n { x with used := tset (fun _ => 0) x.used k (tget (fun _ => 0) x.used k - 1) }

/-- A credit goes back to the router that feeds an input (R126); across a die boundary the link carries it (R266). -/
def State.creditBack (s : State) (n input vc : Nat) : State :=
  match neighbour n (sideOf input) with
  | some m =>
    if 4 ≤ input then s
    else match portXing n input with
    | some l =>
      let x := s.linkEnd l (nodeDie n)
      s.setLinkEnd l (nodeDie n) { x with cred := x.cred ++ [(edgeOf n input, vc)] }
    | none => s.creditIn m ((input + 2) % 4) vc
  | none => s

/-- The key a probe forms for a leaving flit (R139, Table 6-8). -/
def probeKey (port : Nat) (f : ChanFlit) (h : Header) (cog : Nat) : DWord :=
  BitVec.ofNat 64 (port * 2 ^ 61 + b2n f.be * 2 ^ 60 + f.vc.toNat * 2 ^ 57 + b2n (f.be && f.head) * 2 ^ 56 + cog % 1024 * 2 ^ 46
    + (if f.be then h.destNode.toNat * 2 ^ 38 + h.srcNode.toNat * 2 ^ 30 + h.bkind.toNat * 2 ^ 27 + h.prio.toNat * 2 ^ 25
       else 0))

/-- Bytes of a number, `n` of them, least significant first. -/
def natBytes (n v : Nat) : List Byte := (List.range n).map fun i => BitVec.ofNat 8 (v / 2 ^ (8 * i))

/-- The 32-byte trace record (Table 6-10). (DEDUCED, log entry 28.) -/
def traceRecord (n ns : Nat) (key : DWord) (f : Flit) : List Byte :=
  natBytes 8 ns ++ natBytes 8 key.toNat ++ natBytes 1 n ++ natBytes 3 0
    ++ ((f.words.toList.take 3).flatMap fun w => wordBytes (SWord.data w))

/-- A probe counter counts the events of one select code, unless frozen (R140). -/
def State.probeCount (s : State) (n code by_ : Nat) : State :=
  let p := prbPage n
  if s.rbit p 0x40 8 then s
  else
    (List.range 4).foldl (fun s c => if s.rfld p 0x44 (4 * c) 4 == code then s.bumpBy p (0x60 + 4 * c) by_ else s) s

/-- The probe sees a flit leave (R139 to R141). (DEDUCED, log entry 28.) -/
def State.probe (s : State) (n port : Nat) (f : ChanFlit) (h : Header) : State :=
  let p := prbPage n
  if s.rbit p 0x40 0 then
    let key := probeKey port f h (s.cogAt n)
    let m : DWord := s.reg p 0x4C ++ s.reg p 0x48
    let mask : DWord := s.reg p 0x54 ++ s.reg p 0x50
    if (key ^^^ m) &&& mask = 0 then
      let s := s.probeCount n 1 1
      let s := if f.be && f.head then s.probeCount n 2 1 else s
      if s.rbit p 0x40 1 then
        let x := s.router n
        if x.traces.length < 4 then
          let q := requestTo n 0 1 (s.rfld p 0x40 2 2) 0 (0x77 * 2 ^ 40) 32 (traceRecord n s.tbNs key f.flit)
          s.setRouter n { x with traces := x.traces ++ [{ q with hdr.destPort := 0x23#6, hdr.addr := 0#48 }] }
        else s.bump p 0x58
      else s
    else s
  else s

/-- The output register of a port in the present network cycle. -/
def State.outNow (s : State) (n port : Nat) : Option ChanFlit :=
  let x := s.router n
  if x.outCyc = s.cycle then tget (fun _ => none) x.outs port else none

/-- The flit in an output register goes on: the register is empty. -/
def State.takeOut (s : State) (n port : Nat) : State :=
  if (s.outNow n port).isSome then
    let x := s.router n
    s.setRouter n { x with outs := tset (fun _ => none) x.outs port none }
  else s

/-- A flit that leaves the die waits at the link's end for a slot (R264). -/
def State.toLink (s : State) (n port : Nat) (f : ChanFlit) : State :=
  match portXing n port with
  | some l =>
    let d := nodeDie n
    let x := s.linkEnd l d
    s.setLinkEnd l d { x with wait := x.wait ++ [⟨edgeOf n port, s.cogAt n, (s.cogs d).round, f⟩] }
  | none => s

/-- A flit enters an output register (R116) and the probe sees it. -/
def State.emit (s : State) (n port : Nat) (f : ChanFlit) (h : Header) : State :=
  let x := s.router n
  let outs := if x.outCyc = s.cycle then x.outs else []
  ((s.setRouter n { x with outs := tset (fun _ => none) outs port (some f), outCyc := s.cycle }).toLink n port f).probe
    n port f h

/-- A crossing port's link carries no flits (R162, R273): its end is neither UP nor DEGRADED. -/
def State.portDown (s : State) (n port : Nat) : Bool :=
  match portXing n port with
  | some l =>
    let e := s.rfld (fvlPage l (nodeDie n)) 0x48 0 3
    e != 2 && e != 3
  | none => false

/-- The window of eight cogs that a die's links are in (R161): its number, and the flits a link has taken in it, GS and
BE. -/
def State.windowOf8 (s : State) (d : Nat) : Nat := (s.cogs d).round.toNat * 128 + (s.cogs d).cog / 8
def State.windowUse (s : State) (l d : Nat) : Nat × Nat :=
  let w := tget (fun _ => (0, 0, 0)) s.capWin (l * 16 + d)
  if w.2.2 = s.windowOf8 d then (w.1, w.2.1) else (0, 0)
def State.setWindowUse (s : State) (l d : Nat) (gs be : Nat) : State :=
  { s with capWin := tset (fun _ => (0, 0, 0)) s.capWin (l * 16 + d) (gs, be, s.windowOf8 d) }

/-- C_w of a crossing port's link (Table 7-11). -/
def State.capW (s : State) (n port : Nat) : Nat := s.rfld (cogPage n) (0x60 + 4 * port) 16 8

/-- A reserved GS flit is admitted to a crossing link within its window of eight cogs (R161). -/
def State.admitCapacity (s : State) (n port l : Nat) : Bool × State :=
  let d := nodeDie n
  let u := s.windowUse l d
  if u.1 < s.capW n port then (true, s.setWindowUse l d (u.1 + 1) u.2) else (false, s)

/-- GS flits that the cog tables can still send over a link in its present window: entries of the cogs to come that name
an input for one of its four outputs (R161). -/
def State.gsAhead (s : State) (l d : Nat) : Nat :=
  let c := (s.cogs d).cog
  ((List.range 4).map fun e =>
    let x := linkEdge l d e
    if s.cogGoverning x.1 then
      ((List.range (7 - c % 8)).filter fun i =>
        let sel := entrySel (s.cogEntry x.1 (s.cogActive x.1) (c + 1 + i)) x.2
        decide (1 ≤ sel ∧ sel ≤ 5)).length
    else 0).sum

/-- BE may take a place in the present window of a crossing link: it uses what GS leaves of C_w (R161, R273). -/
def State.beRoom (s : State) (n o : Nat) : Bool :=
  match portXing n o with
  | some l =>
    let u := s.windowUse l (nodeDie n)
    decide (u.1 + u.2 + s.gsAhead l (nodeDie n) < s.capW n o)
  | none => true

/-- A BE flit granted to a crossing link counts in its window (R161). -/
def State.beCount (s : State) (n o : Nat) : State :=
  match portXing n o with
  | some l =>
    let u := s.windowUse l (nodeDie n)
    s.setWindowUse l (nodeDie n) u.1 (u.2 + 1)
  | none => s

/-- A GS flit leaves by an output, unless a crossing's link carries no flits or its capacity is used up (R161, R162). -/
def State.gsOut (s : State) (n o : Nat) (f : ChanFlit) : State :=
  match portXing n o with
  | none => s.emit n o f bareHeader
  | some l =>
    if s.portDown n o then s.xingDrop n o 3
    else
      let a := s.admitCapacity n o l
      if a.1 then a.2.emit n o f bareHeader else a.2.xingDrop n o 2

/-- A GS flit at an input in the cog of its output register: every output that names the input sends it; a stray is
discarded (R120, R121). -/
def State.gsRoute (s : State) (n input : Nat) (f : ChanFlit) : State :=
  let e := s.entryNow n
  match (List.range 5).filter fun o => entrySel e o == input + 1 with
  | [] => (s.bump (rtrPage n) 0x7C).rtrEvent n 4 input 0 (s.cogAt n) 0
  | os => os.foldl (fun s o => s.gsOut n o f) s

/-- A GS flit that comes to an input without a channel of its own: from L or from an aligner. On a fenced input it is
discarded and counted (R130). -/
def State.gsTake (s : State) (n input : Nat) (f : ChanFlit) : State :=
  if s.rbit (rtrPage n) 0x50 input then s.bump (rtrPage n) 0x90 else s.gsRoute n input f

/-- The flit at the head of an input channel's buffer that may enter an output register in network cycle `cyc`: two
cycles after its buffer write (R116). -/
def Router.front (x : Router) (cyc input vc : Nat) : Option ChanFlit :=
  match tget (fun _ => []) x.bufs (chan input vc) with
  | (c, f) :: _ => if c + 2 ≤ cyc then some f else none
  | [] => none

/-- Inputs in rotation, starting after the one last granted (R125). (DESIGN CHOICE, log entry 20.) -/
def rotation (last : Nat) : List Nat := (List.range 5).map fun i => (last + 1 + i) % 5

/-- The input whose flit may leave by output `o` on channel `vc`: the packet that holds the channel, else the next input
in rotation whose HEAD goes there (R124, R125). -/
def Router.candidate (x : Router) (cyc n o vc : Nat) : Option Nat :=
  match tget (fun _ => none) x.held (chan o vc) with
  | some p => if (x.front cyc p.port vc).isSome then some p.port else none
  | none =>
    (rotation (tget (fun _ => 4) x.granted (chan o vc))).find? fun i =>
      match x.front cyc i vc with
      | some f => f.head && routeTo n f.hdr.destNode.toNat == o
      | none => false

/-- A credit is available on an output channel (R126, R128). -/
def Router.hasCredit (x : Router) (n o vc : Nat) : Bool :=
  decide (tget (fun _ => 0) x.used (chan o vc) < depthOf n o)

/-- The channels an entry lets use an output: all where FREE, one priority's where set aside, none where GS claims it
(R122, Table 7-2). -/
def beAllowed (sel vc : Nat) : Bool := sel == 0 || (8 ≤ sel && sel ≤ 11 && vc / 2 == sel - 8)

/-- BE arbitration of one output in a cog in which it is free (R124, R125, R161). -/
def State.grant (s : State) (n o : Nat) : State :=
  let x := s.router n
  let sel := entrySel (s.entryNow n) o
  if (s.outNow n o).isSome || s.portDown n o || !portExists n o || !s.beRoom n o then s
  else
    let ready := (List.range 8).filter fun v => beAllowed sel v && (x.candidate s.cycle n o v).isSome && x.hasCredit n o v
    let starve := s.rfld (rtrPage n) 0x44 0 16
    let starved := if starve = 0 then [] else ready.filter fun v => starve ≤ tget (fun _ => 0) x.starve (chan o v)
    match (starved ++ ready.reverse).head? with
    | none => s
    | some v =>
      match x.candidate s.cycle n o v with
      | none => s
      | some i =>
        match tget (fun _ => []) x.bufs (chan i v) with
        | [] => s
        | (_, f) :: rest =>
          let hdr := match tget (fun _ => none) x.held (chan o v) with
            | some p => p.hdr
            | none => f.hdr
          let st := ready.foldl (fun t u => if u = v then tset (fun _ => 0) t (chan o u) 0
            else tset (fun _ => 0) t (chan o u) (tget (fun _ => 0) t (chan o u) + 1)) x.starve
          let x := { x with
            bufs := tset (fun _ => []) x.bufs (chan i v) rest
            held := tset (fun _ => none) x.held (chan o v) (if f.tail then none else some ⟨i, hdr⟩)
            granted := tset (fun _ => 4) x.granted (chan o v) i
            used := tset (fun _ => 0) x.used (chan o v) (tget (fun _ => 0) x.used (chan o v) + 1)
            starve := st }
          (((s.setRouter n x).beCount n o).emit n o f hdr).creditBack n i v

/-- One allocation at a router: every output in turn. -/
def State.grantAll (s : State) (n : Nat) : State := (List.range 5).foldl (fun s o => s.grant n o) s

/-- A sail is isolated (R14, R274). (DEDUCED, log entry 43.) -/
def State.isIsolated (s : State) (d : Nat) : Bool := s.isolated.getLsbD d

/-- The die beyond an output, when the output crosses (R16, R17). -/
def beyond (n o : Nat) : Option Nat :=
  match portXing n o with
  | some _ => (neighbour n (sideOf o)).map nodeDie
  | none => none

/-- The outcome of a HEAD flit's SECDED check over groups 0 to 2 (R131): one of them is uncorrectable; the groups
corrected. -/
def headCheck (f : Flit) : Bool × List Nat :=
  let l := f.ecc.toList.take 3
  (l.contains .bad, (List.range 3).filter fun g => l.getD g .clean == .corrected)

/-- A flit is written into an input buffer. -/
def State.bufWrite (s : State) (n k : Nat) (f : ChanFlit) : State :=
  let x := s.router n
  s.setRouter n { x with bufs := tset (fun _ => []) x.bufs k (tget (fun _ => []) x.bufs k ++ [(s.cycle, f)]) }

/-- An input channel discards a packet up to its TAIL, or no longer. -/
def State.setDiscard (s : State) (n k : Nat) (on : Bool) : State :=
  let x := s.router n
  s.setRouter n { x with discard := tset (fun _ => false) x.discard k on }

/-- A BE flit enters an input buffer (R123, R131). A HEAD with an uncorrectable header starts a discard to its TAIL; a
packet whose way leads into an isolated sail ends here (R17). -/
def State.beTake (s : State) (n input : Nat) (f : ChanFlit) : State :=
  let vc := f.vc.toNat
  let k := chan input vc
  if f.head then
    let e := headCheck f.flit
    if e.1 then
      (((s.setDiscard n k (!f.tail)).bump (rtrPage n) 0x78).rtrEvent n 2 input vc (s.cogAt n) 0).creditBack n input vc
    else
      let s := e.2.foldl (fun s g => (s.bump (rtrPage n) 0x74).rtrEvent n 1 input vc (s.cogAt n) g) s
      let o := routeTo n f.hdr.destNode.toNat
      if ((beyond n o).map s.isIsolated).getD false then
        ((s.setDiscard n k (!f.tail)).answerAt n f.hdr stNodeAbsent).creditBack n input vc
      else s.bufWrite n k f
  else if tget (fun _ => false) (s.router n).discard k then (s.setDiscard n k (!f.tail)).creditBack n input vc
  else s.bufWrite n k f

/-- A GS flit taken from a channel reaches its output register two network cycles after its buffer write (R116). -/
def State.gsPipe (s : State) (n input : Nat) (f : ChanFlit) : State :=
  let x := s.router n
  s.setRouter n { x with pipe := x.pipe ++ [(s.cycle + 2, input, f)] }

/-- A router takes a flit at an input: sideband, hop parity, then the input buffer (R115 to R131). `sb` is the outcome of
the sideband's code, `hpar` the hop parity bits that fail. A router that has not begun forwarding takes none (R337).
(DESIGN CHOICE, log entry 9.) -/
def State.flitIn (s : State) (n input : Nat) (f : ChanFlit) (sb : Ecc) (hpar : BitVec 4) : State :=
  let p := rtrPage n
  if s.releasedTo (nodeDie n) < 3 then s
  else if s.rbit p 0x50 input then s.bump p 0x90
  else if sb = .bad then
    ((s.bump p 0x90).setBit p 0x50 input true).rtrEvent n 3 input 0 (s.cogAt n) 0
  else
    let s := if sb = .corrected then s.bump p 0x90 else s
    let s := if hpar = 0 then s else
      let s := (s.bump p (0x60 + 4 * input)).rtrEvent n 0 input f.vc.toNat (s.cogAt n) hpar.toNat
      if s.rfld (prbPage n) 0x4C 29 3 == input then s.probeCount n 7 1 else s
    if f.be then s.beTake n input f else s.gsPipe n input f

/-! Packets as flits (R42, R115, R123). -/

/-- The header flit's words (Table 2-6). -/
def headerFlit (h : Header) : Flit :=
  let w := fun (n : Nat) => mkWord 0 (BitVec.ofNat 32 n)
  let a := h.addr.toNat
  ⟨#v[w (h.len.toNat * 2 ^ 19 + h.bkind.toNat * 2 ^ 16 + h.prio.toNat * 2 ^ 14 + h.destPort.toNat * 2 ^ 8 + h.destNode.toNat),
      w (h.status.toNat * 2 ^ 24 + h.txn.toNat * 2 ^ 16 + h.srcPort.toNat * 2 ^ 8 + h.srcNode.toNat),
      w (a % 2 ^ 32), w (h.bytes.toNat * 2 ^ 16 + a / 2 ^ 32), w h.msg.toNat, w 0, w 0, w 0], Vector.replicate 4 .clean⟩

/-- The payload flits of a packet on a channel, the last one its TAIL. -/
def payloadFlits (h : Header) (vc : Nat) : List Flit → List ChanFlit
  | [] => []
  | f :: fs => ⟨true, BitVec.ofNat 3 vc, false, fs.isEmpty, h, f⟩ :: payloadFlits h vc fs

/-- A packet as flits on its channel (R115, R123). -/
def packetFlits (p : Packet) : List ChanFlit :=
  ⟨true, BitVec.ofNat 3 (vcOf p.hdr), true, p.payload.isEmpty, p.hdr, headerFlit p.hdr⟩
    :: payloadFlits p.hdr (vcOf p.hdr) p.payload

/-! Admit gates (R134 to R138). -/

def gateOpen : Nat := 0
def gateClosing : Nat := 1
def gateClosed : Nat := 2
def gateAsleep : Nat := 3

/-- `RTR.EP_STAT.GATE` (Table 6-5). -/
def State.gate (s : State) (n : Nat) : Nat := s.rfld (rtrPage n) 0x4C 0 2
def State.setGate (s : State) (n g : Nat) : State := s.setFld (rtrPage n) 0x4C 0 2 g
def State.closeBit (s : State) (n : Nat) : Bool := s.rbit (rtrPage n) 0x48 0

/-- Responses of a node's endpoint that are not yet injected (R136): made and held for an earlier one, waiting, or at L
short of their TAIL. -/
def State.respWaiting (s : State) (n : Nat) : Nat :=
  let x := s.router n
  (s.outbox.filter fun p => p.hdr.srcNode.toNat == n && (p.hdr.bkind == 4#3 || p.hdr.bkind == 5#3)).length
    + (x.owed.filter (·.resp.isSome)).length
    + ((x.inject.filter fun e => e.1 % 2 == 1).map fun e => (e.2.filter (·.tail)).length).sum

/-- What a node's gate covers of the packets it admits (R134): the receive stream ports and tile memory of a region node;
every block of a cap endpoint, but not the node's own router pages. -/
def gateCovers (n : Nat) (h : Header) : Bool :=
  let a := h.addr.toNat
  if isRegionNode n then
    h.destPort.toNat < 16 || (h.destPort == 0x20#6 && decide (0x2000000 ≤ a % 2 ^ 40 ∧ a % 2 ^ 40 < 0x2048000))
  else !(h.destPort == 0x20#6 && decide (a % 2 ^ 40 < 0x1000000 ∧ (a / 0x1000 % 0x1000) < 3))

/-- Packets admitted through the gate that are in progress at L: arriving ones and tile-memory accesses (R136). -/
def State.admitted (s : State) (n : Nat) : Nat :=
  let a := ((s.router n).arrive.filter fun e => match e.2 with | some x => x.admitted && gateCovers n x.hdr | none => false).length
  a + (if isRegionNode n then (s.region (nodeRegion n)).tileAcc.length else 0)

/-- Nothing holds a CLOSING gate open (R136). -/
def State.gateIdle (s : State) (n : Nat) : Bool := s.admitted n == 0 && s.respWaiting n == 0

/-- A region gate may open only while its region is ACTIVE (R136). -/
def State.mayOpen (s : State) (n : Nat) : Bool := !isRegionNode n || s.rgnActive (nodeRegion n)

/-- A write to `RTR.EP_CTRL.CLOSE` (R136). A 0 opens a CLOSED gate and is recorded in any other state; on a region node
whose region is not ACTIVE it is ignored. -/
def State.writeClose (s : State) (n : Nat) (close : Bool) : State :=
  let g := s.gate n
  if close then
    let s := s.setBit (rtrPage n) 0x48 0 true
    if g = gateOpen then s.setGate n gateClosing else s
  else if s.mayOpen n then
    let s := s.setBit (rtrPage n) 0x48 0 false
    if g = gateClosed then s.setGate n gateOpen else s
  else s

/-- The first island of a cap node's blocks leaves reset: the device writes 0 to CLOSE (R142, R337). -/
def State.openNode (s : State) (n : Nat) : State :=
  let x := s.router n
  if isCapNode n && !x.opened then (s.setRouter n { x with opened := true }).writeClose n false else s

/-- The DMA domain, which has node 0x76 to itself, is being put to sleep (R343). -/
def State.sleeping (s : State) (n : Nat) : Bool :=
  n == 0x76 && (match s.power.req with
    | some q => q.op == 1 && q.kind == 3
    | none => false)

/-- A gate leaves CLOSING (R136): it becomes CLOSED. A 0 recorded meanwhile stands, and opens it a network cycle later,
unless the region exception applies now. -/
def State.closeGate (s : State) (n : Nat) : State :=
  (if !s.closeBit n && !s.mayOpen n then s.setBit (rtrPage n) 0x48 0 true else s).setGate n gateClosed

/-- A CLOSED gate with a recorded 0 opens (R136); the sleep of a domain holds it. -/
def State.gateReopen (s : State) (n : Nat) : State :=
  if s.gate n = gateClosed ∧ !s.closeBit n ∧ !s.sleeping n then s.setGate n gateOpen else s

/-- An admitted packet cut off by a forced close: counted, `DRAIN_FORCED`, answered `ENDPOINT_CLOSED` (R136, R503). -/
def State.cutOff (s : State) (n : Nat) (h : Header) : State :=
  let s := (s.bump (rtrPage n) 0x8C).rtrEvent n 6 4 (vcOf h) 0 h.srcNode.toNat
  if isNonPosted h then s.respond n (responseTo h n stEndpointClosed []) else s

/-- A gate still CLOSING after 1,024 network cycles (R136, R503): every admitted packet whose work is unfinished is cut
off and the gate closes. -/
def State.forceClose (s : State) (n : Nat) : State :=
  if s.gate n = gateClosing then
    let x := s.router n
    let cut := x.arrive.filterMap fun e => match e.2 with
      | some a => if a.admitted && gateCovers n a.hdr then some a.hdr else none
      | none => none
    let tiles := if isRegionNode n then (s.region (nodeRegion n)).tileAcc.map (·.pkt.hdr) else []
    let s := (cut ++ tiles).foldl (fun s h => s.cutOff n h) s
    let s := s.setRouter n { s.router n with arrive := x.arrive.map fun e =>
      (e.1, e.2.map fun a => if gateCovers n a.hdr then { a with admitted := false } else a) }
    let s := if isRegionNode n then s.setRegion (nodeRegion n) { s.region (nodeRegion n) with tileAcc := [] } else s
    s.closeGate n
  else s

/-- A gate goes ASLEEP, remembering its state, and wakes to what CLOSE then asks for (R136). -/
def State.gateSleep (s : State) (n : Nat) : State := s.setGate n gateAsleep

/-- See the log (DEDUCED, log entry 67). -/
def State.gateWake (s : State) (n : Nat) : State :=
  if s.gate n = gateAsleep then
    if s.closeBit n || !s.mayOpen n then (s.setBit (rtrPage n) 0x48 0 true).setGate n gateClosed else s.setGate n gateOpen
  else s

def execEpClose (n : Fin 144) (s : State) : Host.Outcome State Fault Refusal :=
  .next ((s.writeClose (nodeNum n) true).reply stOK [])

def execEpOpen (n : Fin 144) (s : State) : Host.Outcome State Fault Refusal :=
  .next ((s.writeClose (nodeNum n) false).reply stOK [])

/-- `PRB.CTRL.FREEZE` (R140). -/
def execPrbFreeze (n : Fin 144) (s : State) : Host.Outcome State Fault Refusal :=
  .next ((s.setBit (prbPage (nodeNum n)) 0x40 8 true).reply stOK [])

/-- A BE credit for one channel comes back over a link or a channel (R126): one flit slot is free again. -/
def execCreditReturn (n : Fin 144) (port : Fin 4) (vc : Fin 8) (s : State) : Host.Outcome State Fault Refusal :=
  .next (s.creditIn (nodeNum n) port.val vc.val)

end Sys2Proof.Machine
end

