-- ==== Sys2Proof/Machine/Hbm.lean ====
section
/-! DEFINITION. HBM stacks: where an offset lies, whether its stack serves, what a check finds (R20, R21, R170, R250 to R252). -/

namespace Sys2Proof.Machine

/-- What a SECDED check finds is open: a free value tells. (DESIGN CHOICE, log entry 103.) -/
def eccOf (w : Word) : Ecc := if !bit w 0 then .clean else if bit w 1 then .bad else .corrected

/-- The sail that serves a stack (R250), and its page. -/
def stackSail : Nat → Nat
  | 0 => 1 | 1 => 3 | 2 => 5 | _ => 7
def hbmPage (k : Nat) : Page := ⟨.hbm, stackSail k⟩
def stackHome (k : Nat) : Nat := homeNode (stackSail k)

/-- First byte of HBM space (node 0xFF) and its size (R20). -/
def hbmBase : Nat := 0xFF * 2 ^ 40
def hbmSize : Nat := 0x1800000000

/-- The stack of an HBM offset under the interleave in force: 0 LINEAR, 1 4K (Table 10-6). -/
def stackOf (intlv4k : Bool) (off : Nat) : Nat := if intlv4k then off / 0x1000 % 4 else off / 0x600000000

/-- `HBM.INTLV`; every copy agrees (R251). -/
def State.intlv4k (s : State) : Bool := s.rbit (hbmPage 0) 0x44 0

/-- A stack in service (R252): trained and not failed, and its sail usable, which BIST decides (R27). -/
def State.hbmServes (s : State) (k : Nat) : Bool :=
  s.rbit (hbmPage k) 0x40 0 && !s.rbit (hbmPage k) 0x40 3 && (!s.rbit ⟨.cfg, 0⟩ 0x44 28 || s.rbit ⟨.pkg, 0⟩ 0x44 (7 + stackSail k))

/-- What the check of a stack's words finds is counted; `ch` is the channel of an error (R250). -/
def State.hbmCheck (s : State) (k off : Nat) (e : Ecc) (ch : Nat) : State :=
  let p := hbmPage k
  match e with
  | .clean => s
  | .corrected => s.bumpFld p 0x4C 0 16 1
  | .bad => (s.bumpFld p 0x4C 16 16 1).raise p 0 (BitVec.ofNat 32 (0x01000000 + ch)) (BitVec.ofNat 64 off)

/-- Bytes of the descriptor table (R170). -/
def inDescTable (off : Nat) : Bool := decide (0x17FE000000 ≤ off ∧ off < 0x1800000000)
def isMillpond (node : Nat) : Bool := node == 0x55 || node == 0x56 || node == 0x65 || node == 0x66

end Sys2Proof.Machine
end

