-- ==== Sys2Proof/Machine/Queues.lean ====
section
/-! DEFINITION. Queues: descriptors, the producer and consumer sides, the leat, flush, binding and unbinding
(02_stream_words R31 to R38, 08_millpond_queues R168 to R203). -/

namespace Sys2Proof.Machine

/-! Attachments and their pages. -/

/-- Key of a region port or GS window: QP instance and index i (R200). -/
def portAtt (inst i : Nat) : Nat := inst * 32 + i

/-- Key of the sides of a service queue. -/
def svcAtt (q : Nat) : Nat := 0x10000 + q

def isSvc (k : Nat) : Bool := decide (0x10000 ≤ k)

/-- The page that counts for an attachment and its index there (R201, R203). -/
def attPage (k : Nat) : Page := if isSvc k then ⟨.qm, (k - 0x10000) % 4⟩ else ⟨.qp, k / 32⟩
def attIdx (k : Nat) : Nat := k % 32
def attNode (k : Nat) : Nat := pageNode (attPage k)
def attDie (k : Nat) : Nat := nodeDie (attNode k)

/-- Index 16–31 of a region node is a send port, of a millpond node a GS source; 0–15 receive port or GS sink. -/
def attSends (k : Nat) : Bool := !isSvc k && decide (16 ≤ attIdx k)

/-- Whole-packet delivery (Table 8-1). -/
def attWhole (k : Nat) : Bool := !attSends k

/-- Counter offsets: overflow, starved, poison, flush, unbind of index i (Table 8-9); the QM page's for service queues. -/
def attCnt (k which : Nat) : Nat := if isSvc k then
    (match which with | 0 => 0x54 | 2 => 0x58 | 3 => 0x5C | _ => 0x54)
  else 0x110 + 0x40 * attIdx k + 4 * which

def State.attBump (s : State) (k which n : Nat) : State := s.bumpBy (attPage k) (attCnt k which) n

/-- An event of a QP or QM page (Tables 8-13, 8-16): `e` is the QP event number. -/
def State.attEvent (s : State) (k e : Nat) (addr : DWord) : State :=
  let q := (s.att k).queue
  if isSvc k then
    let bit := match e with | 0 => 0 | 1 => 0 | 2 => 1 | 3 => 2 | 4 => 3 | _ => 4
    let code := match e with | 0 => 1 | 1 => 1 | n => n + 1
    s.raise (attPage k) bit (BitVec.ofNat 32 (code * 2 ^ 28 + q)) addr
  else s.raise (attPage k) e (BitVec.ofNat 32 ((e + 1) * 2 ^ 28 + attIdx k * 2 ^ 20 + q)) addr

/-! Descriptors in HBM (R170, R171). -/

def descAddr (q : Nat) : Nat := 0xFF * 2 ^ 40 + 0x17FE000000 + 32 * q

/-- The 32 bytes of a descriptor (Table 8-2). -/
def Desc.bytes (d : Desc) : List Byte :=
  natBytes 4 (d.ringLog2.toNat * 2 ^ 20 + d.weir.toNat * 2 ^ 8 + b2n d.marker * 2 ^ 7 + b2n d.flush * 2 ^ 6
      + d.axis.toNat * 2 ^ 4 + b2n d.gated * 2 ^ 3 + d.state.toNat)
    ++ natBytes 4 d.lead.toNat ++ natBytes 5 d.base.toNat ++ natBytes 3 d.markCnt.toNat
    ++ natBytes 4 (d.rdWord.toNat * 2 ^ 29 + d.rd.toNat) ++ natBytes 4 d.wr.toNat ++ natBytes 4 d.pkts.toNat
    ++ natBytes 4 (b2n d.bound * 2 ^ 16 + d.kind.toNat * 2 ^ 14 + d.port.toNat * 2 ^ 8 + d.node.toNat)

/-- Little-endian number of a byte string (R2). -/
def bytesNat : List Byte → Nat
  | [] => 0
  | b :: bs => b.toNat + 256 * bytesNat bs

/-- A descriptor from its 32 bytes. -/
def descOf (l : List Byte) : Desc :=
  let f := fun lo len => bytesNat ((l.drop lo).take len)
  let w0 := f 0 4
  let w16 := f 16 4
  let w28 := f 28 4
  { state := BitVec.ofNat 3 w0, gated := w0 / 2 ^ 3 % 2 == 1, axis := BitVec.ofNat 2 (w0 / 2 ^ 4), flush := w0 / 2 ^ 6 % 2 == 1
    marker := w0 / 2 ^ 7 % 2 == 1, weir := BitVec.ofNat 12 (w0 / 2 ^ 8), ringLog2 := BitVec.ofNat 5 (w0 / 2 ^ 20)
    lead := BitVec.ofNat 32 (f 4 4), base := BitVec.ofNat 40 (f 8 5), markCnt := BitVec.ofNat 24 (f 13 3)
    rd := BitVec.ofNat 29 w16, rdWord := BitVec.ofNat 3 (w16 / 2 ^ 29), wr := BitVec.ofNat 29 (f 20 4)
    pkts := BitVec.ofNat 24 (f 24 4), bound := w28 / 2 ^ 16 % 2 == 1, kind := BitVec.ofNat 2 (w28 / 2 ^ 14)
    port := BitVec.ofNat 6 (w28 / 2 ^ 8), node := BitVec.ofNat 8 w28 }

/-- PKTS as the descriptor shows it: a FLUSH-MARK that waits counts as a packet beside those whose END is stored (R187).
The model's `pkts` holds the latter alone. (DEDUCED, log entry 29.) -/
def Desc.shown (d : Desc) : Desc :=
  if d.marker then { d with pkts := BitVec.ofNat 24 (satAdd 24 d.pkts.toNat 1) } else d

/-- The descriptor with its waiting FLUSH-MARK taken out of PKTS. -/
def Desc.held (d : Desc) : Desc :=
  if d.marker then { d with pkts := BitVec.ofNat 24 (d.pkts.toNat - 1) } else d

/-- Queue states (Table 8-6). -/
def qUnused : BitVec 3 := 0
def qParked : BitVec 3 := 1
def qDirect : BitVec 3 := 2
def qSpilling : BitVec 3 := 3
def qFault : BitVec 3 := 4

def qmPage (quarter : Nat) : Page := ⟨.qm, quarter⟩

/-- The queue's cached copy is pinned: bound to a region port or a GS window (R172). -/
def Desc.pinned (d : Desc) : Bool := d.bound && d.kind != 3#2

/-- A descriptor is in its quarter's cache: pinned, or on the list of recently used ones (R172). -/
def State.descCached (s : State) (q : Nat) : Bool := s.lru.contains q || (s.desc q).pinned

/-- Writes a descriptor back to the table and drops the cached copy (R172). (DESIGN CHOICE, log entry 30.) -/
def State.descEvict (s : State) (q : Nat) : State :=
  ({ s with lru := s.lru.filter (· != q) }.writeBytes (descAddr q) (s.desc q).shown.bytes).setDesc q Desc.zero

/-- The least recently used descriptor of a quarter gives way when the quarter caches 32,768 (R172).
(DESIGN CHOICE, log entry 30.) -/
def State.descRoom (s : State) (quarter : Nat) : State :=
  let mine := s.lru.filter fun q => q % 4 == quarter
  let pinned := (s.descs.filter fun e => e.1 % 4 == quarter && e.2.pinned).length
  if 32768 ≤ mine.length + pinned then
    match mine.head? with
    | some q => s.descEvict q
    | none => s
  else s

/-- Brings a descriptor into its quarter's cache (R172): a miss fetches it from HBM. (DESIGN CHOICE, log entry 30.) -/
def State.descFetch (s : State) (q : Nat) : State :=
  if s.descCached q then
    (if (s.desc q).pinned then s else { s with lru := s.lru.filter (· != q) ++ [q] })
  else
    let s := s.descRoom (q % 4)
    { s with lru := s.lru ++ [q] }.setDesc q (descOf (s.readBytes (descAddr q) 32)).held

/-! Rings (R171, R177). -/

def Desc.ringSize (d : Desc) : Nat := 2 ^ d.ringLog2.toNat
def Desc.ringMod (d : Desc) : Nat := 2 ^ (d.ringLog2.toNat + 1)
def Desc.hasRing (d : Desc) : Bool := d.ringLog2 != 0
/-- Slots the ring holds (R171). -/
def Desc.ringCount (d : Desc) : Nat := (d.wr.toNat + d.ringMod - d.rd.toNat) % d.ringMod
/-- HBM offset of slot i, and its package address. -/
def Desc.slotOff (d : Desc) (i : Nat) : Nat := d.base.toNat + 64 * (i % d.ringSize)
def Desc.slotAddr (d : Desc) (i : Nat) : Nat := 0xFF * 2 ^ 40 + d.slotOff i

/-- The 64 bytes of a slot (Table 8-3). -/
def slotBytes (ws : List SWord) : List Byte :=
  ((List.range 8).flatMap fun i => wordBytes (SWord.data (ws.getD i 0)))
    ++ natBytes 6 ((List.range 8).foldl (fun a i => a + (SWord.tag (ws.getD i 0)).toNat * 2 ^ (6 * i)) 0)
    ++ natBytes 1 ws.length ++ natBytes 25 0

/-- The words of a slot from its bytes. -/
def slotWords (l : List Byte) : List SWord :=
  let tags := bytesNat ((l.drop 32).take 6)
  let n := min 8 ((l.getD 38 0).toNat)
  (List.range n).map fun i => mkWord (BitVec.ofNat 6 (tags / 2 ^ (6 * i))) (bytesWord ((l.drop (4 * i)).take 4))

/-! Moving words between window, staging and ring (R176 to R179, R182). -/

/-- Outstanding transfers: issued and not yet answered. -/
def leatOut (l : List Leat) : Nat := (l.filter fun t => t.phase == .sent || t.phase == .retry).length

/-- Slots a spill has been given and that WR has not passed. -/
def Att.writing (a : Att) : Nat := (a.writes.filter fun t => !t.dead).length

/-- The ring holds a slot, or a leat write is outstanding, that of a removed slot too (R178); a queue in FAULT is without
a ring (R197). -/
def ringBusy (a : Att) (d : Desc) : Bool := d.state != qFault && (decide (0 < d.ringCount) || !a.writes.isEmpty)

def ringFull (a : Att) (d : Desc) : Bool := decide (d.ringSize ≤ d.ringCount + a.writing)

def ringUsable (d : Desc) : Bool := d.hasRing && d.state != qFault

/-- A write to a slot may be issued: fewer than eight are outstanding, and none of removed words to that slot, which is
overwritten later (R182, Table 8-5). (DEDUCED, log entry 30.) -/
def Att.mayWrite (a : Att) (d : Desc) (slot : Nat) : Bool :=
  decide (leatOut a.writes < 8) && !(a.writes.any fun t => t.dead && d.slotOff t.slot == d.slotOff slot)

/-- Some words removed: transfers of their slots complete and have no further effect (Table 8-5). -/
def killLeats (gone : Leat → Bool) (l : List Leat) : List Leat :=
  (l.map fun t => if gone t then { t with dead := true } else t).filter fun t =>
    !(t.dead && (t.phase == .done || t.phase == .queued))

/-- The packet now arriving is the head packet: no END is in the queue (R187). -/
def headArrives (a : Att) (d : Desc) : Bool := d.pkts == 0 && a.lost == []

/-- LEAT_PRIO (Table 8-15). -/
def State.leatPrio (s : State) : Nat := s.rfld (qmPage 0) 0x40 4 2

/-- The BE request of a leat transfer (R182). A service queue's is answered by `State.svcServe`. -/
def State.sendLeat (s : State) (k : Nat) (write : Bool) (t : Leat) : State :=
  if isSvc k then s
  else
    let d := s.desc (s.att k).queue
    s.send (requestTo (attNode k) 0x30 (if write then 2 else 3) s.leatPrio t.txn.toNat (d.slotAddr t.slot) 64
      (if write then slotBytes t.words else []))

/-- Issues the writes that wait, in order, at most `n` of them (R182); none while an unbinding waits for those outstanding
(R175). -/
def State.issueQueued (s : State) (k : Nat) : Nat → State
  | 0 => s
  | n + 1 =>
    let a := s.att k
    match a.writes.find? fun t => t.phase == .queued with
    | some t =>
      if a.mayWrite (s.desc a.queue) t.slot && a.unbind != .draining then
        let t' := { t with phase := .sent, issued := s.cycle }
        ((s.setAtt k { a with writes := a.writes.map fun u => if u == t then t' else u }).sendLeat k true t').issueQueued k n
      else s
    | none => s

/-- A write is added behind the others, and issued as soon as it may be. -/
def State.addWrite (s : State) (k slot : Nat) (ws : List SWord) : State :=
  let a := s.att k
  let t : Leat := { txn := a.nextTxn, slot := slot, phase := .queued, issued := s.cycle, words := ws, dead := false }
  (s.setAtt k { a with writes := a.writes ++ [t], nextTxn := a.nextTxn + 1 }).issueQueued k 8

/-- The words of the arriving packet among the last `n` of a run of words, given how many of its words lie behind it. -/
def tailCount (cur behind n : Nat) : Nat := min (cur - behind) n

/-- The staging area writes its oldest words, at most eight, to the ring as one slot (R178). -/
def State.spill (s : State) (k : Nat) : State :=
  let a := s.att k
  let d := s.desc a.queue
  let ws := a.staging.take 8
  let slot := (d.wr.toNat + a.writing) % d.ringMod
  -- how many of these words belong to the packet now arriving
  let mine := tailCount a.cur.length (a.staging.length - ws.length) ws.length
  let slots := if mine = 0 then a.slots else a.slots ++ [⟨slot, ws.take (ws.length - mine), mine⟩]
  ((s.setAtt k { a with staging := a.staging.drop 8, slots := slots }).setDesc a.queue
    { d with state := if d.state = qDirect then qSpilling else d.state }).addWrite k slot ws

/-- Free window places not promised to a refill (R179). -/
def Att.free (a : Att) : Nat := 16 - a.window.length - 8 * (a.reads.filter fun t => !t.dead).length

/-- A refill READ of the next slot (R179). -/
def State.refill (s : State) (k : Nat) : State :=
  let a := s.att k
  let d := s.desc a.queue
  let live := (a.reads.filter fun t => !t.dead).length
  let t : Leat := { txn := a.nextTxn, slot := (d.rd.toNat + live) % d.ringMod, phase := .sent, issued := s.cycle, words := []
                    dead := false }
  (s.setAtt k { a with reads := a.reads ++ [t], nextTxn := a.nextTxn + 1 }).sendLeat k false t

/-- Words come to the window in order. After a lost slot they are discarded up to and including an END, which leaves PKTS,
and one POISON word with the words discarded takes their place (R183). `mine` words at the end of the run belong to the
packet now arriving. -/
def State.enter (s : State) (k : Nat) (ws : List SWord) (mine : Nat) : State :=
  let a := s.att k
  match a.skip with
  | none => s.setAtt k { a with window := a.window ++ ws }
  | some n =>
    match ws.findIdx? SWord.isEnd with
    | none =>
      s.setAtt k { a with skip := some (n + ws.length), cur := a.cur.drop mine }
    | some j =>
      let d := s.desc a.queue
      let s := (s.setAtt k { a with skip := none, cur := a.cur.drop (j + 1 - (ws.length - mine))
                                    lost := a.lost ++ [a.window.length]
                                    window := a.window ++ [poisonWord 2 (attNode k) (n + j + 1)] ++ ws.drop (j + 1) }).setDesc a.queue
        { d with pkts := BitVec.ofNat 24 (d.pkts.toNat - 1) }
      (s.attBump k 2 1).attEvent k 2 2

/-- One move of the attachment: staging words to the window while the ring is not busy, a spill, or a refill with at most
two reads outstanding (R178, R179). -/
def State.pumpOnce (s : State) (k : Nat) : State :=
  let a := s.att k
  let d := s.desc a.queue
  let live := (a.reads.filter fun t => !t.dead).length
  if a.unbind != .none || isSvc k then s
  else if !ringBusy a d && a.staging != [] && decide (a.window.length < 16) then
    let ws := a.staging.take (16 - a.window.length)
    (s.setAtt k { a with staging := a.staging.drop ws.length }).enter k ws
      (tailCount a.cur.length (a.staging.length - ws.length) ws.length)
  else if ringUsable d && decide (8 ≤ a.staging.length) && (ringBusy a d || a.window.length == 16) && !ringFull a d
      && a.mayWrite d (d.wr.toNat + a.writing) && !(a.writes.any fun t => t.phase == .queued) then s.spill k
  else if ringUsable d && decide (live < d.ringCount) && decide (a.reads.length < 2) && decide (8 ≤ a.free) then s.refill k
  else s

/-- The attachment moves words until nothing more can move. -/
def State.pump (s : State) (k : Nat) : State :=
  (List.range 24).foldl (fun s _ => s.pumpOnce k) (s.issueQueued k 8)

/-- What follows when words have gone: a queue whose ring is empty, with no write outstanding, is DIRECT (Table 8-6), and
one that holds no word counts no packet (R183). -/
def State.settle (s : State) (k : Nat) : State :=
  let a := s.att k
  let d := s.desc a.queue
  if !a.bound || ringBusy a d then s
  else s.setDesc a.queue { d with state := if d.state = qSpilling then qDirect else d.state
                                  pkts := if a.window = [] ∧ a.staging = [] then 0 else d.pkts }

/-! Mirrored queues (R361, R362). -/

def twnPage : Page := ⟨.twn, 0⟩

/-- `TWN.STAT.ROLE` (Table 15-11): 0 OFF, 1 OWNER, 2 STANDBY, 3 JOINING, 4 DETACHED, 5 FAILED. -/
def State.role (s : State) : Nat := s.rfld twnPage 0x44 0 3

/-- A queue is named in `TWN.MQ`. -/
def State.mirrored (s : State) (q : Nat) : Bool :=
  (List.range 64).any fun k => s.rbit twnPage (0x100 + 4 * k) 31 && s.rfld twnPage (0x100 + 4 * k) 0 20 == q

/-- The owner hands a packet of a mirrored queue, or a flush request, to TWN. -/
def State.mirrorSend (s : State) (q : Nat) (ws : List SWord) : State :=
  if s.role == 1 && s.mirrored q then { s with mirrorOut := s.mirrorOut ++ [(q, ws)] } else s

/-- A packet of a mirrored queue has been delivered. -/
def State.mirrorDelivered (s : State) (q : Nat) : State :=
  if s.mirrored q then { s with mirrorCnt := tset (fun _ => 0) s.mirrorCnt q (tget (fun _ => 0) s.mirrorCnt q + 1) } else s

/-! The producer side (R178, R180, R181, R190), the gate's test and flushes (R191 to R194). -/

/-- The packet now arriving loses its stored words: they leave the staging area, the ring and the window, and reads of
their slots are discarded on arrival (R179). The slot it began in is written again with its older words alone, by one spill
write (R181). Returns the number of words removed. -/
def State.rollback (s : State) (k : Nat) : State × Nat :=
  let a := s.att k
  let d := s.desc a.queue
  let n := a.cur.length
  let inStaging := min n a.staging.length
  let inRing := min (n - inStaging) ((a.slots.map (·.count)).foldl (· + ·) 0)
  let inWindow := n - inStaging - inRing
  let a' := { a with staging := a.staging.take (a.staging.length - inStaging)
                     window := a.window.take (a.window.length - inWindow), cur := [], whole := [], slots := [] }
  match a.slots with
  | [] => (s.setAtt k a', n)
  | f :: _ =>
    let pos := fun (i : Nat) => (i + d.ringMod - d.rd.toNat) % d.ringMod
    let gone := fun (t : Leat) => decide (pos f.slot ≤ pos t.slot)
    -- older words of slot RD that were taken or skipped are no words of the queue
    let bare := f.older.length ≤ (if f.slot = d.rd.toNat then d.rdWord.toNat else 0)
    let s := (s.setAtt k { a' with writes := killLeats gone a'.writes, reads := killLeats gone a'.reads }).setDesc a.queue
      { d with wr := BitVec.ofNat 29 (if pos f.slot < d.ringCount then f.slot else d.wr.toNat)
               rdWord := if bare ∧ f.slot = d.rd.toNat then 0 else d.rdWord }
    (if bare then s else s.addWrite k f.slot f.older, n)

/-- A word is discarded for OVERFLOW or SPILL_STARVED (R180), which spoils its packet (R181): the packet's stored words
are removed and counted with it; when part of the packet has been delivered, a FLUSH-MARK of count 1 ends it. -/
def State.dropWord (s : State) (k : Nat) (starved isEnd : Bool) : State :=
  let a := s.att k
  let head := headArrives a (s.desc a.queue)
  let part := a.mid && head
  let r := s.rollback k
  let s := (r.1.attBump k (if starved then 1 else 0) (r.2 + 1)).attEvent k (if starved then 1 else 0) 0
  let d := s.desc a.queue
  let s := if part then
      s.setDesc a.queue { d with marker := true, markCnt := BitVec.ofNat 24 (satAdd 24 d.markCnt.toNat 1) }
    else s
  let a := s.att k
  (s.setAtt k { a with spoil := if isEnd then .none else .drop starved, arrived := if isEnd then 0 else a.arrived
                       mid := a.mid && !part, released := a.released && !head }).settle k

/-- A checked word is placed (R178): window, staging area, or discarded. `own` is a POISON word the queue makes: for want
of a place its packet is an overflow (R190). A service queue has neither window nor staging area: its words go to the ring
slot by slot (R176). -/
def State.place (s : State) (k : Nat) (own : Bool) (w : SWord) : State :=
  let a := s.att k
  let d := s.desc a.queue
  let full := SWord.isEnd w && d.pkts == 0xFFFFFF#24
  let direct := !isSvc k && !ringBusy a d && a.staging == [] && decide (a.window.length < 16) && a.skip.isNone
  let room := if isSvc k then ringUsable d && (decide (0 < a.staging.length % 8) || !ringFull a d) else decide (a.staging.length < 64)
  if full then s.dropWord k false true
  else if direct || room then
    let a := { a with window := if direct then a.window ++ [w] else a.window
                      staging := if direct then a.staging else a.staging ++ [w]
                      cur := a.cur ++ [w], whole := a.whole ++ [w], arrived := a.arrived + 1, lastArr := s.cycle }
    let s := s.setAtt k a
    let s := if SWord.isEnd w then
        ((s.setDesc a.queue { d with pkts := d.pkts + 1 }).setAtt k
          { a with cur := [], whole := [], slots := [], arrived := 0, spoil := .none }).mirrorSend a.queue a.whole
      else s
    if isSvc k && decide (8 ≤ (s.att k).staging.length) then s.spill k else s.pump k
  else s.dropWord k (!own && d.hasRing && d.state != qFault && !ringFull a d) (SWord.isEnd w)

/-- The POISON word a queue makes is counted and raised as it is made (R33, R201), then stored like any word. -/
def State.storePoison (s : State) (k cause count : Nat) : State :=
  let s := (s.attBump k 2 1).attEvent k 2 (BitVec.ofNat 64 cause)
  let a := s.att k
  (s.setAtt k { a with spoil := .none }).place k true (poisonWord cause (attNode k) count)

/-- The stamp check of a packet's first word at a gated queue (R35 to R37, R190): the POISON cause, if any. -/
def State.gateCheck (s : State) (k : Nat) (d : Desc) (w : SWord) : Option Nat :=
  let x := s.delivered (attDie k) d.axis.toNat
  if !SWord.isPos w then (if SWord.isPoison w && SWord.isEnd w then none else some 5)
  else if !x.valid then some 1
  else if (SWord.arg w).extractLsb' 0 2 != d.axis then some 4
  else
    let sv : BitVec 33 := (SWord.arg w).extractLsb' 2 1 ++ SWord.data w
    let dv := (sv - x.pos.extractLsb' 0 33).toInt
    if dv < -(2 ^ 31) ∨ 2 ^ 31 ≤ dv then some 1 else none

/-- A packet starts or goes on being replaced by POISON: the word is counted, and END makes the POISON word (R33).
(DEDUCED, log entry 25.) -/
def State.poisonTake (s : State) (k cause count : Nat) (w : SWord) : State :=
  if SWord.isEnd w then s.storePoison k cause count
  else
    let a := s.att k
    s.setAtt k { a with spoil := .poison cause count, arrived := a.arrived + 1 }

/-- The gate's test on a head packet's first word (R193, R194): true when it may leave. -/
def State.gatePasses (s : State) (k : Nat) (d : Desc) (w : SWord) : Bool :=
  if !d.gated then true
  else if SWord.isPoison w && SWord.isEnd w then true
  else
    let x := s.delivered (attDie k) d.axis.toNat
    let sv : BitVec 33 := (SWord.arg w).extractLsb' 2 1 ++ SWord.data w
    x.valid && decide ((sv - x.pos.extractLsb' 0 33).toInt ≤ (d.lead.toNat : Int))

/-- Words of the head packet in the queue while no END is in it: the words of the packet now arriving (R188). -/
def headWords (a : Att) (d : Desc) : Nat := if headArrives a d then a.cur.length else 4096

/-- The head packet may be taken (R186, R188). -/
def headReady (k : Nat) (a : Att) (d : Desc) : Bool :=
  !attWhole k || !headArrives a d || (d.weir != 0 && decide (d.weir.toNat ≤ headWords a d))

/-- A pending flush takes effect (R191): every word up to the last END stored goes, the words after it stay as the start
of the packet still arriving, and the FLUSH-MARK is armed with the packets removed. Transfers of removed slots complete
and have no further effect, and a discard after a lost slot that an END stored would have closed goes with its POISON word
(R196). (DEDUCED, log entry 29.) -/
def State.flushNow (s : State) (k : Nat) : State :=
  let a := s.att k
  let d := s.desc a.queue
  let n := a.cur.length
  let inStaging := min n a.staging.length
  let inRing := min (n - inStaging) ((a.slots.map (·.count)).foldl (· + ·) 0)
  let inWindow := n - inStaging - inRing
  let pos := fun (i : Nat) => (i + d.ringMod - d.rd.toNat) % d.ringMod
  -- the slot of the first word kept in the ring, and the words of it before that word
  let ring : Option (Nat × Nat) := match a.slots with
    | f :: _ => if 0 < inRing then some (f.slot, f.older.length) else none
    | [] => none
  let rd := (ring.map (·.1)).getD d.wr.toNat
  let wr := if d.ringCount < pos rd then rd else d.wr.toNat
  -- words of whole packets behind the window
  let behind := decide (inStaging < a.staging.length) || (match ring with
    | some (f, o) => decide (0 < pos f) || decide (d.rdWord.toNat < o)
    | none => decide (0 < d.ringCount) || decide (0 < a.writing))
  let lose := a.skip.isSome && behind
  let count := d.pkts.toNat + a.lost.length
  let s := s.setAtt k { a with staging := a.staging.drop (a.staging.length - inStaging)
                               window := a.window.drop (a.window.length - inWindow), lost := []
                               writes := killLeats (fun t => ring.isNone || decide (pos t.slot < pos rd)) a.writes
                               reads := killLeats (fun _ => true) a.reads
                               released := false, skip := if lose then none else a.skip }
  let s := s.setDesc a.queue { d with rd := BitVec.ofNat 29 rd, rdWord := BitVec.ofNat 3 ((ring.map (·.2)).getD 0)
                                      wr := BitVec.ofNat 29 wr, pkts := 0, marker := true, flush := false
                                      markCnt := BitVec.ofNat 24 (satAdd 24 d.markCnt.toNat count) }
  let s := if lose then (s.attBump k 2 1).attEvent k 2 2 else s
  (((s.attBump k 3 count).attEvent k 3 0).pump k).settle k

/-- A pending flush takes effect once the consumer is at a packet boundary (R191); that of a queue being unbound stays for
the next binding (Table 8-5). -/
def State.flushIfDue (s : State) (k : Nat) : State :=
  let a := s.att k
  if a.bound && (s.desc a.queue).flush && !a.mid && a.unbind == .none then s.flushNow k else s

/-- A flush is requested (R191); one already pending merges with it. -/
def State.flushRequest (s : State) (k : Nat) : State :=
  let a := s.att k
  let d := s.desc a.queue
  if d.flush then s
  else ((s.setDesc a.queue { d with flush := true }).setAtt k { a with flushAt := s.cycle }).mirrorSend a.queue []

/-- A flush that has waited 65,536 network cycles takes effect anyway (R192): the packet under way counts as removed, its
remaining words are discarded to its END, and the FLUSH-MARK ends the consumer's packet. -/
def State.flushForce (s : State) (k : Nat) : State :=
  let a := s.att k
  let d := s.desc a.queue
  if a.bound && d.flush && a.mid && a.unbind == .none then
    -- the packet under way is still arriving when no END is in the queue
    let arriving := headArrives a d
    let a' := { a with mid := false, released := false }
    let s := if arriving then
        let r := (s.setAtt k a').rollback k
        r.1.setAtt k { r.1.att k with spoil := if a.arrived = 0 then .none else .flushed }
      else s.setAtt k a'
    let s := s.flushNow k
    if arriving then
      let d := s.desc a.queue
      (s.setDesc a.queue { d with markCnt := BitVec.ofNat 24 (satAdd 24 d.markCnt.toNat 1) }).attBump k 3 1
    else s
  else s

/-- A word reaches the producer side of a queue: a flush that is due comes first (R195), then the checks of R190 in order,
then its place (R178). -/
def State.arriveWord (s : State) (k : Nat) (w : SWord) : State :=
  let s := s.flushIfDue k
  let a := s.att k
  let d := s.desc a.queue
  if SWord.isIdle w || !a.bound then s
  else match a.spoil with
  | .poison cause count => s.poisonTake k cause (count + 1) w
  | .drop starved =>
    let s := (s.attBump k (if starved then 1 else 0) 1).attEvent k (if starved then 1 else 0) 0
    if SWord.isEnd w then s.setAtt k { a with spoil := .none, arrived := 0 } else s
  | .flushed => if SWord.isEnd w then s.setAtt k { a with spoil := .none, arrived := 0 } else s
  | .none =>
    if SWord.isReserved w then s.poisonTake k 3 0 w
    else
      match (if d.gated && a.arrived == 0 then s.gateCheck k d w else none) with
      | some cause => s.poisonTake k cause 1 w
      | none =>
        if a.arrived == 4095 && !SWord.isEnd w then s.poisonTake k 6 0 w
        else s.place k false w

/-! STREAM packets of BE send ports (R168). -/

/-- The eight words of a flit, padded with IDLE (R40). -/
def flitOf (ws : List SWord) : Flit :=
  let w := fun i => ws.getD i idleWord
  ⟨#v[w 0, w 1, w 2, w 3, w 4, w 5, w 6, w 7], Vector.replicate 4 .clean⟩

/-- Slots, or flits, that a run of words fills. -/
def slotsFor (n : Nat) : Nat := (n + 7) / 8

/-- A flit of a packet under way joins those that wait at L (R115); a node that does not exist takes none (R20). -/
def State.toLane (s : State) (n : Nat) (f : ChanFlit) : State :=
  if nodeExists f.hdr.destNode.toNat then
    let x := s.router n
    s.setRouter n { x with inject := tset (fun _ => []) x.inject f.vc.toNat (tget (fun _ => []) x.inject f.vc.toNat ++ [f]) }
  else s

/-- The header of a STREAM packet under way at a send port other than `k` of a node, on a VC: its flits are not mixed with
others. -/
def State.laneTaken (s : State) (n k vc : Nat) : Bool :=
  isRegionNode n && (List.range 16).any fun p =>
    let j := portAtt (nodeRegion n) (16 + p)
    j != k && ((s.att j).beHdr.map vcOf) == some vc

/-- The port leaves ACTIVE inside a STREAM packet: IDLE padding completes it. (DESIGN CHOICE, log entry 30.) -/
def State.bePad (s : State) (k : Nat) : State :=
  let a := s.att k
  match a.beHdr with
  | none => s
  | some h =>
    let vc := BitVec.ofNat 3 (vcOf h)
    let s := (List.range a.beLeft).foldl (fun s i =>
      s.toLane (attNode k) ⟨true, vc, false, i + 1 == a.beLeft, h, flitOf (if i = 0 then a.beBuf else [])⟩) s
    s.setAtt k { s.att k with beHdr := none, beLeft := 0, beBuf := [], beEnd := false }

/-! Leat responses, retries and faults (R182, R183, R197). -/

/-- WR passes the slots whose writes have been answered, in order (Table 8-4). -/
def State.advanceWr (s : State) (k : Nat) : Nat → State
  | 0 => s
  | n + 1 =>
    let a := s.att k
    let d := s.desc a.queue
    match a.writes.filter (fun t => !t.dead) with
    | t :: _ =>
      if t.phase == .done && t.slot == d.wr.toNat then
        ((s.setAtt k { a with writes := a.writes.filter fun u => u.txn != t.txn || u.dead }).setDesc a.queue
          { d with wr := BitVec.ofNat 29 ((t.slot + 1) % d.ringMod) }).advanceWr k n
      else s
    | [] => s

/-- Refills answered in order bring their words to the window; RD passes their slots (R179). A slot lost to `DATA_ERROR`
starts the discard of R183. -/
def State.takeRefills (s : State) (k : Nat) : Nat → State
  | 0 => s
  | n + 1 =>
    let a := s.att k
    let d := s.desc a.queue
    match a.reads with
    | t :: rest =>
      if t.phase == .done then
        if t.dead then (s.setAtt k { a with reads := rest }).takeRefills k n
        else
          let mine := ((a.slots.filter fun x => x.slot == t.slot).map (·.count)).foldl (· + ·) 0
          let ws := t.words.drop d.rdWord.toNat
          let s := (s.setAtt k { a with reads := rest, slots := a.slots.filter fun x => x.slot != t.slot }).setDesc a.queue
            { d with rd := BitVec.ofNat 29 ((t.slot + 1) % d.ringMod), rdWord := 0 }
          let s := if t.words = [] then
              s.setAtt k { s.att k with skip := some ((s.att k).skip.getD 0), cur := a.cur.drop mine }
            else s.enter k ws mine
          s.takeRefills k n
      else s
    | [] => s

/-- The words of ring slots from `i` on, `n` slots, as they stand in HBM. -/
def State.ringWords (s : State) (d : Desc) (i : Nat) : Nat → List (List SWord)
  | 0 => []
  | n + 1 => slotWords (s.readBytes (d.slotAddr i) 64) :: s.ringWords d ((i + 1) % d.ringMod) n

/-- A leat fault (R197): the queue is in FAULT, the words of its ring are lost and counted as overflow. -/
def State.leatFault (s : State) (k slot : Nat) : State :=
  let a := s.att k
  let d := s.desc a.queue
  let inRing := match s.ringWords d d.rd.toNat d.ringCount with
    | [] => []
    | w :: ws => w.drop d.rdWord.toNat :: ws
  let lost := (inRing ++ (a.writes.filter fun t => !t.dead).map (·.words)).flatMap id
  let ends := (lost.filter SWord.isEnd).length
  let mine := (a.slots.map (·.count)).foldl (· + ·) 0
  let staged := min a.cur.length a.staging.length
  let s := (s.setDesc a.queue { d with state := qFault, pkts := BitVec.ofNat 24 (d.pkts.toNat - ends) }).setAtt k
    { a with writes := [], reads := [], slots := []
             cur := a.cur.take (a.cur.length - staged - mine) ++ a.cur.drop (a.cur.length - staged) }
  (((s.attBump k 0 lost.length).attEvent k 5 (BitVec.ofNat 64 (d.slotOff slot))).pump k).settle k

/-- The status of a response that is retried (Table 8-4). -/
def leatRetryable (st : Nat) : Bool := st == stDestAsleep || st == stUnderTest || st == stEndpointClosed

/-! Binding and unbinding (R173 to R175). -/

/-- A queue is bound to an attachment (R173, R174). -/
def State.bind (s : State) (k q node kind port : Nat) : State :=
  let s := s.descFetch q
  let d := s.desc q
  if d.state = qParked ∧ !d.bound then
    let d := { d with bound := true, kind := BitVec.ofNat 2 kind, port := BitVec.ofNat 6 port, node := BitVec.ofNat 8 node
                      state := if d.ringCount = 0 then qDirect else qSpilling }
    let s := s.setDesc q d
    let s := if kind = 3 then s else { s with lru := s.lru.filter (· != q) }
    let s := s.setAtt k { Att.reset with bound := true, queue := q, flushAt := s.cycle, lastArr := s.cycle }
    ((if kind = 3 then s else s.setBit (attPage k) 0xC 6 false).pump k)
  else
    (s.setBit (attPage k) 0xC 6 true).raise (attPage k) 6 (BitVec.ofNat 32 (7 * 2 ^ 28 + attIdx k * 2 ^ 20 + q)) 0

/-- Drops words up to and including the first END; the words dropped and the rest. -/
def cutHead : List SWord → Nat → Bool × Nat × List SWord
  | [], n => (false, n, [])
  | w :: ws, n => if SWord.isEnd w then (true, n + 1, ws) else cutHead ws (n + 1)

/-- The words of a list without its youngest packet: everything up to and including the last END before the final word. -/
def cutTail (l : List SWord) : List SWord :=
  let r := (l.reverse.drop 1).dropWhile fun w => !SWord.isEnd w
  r.reverse

/-- Whole packets are discarded, the youngest first, until the rest fits the ring (R175): window, ring slots and staging
words after at most `n` discards, with the words discarded. -/
def fitRing (size : Nat) : Nat → List SWord → List (List SWord) → List SWord → Nat →
    List SWord × List (List SWord) × List SWord × Nat
  | 0, w, r, g, lost => (w, r, g, lost)
  | n + 1, w, r, g, lost =>
    if slotsFor w.length + r.length + slotsFor g.length ≤ size then (w, r, g, lost)
    else if (g.dropLast.any SWord.isEnd) then
      let g' := cutTail g
      fitRing size n w r g' (lost + g.length - g'.length)
    else match r.getLast? with
      | some x => fitRing size n w r.dropLast (if g = [] then x else x ++ g) lost
      | none =>
        if w = [] then fitRing size n [] [] (cutTail g) (lost + g.length - (cutTail g).length)
        else fitRing size n [] [] (w ++ g) lost

/-- Words cut into slots of eight, the first one holding the words beyond a multiple of eight (R175). -/
def oldestShort (ws : List SWord) : List (List SWord) :=
  let h := ws.length % 8
  let rest := ws.drop h
  (if h = 0 then [] else [ws.take h]) ++ (List.range (rest.length / 8)).map fun i => (rest.drop (8 * i)).take 8

/-- Words cut into slots of eight, the last one holding fewer. -/
def youngestShort (ws : List SWord) : List (List SWord) :=
  (List.range (slotsFor ws.length)).map fun i => (ws.drop (8 * i)).take 8

/-- An unbinding ends (R175): the descriptor goes back with BOUND 0 in the given state, and the attachment is free.
(DEDUCED, log entry 31.) -/
def State.endUnbind (s : State) (k : Nat) (st : BitVec 3) (rd wr : Nat) : State :=
  let a := s.att k
  let d := s.desc a.queue
  let d := { d with bound := false, state := st, rd := BitVec.ofNat 29 rd, wr := BitVec.ofNat 29 wr }
  let s := ((s.bePad k).setDesc a.queue d).setAtt k Att.reset
  { s with lru := s.lru.filter (· != a.queue) ++ [a.queue] }

/-- Drops `n` words from the front of a ring's slots: slots gone whole, the rest of the slot cut, the slots left. -/
def dropSlots : Nat → List (List SWord) → Nat × List SWord × List (List SWord)
  | _, [] => (0, [], [])
  | n, w :: ws =>
    if n = 0 then (0, [], w :: ws)
    else if n < w.length then (1, w.drop n, ws)
    else match dropSlots (n - w.length) ws with
      | (k, r, l) => (k + 1, r, l)

/-- After a lost slot the words that follow go up to and including an END, and one POISON word takes their place (R183):
the words dropped, and the POISON word. With no END the POISON word ends the packet at once. -/
def skipRun (k : Nat) (skip : Option Nat) (ws : List SWord) : Nat × List SWord :=
  match skip with
  | none => (0, [])
  | some n =>
    let c := ((ws.findIdx? SWord.isEnd).map (· + 1)).getD ws.length
    (c, [poisonWord 2 (attNode k) (n + c)])

/-- Step 2 for a head packet that is still arriving, and step 3 (R175): what the consumer has begun goes; a pending POISON
word is stored and ends its packet; an incomplete packet at the tail is rolled back. -/
def State.unbindTail (s : State) (k : Nat) : State :=
  let a := s.att k
  let back := fun (s : State) => (s.rollback k).1.attBump k 4 (s.rollback k).2
  let s := if a.mid && headArrives a (s.desc a.queue) then back s else s
  match a.spoil with
  | .poison cause count => back (s.storePoison k cause count)
  | _ => back s

/-- Steps 2 to 4 of an unbinding (R175), once no leat transfer is outstanding. -/
def State.unbindWrite (s : State) (k : Nat) : State :=
  let taken := (s.att k).mid && !headArrives (s.att k) (s.desc (s.att k).queue)
  let s := s.unbindTail k
  let a := s.att k
  let d := s.desc a.queue
  let slots := if ringUsable d then s.ringWords d d.rd.toNat d.ringCount else []
  -- a slot taken in part joins the window's words, so that RD_WORD becomes 0
  let part := b2n (d.rdWord != 0 && slots != [])
  let w0 := if part = 0 then [] else (slots.headD []).drop d.rdWord.toNat
  let r0 := slots.drop part
  -- older words of a slot whose younger ones were rolled back are written again
  let g0 := (a.writes.filter fun t => !t.dead).flatMap (·.words) ++ a.staging
  -- a lost slot's discard ends here
  let sk := skipRun k a.skip (w0 ++ r0.flatMap id ++ g0)
  let s := if a.skip.isSome then (s.attBump k 2 1).attEvent k 2 2 else s
  let fs := dropSlots (sk.1 - w0.length) r0
  let w1 := a.window ++ sk.2 ++ w0.drop sk.1 ++ fs.2.1
  let g1 := g0.drop (sk.1 - w0.length - (r0.flatMap id).length)
  -- step 2: the rest of a packet taken in part goes, up to and including its END
  let cut := if taken then cutHead (w1 ++ fs.2.2.flatMap id ++ g1) 0 else (false, 0, [])
  let n := if cut.1 then cut.2.1 else 0
  let s := s.attBump k 4 n
  let fr := dropSlots (n - w1.length) fs.2.2
  let w2 := w1.drop n ++ fr.2.1
  let g2 := g1.drop (n - w1.length - (fs.2.2.flatMap id).length)
  -- step 4: what does not fit goes, the youngest packets first
  let fit := fitRing (if ringUsable d then d.ringSize else 0) (fr.2.2.length + w2.length + (fr.2.2.flatMap id).length + g2.length + 2)
    w2 fr.2.2 g2 0
  let s := s.attBump k 4 fit.2.2.2
  let head := oldestShort fit.1
  let tail := youngestShort fit.2.2.1
  let start := (d.rd.toNat + part + fs.1 + fr.1) % d.ringMod
  let rd := (start + d.ringMod - head.length) % d.ringMod
  let wr := (start + fit.2.1.length + tail.length) % d.ringMod
  let mk := fun (i : Nat) (ws : List SWord) (slot : Nat) =>
    ({ txn := a.nextTxn + BitVec.ofNat 8 i, slot := slot, phase := .queued, issued := s.cycle, words := ws, dead := false } : Leat)
  let hw := head.mapIdx fun i ws => mk i ws ((rd + i) % d.ringMod)
  let tw := tail.mapIdx fun i ws => mk (head.length + i) ws ((start + fit.2.1.length + i) % d.ringMod)
  let ends := ((fit.1 ++ fit.2.1.flatMap id ++ fit.2.2.1).filter SWord.isEnd).length
  let s := s.setDesc a.queue { d with pkts := BitVec.ofNat 24 ends, rdWord := 0 }
  let s := s.setAtt k { s.att k with window := [], staging := [], writes := hw ++ tw, reads := [], unbind := .writing
                                     unbindAt := s.cycle, unbindRd := rd, unbindWr := wr, cur := [], slots := [], lost := []
                                     nextTxn := a.nextTxn + BitVec.ofNat 8 (hw ++ tw).length
                                     mid := false, released := false, spoil := .none, skip := none }
  if hw ++ tw = [] then s.endUnbind k (if d.state = qFault then qFault else qParked) rd wr
  else s.issueQueued k 8

/-- The words of a bound service queue lie in its ring: unbinding keeps its descriptor (R199). -/
def State.svcPark (s : State) (k : Nat) : State :=
  let q := (s.att k).queue
  let d := s.desc q
  (s.setDesc q { d with bound := false, state := if d.state = qFault then qFault else qParked }).setAtt k Att.reset

/-- An unbinding goes on as soon as its leat transfers allow (R175). (DEDUCED, log entry 31.) -/
def State.unbindNext (s : State) (k : Nat) : State :=
  let a := s.att k
  match a.unbind with
  | .none => s
  | .draining =>
    if isSvc k then (if a.writes = [] then s.svcPark k else s)
    else if leatOut a.writes = 0 ∧ leatOut a.reads = 0 then s.unbindWrite k else s
  | .writing =>
    if a.writes.all fun t => t.phase == .done then
      s.endUnbind k (if (s.desc a.queue).state = qFault then qFault else qParked) a.unbindRd a.unbindWr
    else s.issueQueued k 8

/-- A port's queue is unbound (R175): step 1 waits for outstanding transfers. (DEDUCED, log entry 31.) -/
def State.unbindStart (s : State) (k : Nat) : State :=
  let a := s.att k
  if a.bound && a.unbind == .none then
    ((s.bePad k).setAtt k { (s.bePad k).att k with unbind := .draining, unbindAt := s.cycle }).unbindNext k
  else s

/-- Transfers of an unbinding have not finished within 65,536 network cycles (R175): what is not in the ring is discarded
and counted, and the queue is left in FAULT. -/
def State.unbindTimeout (s : State) (k : Nat) : State :=
  let a := s.att k
  match a.unbind with
  | .none => s
  | .draining =>
    (s.attBump k 4 (a.window.length + a.staging.length)).endUnbind k qFault (s.desc a.queue).rd.toNat (s.desc a.queue).wr.toNat
  | .writing =>
    let lost := ((a.writes.filter fun t => t.phase != .done).map (·.words.length)).foldl (· + ·) 0
    (s.attBump k 4 lost).endUnbind k qFault a.unbindRd a.unbindWr

/-- A leat fault while an unbinding writes (R175, R197, Table 8-4): the words in the ring are lost and counted as overflow,
those not yet written are discarded. (DEDUCED, log entry 31.) -/
def State.unbindFault (s : State) (k slot : Nat) : State :=
  let a := s.att k
  let d := s.desc a.queue
  let open_ := (a.writes.filter fun t => t.phase != .done).map (·.slot)
  let held := ((List.range ((a.unbindWr + d.ringMod - a.unbindRd) % d.ringMod)).map fun i => (a.unbindRd + i) % d.ringMod).filter
    fun i => !open_.contains i
  let lost := (held.map fun i => (slotWords (s.readBytes (d.slotAddr i) 64)).length).sum
  ((s.attBump k 0 lost).attEvent k 5 (BitVec.ofNat 64 (d.slotOff slot))).unbindTimeout k

/-- A leat response arrives (R182, Table 8-4). `data` are the 64 bytes of a refill. A response to a transfer whose words were
removed has no effect beyond its end. -/
def State.leatResponse (s : State) (k : Nat) (txn : BitVec 8) (status : Nat) (data : List Byte) : State :=
  let a := s.att k
  let hit := fun (t : Leat) => t.txn == txn && t.phase == .sent
  match a.writes.find? hit, a.reads.find? hit with
  | some t, _ =>
    let upd := fun (p : LeatPhase) => s.setAtt k { a with writes := killLeats (fun _ => false) (a.writes.map fun u =>
      if u == t then { u with phase := p, issued := s.cycle } else u) }
    if status = stOK then
      let s := upd .done
      if a.unbind == .writing then s.unbindNext k
      else (((s.advanceWr k 80).pump k).settle k).unbindNext k
    else if leatRetryable status then upd .retry
    else if a.unbind == .writing then s.unbindFault k t.slot
    else (s.leatFault k t.slot).unbindNext k
  | none, some t =>
    let upd := fun (p : LeatPhase) (ws : List SWord) =>
      s.setAtt k { a with reads := killLeats (fun _ => false) (a.reads.map fun u =>
        if u == t then { u with phase := p, issued := s.cycle, words := ws } else u) }
    if status = stOK then (((upd .done (slotWords data)).takeRefills k 4).pump k).settle k |>.unbindNext k
    else if status = stDataError then (((upd .done []).takeRefills k 4).pump k).settle k |>.unbindNext k
    else if leatRetryable status then upd .retry []
    else (s.leatFault k t.slot).unbindNext k
  | none, none => s

/-- A leat transfer gets no response within 65,536 network cycles of its latest issue (R182): it waits to be reissued, and
a response to that issue is discarded. -/
def State.leatTimeout (s : State) (k : Nat) (txn : BitVec 8) : State :=
  let a := s.att k
  let upd := fun (l : List Leat) => l.map fun t => if t.txn == txn && t.phase == .sent then { t with phase := .retry, issued := s.cycle } else t
  s.setAtt k { a with writes := upd a.writes, reads := upd a.reads }

/-- 1,024 network cycles later the transfer is reissued under a new transaction number, so that a response to an earlier
issue is none to it, and counted (R182). (DEDUCED, log entry 30.) -/
def State.leatReissue (s : State) (k : Nat) (txn : BitVec 8) : State :=
  let a := s.att k
  let d := s.desc a.queue
  let hit := fun (t : Leat) => t.txn == txn && t.phase == .retry
  let again := fun (t : Leat) => { t with txn := a.nextTxn, phase := .sent, issued := s.cycle }
  let upd := fun (l : List Leat) => l.map fun t => if hit t then again t else t
  let go := fun (write : Bool) (t : Leat) =>
    (((s.setAtt k { a with writes := upd a.writes, reads := upd a.reads, nextTxn := a.nextTxn + 1 }).sendLeat k write (again t)).bump
      (attPage k) (if isSvc k then 0x60 else 0x44)).attEvent k 4 (BitVec.ofNat 64 (d.slotOff t.slot))
  match a.writes.find? hit, a.reads.find? hit with
  | some t, _ => go true t
  | none, some t => go false t
  | none, none => s

/-- 64 network cycles pass with no arrival after an END word while the ring is busy: a partial slot is spilled (R178). -/
def State.spillIdle (s : State) (k : Nat) : State :=
  let a := s.att k
  let d := s.desc a.queue
  if a.bound && ringUsable d && ringBusy a d && !ringFull a d && a.mayWrite d (d.wr.toNat + a.writing)
      && !(a.writes.any fun t => t.phase == .queued)
      && (a.staging.getLast?.map SWord.isEnd).getD false && !isSvc k && a.unbind == .none then (s.spill k).pump k
  else s

/-! The leat of service queues (R176, R182): the millpond's transfer is answered at once, by what the stack of its slot
gives now. (DESIGN CHOICE, log entry 30.) -/

/-- The status HBM gives a transfer of a slot (R20, R252). -/
def State.leatStatus (s : State) (d : Desc) (slot : Nat) : Nat :=
  if hbmSize < d.slotOff slot + 64 then stUnmapped
  else if s.hbmServes (stackOf s.intlv4k (d.slotOff slot)) then stOK else stDestAsleep

/-- Answers the issued transfers of a service queue, at most `n`, writes first. -/
def State.svcServe (s : State) (k : Nat) : Nat → State
  | 0 => s
  | n + 1 =>
    let a := s.att k
    let d := s.desc a.queue
    match a.writes.find? (·.phase == .sent), a.reads.find? (·.phase == .sent) with
    | some t, _ =>
      let st := s.leatStatus d t.slot
      ((if st = stOK then s.writeBytes (d.slotAddr t.slot) (slotBytes t.words) else s).leatResponse k t.txn st []).svcServe k n
    | none, some t =>
      let st := s.leatStatus d t.slot
      if st = stOK then
        let x := s.takeFree
        let u := x.2.hbmCheck (stackOf s.intlv4k (d.slotOff t.slot)) (d.slotOff t.slot) (eccOf x.1) (fld x.1 2 4)
        (u.leatResponse k t.txn (if eccOf x.1 == .bad then stDataError else stOK) (u.readBytes (d.slotAddr t.slot) 64)).svcServe k n
      else (s.leatResponse k t.txn st []).svcServe k n
    | none, none => s

/-- POP reads the ring's next slots until it has a word (R176). -/
def State.svcLoad (s : State) (k : Nat) : Nat → State
  | 0 => s
  | n + 1 =>
    let a := s.att k
    let d := s.desc a.queue
    if a.window == [] && a.reads == [] && decide (0 < d.ringCount) && ringUsable d then ((s.refill k).svcServe k 2).svcLoad k n
    else s

/-- The head of a service queue comes to hand; other attachments have a window. -/
def State.svcReady (s : State) (k : Nat) : State := if isSvc k then s.svcLoad k 4097 else s

/-! The consumer side (R186 to R193). -/

/-- The consumer side takes one word from the head, or IDLE with its cause (R189, R195): the flush first, then the
marker, then the gate and the delivery mode. `closed` tells that the node's gate is not OPEN. -/
def State.deliver (s : State) (k : Nat) (closed : Bool) : State × SWord :=
  let a := s.att k
  if !a.bound then (s, idleOf 1)
  else if closed then (s, idleOf 2)
  else
    let s := (s.flushIfDue k).svcReady k
    let a := s.att k
    let d := s.desc a.queue
    if d.marker && !a.mid then
      (s.setDesc a.queue { d with marker := false, markCnt := 0 }, flushMark d.markCnt.toNat)
    else
      match a.window with
      | [] => (s, idleOf 0)
      | w :: ws =>
        if !a.mid && !a.released && !s.gatePasses k d w then (s, idleOf 3)
        else if !a.mid && !headReady k a d then (s, idleOf 0)
        else
          let e := SWord.isEnd w
          -- a POISON word that stands for a lost slot left PKTS unchanged (R183)
          let pkts := if a.lost.contains 0 then d.pkts else BitVec.ofNat 24 (d.pkts.toNat - 1)
          let s := s.setAtt k { a with window := ws, mid := !e, released := !e, lost := (a.lost.filter (0 < ·)).map (· - 1)
                                       cur := if headArrives a d then a.cur.drop 1 else a.cur }
          let s := if e then (s.setDesc a.queue { d with pkts := pkts }).mirrorDelivered a.queue else s
          ((s.pump k).settle k, w)

/-- Up to `n` deliverable words in order. -/
def State.deliverMany (s : State) (k : Nat) (closed : Bool) : Nat → State × List SWord
  | 0 => (s, [])
  | n + 1 =>
    match s.deliver k closed with
    | (s', w) =>
      if SWord.isIdle w then (s', [])
      else
        match s'.deliverMany k closed n with
        | (s'', ws) => (s'', w :: ws)

/-- The gate's test of a network cycle on the head packet (R193): one that passes releases it for good. -/
def State.gateRelease (s : State) (k : Nat) : State :=
  let a := s.att k
  let d := s.desc a.queue
  match a.window with
  | w :: _ => if a.bound && d.gated && !a.mid && s.gatePasses k d w then s.setAtt k { a with released := true } else s
  | [] => s

end Sys2Proof.Machine
end

