-- ==== Sys2Proof/Machine/Service.lean ====
section
/-! DEFINITION. The commands at queues, the sends of BE ports, and the millpond's service operations (R168, R178 to R203). -/

namespace Sys2Proof.Machine

/-- The page of a port and its index (R200): pages 0 to 127 are the regions', 128 to 131 the millpond quarters'. -/
def portKey (page : Fin 132) (i : Fin 32) : Nat := portAtt (if page.val < 128 then page.val else 0x100 + (page.val - 128)) i.val

/-- The gate of a receiving attachment's node is not OPEN (R189). -/
def State.attClosed (s : State) (k : Nat) : Bool := !isSvc k && !attSends k && s.gate (attNode k) != gateOpen

/-- Every word of a queue in stream order: window, ring, slots being written, staging (R176). -/
def State.queueWords (s : State) (k : Nat) : List SWord :=
  let a := s.att k
  let d := s.desc a.queue
  let ring := if d.state = qFault then [] else
    match s.ringWords d d.rd.toNat d.ringCount with
    | [] => []
    | w :: ws => (w.drop d.rdWord.toNat :: ws).flatMap id
  a.window ++ ring ++ (a.writes.filter fun t => !t.dead).flatMap (·.words) ++ a.staging

/-- TXDEST of a send port (Table 13-4): BE bit, DEST_NODE, DEST_PORT, PRIO. -/
def State.txDest (s : State) (r p : Nat) : Word := tget (fun _ => 0) (s.region r).txdest p

/-- Words of the next STREAM packet (R168): the FLUSH-MARK alone when it is next, else those up to the head packet's END,
or 512; 0 while neither is there or the gate holds the head. -/
def State.streamCount (s : State) (k : Nat) : Nat :=
  let a := s.att k
  let d := s.desc a.queue
  if d.marker && !a.mid then 1
  else
    let all := s.queueWords k
    if !a.mid && !a.released && !(all.head?.map (s.gatePasses k d)).getD false then 0
    else match all.findIdx? SWord.isEnd with
      | some j => min (j + 1) 512
      | none => if 512 ≤ all.length then 512 else 0

/-- The header of a STREAM packet leaves as soon as its words are deliverable (R168), unless another one is under way on its
channel. -/
def State.beStart (s : State) (k : Nat) : State :=
  let w := s.txDest (k / 32) (k % 32 - 16)
  let n := attNode k
  let want := s.streamCount k
  let h : Header := { bareHeader with
    len := BitVec.ofNat 7 (slotsFor want), bkind := 0, prio := BitVec.ofNat 2 (fld w 16 2)
    destPort := BitVec.ofNat 6 (fld w 8 6), destNode := BitVec.ofNat 8 (fld w 0 8), srcNode := BitVec.ofNat 8 n }
  if want = 0 || s.laneTaken n k (vcOf h) then s
  else
    let s := s.setAtt k { s.att k with beHdr := some h, beLeft := slotsFor want, beBuf := [], beEnd := false }
    let s := if nodeExists h.destNode.toNat then s else s.bump (rtrPage n) 0x84
    s.toLane n ⟨true, BitVec.ofNat 3 (vcOf h), true, false, h, headerFlit h⟩

/-- Up to `n` deliverable words, none after an END. -/
def State.packetWords (s : State) (k : Nat) : Nat → State × List SWord
  | 0 => (s, [])
  | n + 1 =>
    match s.deliver k false with
    | (s', w) =>
      if SWord.isIdle w then (s', [])
      else if SWord.isEnd w then (s', [w])
      else
        match s'.packetWords k n with
        | (s'', ws) => (s'', w :: ws)

/-- A BE send port hands over what it can: a header, then payload flits as the window supplies their words, the last one
padded (R40, R168). An END closes the packet; flits its header still promises, for words a flush or a rollback removed,
hold IDLE. (DESIGN CHOICE, log entry 30.) -/
def State.bePump (s : State) (k : Nat) : Nat → State
  | 0 => s
  | n + 1 =>
    let a := s.att k
    match a.beHdr with
    | none =>
      let t := s.beStart k
      if (t.att k).beHdr.isNone then s else t.bePump k n
    | some h =>
      let x := if a.beEnd then (s, []) else s.packetWords k (8 - a.beBuf.length)
      let buf := a.beBuf ++ x.2
      let fin := a.beEnd || (buf.getLast?.map SWord.isEnd).getD false
      let last := decide (a.beLeft ≤ 1)
      let s := x.1
      if fin || buf.length == 8 then
        let s := s.setAtt k { s.att k with beHdr := if last then none else some h, beLeft := a.beLeft - 1, beBuf := []
                                           beEnd := fin && !last }
        (s.toLane (attNode k) ⟨true, BitVec.ofNat 3 (vcOf h), false, last, h, flitOf buf⟩).bePump k n
      else s.setAtt k { s.att k with beBuf := buf }

/-- A BE send port of an ACTIVE region injects STREAM packets (R168). -/
def State.beSend (s : State) (k : Nat) : State :=
  if k / 32 < 128 && attSends k && bit (s.txDest (k / 32) (k % 32 - 16)) 24 && s.rgnActive (k / 32) && (s.att k).bound then
    s.bePump k 200
  else s

/-- The attachment discards a local word (R361): the rest of a packet begun so goes with it (R368 step 4). -/
def State.cutLocal (s : State) (k : Nat) (w : SWord) : State :=
  if SWord.isIdle w then s
  else
    let l := s.twin.cut.filter (· != k)
    { s.bump twnPage 0xA0 with twin := { s.twin with cut := if SWord.isEnd w then l else k :: l } }

/-- A word from the local producer (R190): a mirrored queue of a STANDBY or JOINING package takes none (R361), and after a
takeover none before the next packet boundary (R368 step 4). -/
def State.arriveLocal (s : State) (k : Nat) (w : SWord) : State :=
  let q := (s.att k).queue
  if ((s.att k).bound && s.mirrored q && (s.role == 2 || s.role == 3)) || s.twin.cut.contains k then s.cutLocal k w
  else s.arriveWord k w

def execQueueWordArrive (page : Fin 132) (i : Fin 32) (w : SWord) (s : State) : Host.Outcome State Fault Refusal :=
  .next ((s.arriveLocal (portKey page i) w).beSend (portKey page i))

def execSpillIdleTimeout (page : Fin 132) (i : Fin 32) (s : State) : Host.Outcome State Fault Refusal :=
  .next (s.spillIdle (portKey page i))

/-- The consumer side takes a word (R186, R195). A region's receive port presents it to its lane (R110); the word is also
the command's answer, data first, then tag. -/
def State.consume (s : State) (k : Nat) : State :=
  let x := s.deliver k (s.attClosed k)
  let s := x.1.reply stOK [SWord.data x.2, (SWord.tag x.2).setWidth 32]
  if k / 32 < 128 && k % 32 < 16 then
    let r := s.region (k / 32)
    s.setRegion (k / 32) { r with present := putWord r.present (k % 32) x.2 }
  else s

def execQueueDeliver (page : Fin 132) (i : Fin 32) (s : State) : Host.Outcome State Fault Refusal :=
  .next (s.consume (portKey page i))

/-- See the log (DESIGN CHOICE, log entry 8). -/
def execLeatTimeout (page : Fin 132) (i : Fin 32) (txn : BitVec 8) (s : State) : Host.Outcome State Fault Refusal :=
  .next (s.leatTimeout (portKey page i) txn)

def execLeatReissue (page : Fin 132) (i : Fin 32) (txn : BitVec 8) (s : State) : Host.Outcome State Fault Refusal :=
  .next (s.leatReissue (portKey page i) txn)

/-- A write of FLUSH to `QP.CTRL` (R191); a port without a queue has none to flush. -/
def State.qpFlush (s : State) (k : Nat) : State :=
  if (s.att k).bound then (s.flushRequest k).flushIfDue k else s

def execQpFlush (page : Fin 132) (i : Fin 32) (s : State) : Host.Outcome State Fault Refusal :=
  .next (((s.qpFlush (portKey page i)).beSend (portKey page i)).reply stOK [])

def execFlushEffect (page : Fin 132) (i : Fin 32) (s : State) : Host.Outcome State Fault Refusal :=
  .next ((s.flushIfDue (portKey page i)).beSend (portKey page i))

/-- See the log (DESIGN CHOICE, log entry 8). -/
def execFlushForced (page : Fin 132) (i : Fin 32) (s : State) : Host.Outcome State Fault Refusal :=
  .next ((s.flushForce (portKey page i)).beSend (portKey page i))

/-- A write of WEIR (R188, Table 8-10): ignored while unbound. -/
def State.qpWeir (s : State) (k : Nat) (w : BitVec 12) : State :=
  let a := s.att k
  if a.bound then s.setDesc a.queue { s.desc a.queue with weir := w } else s

def execQpWeirWrite (page : Fin 132) (i : Fin 32) (w : BitVec 12) (s : State) : Host.Outcome State Fault Refusal :=
  .next ((s.qpWeir (portKey page i) w).reply stOK [])

/-! Service operations (R198, R199). -/

/-- Where a service operation's producer or consumer side lies: the GS window or the service queue's own sides. -/
def Desc.svcKey (d : Desc) (q : Nat) : Option Nat :=
  if !d.bound then none
  else
    let inst := 0x100 + ((List.range 4).find? fun i => quarterNode i == d.node.toNat).getD 0
    match d.kind.toNat with
    | 1 => some (portAtt inst (16 + d.port.toNat % 16))
    | 2 => some (portAtt inst (d.port.toNat % 16))
    | 3 => some (svcAtt q)
    | _ => none

/-- `SVC_DENIED` (R199): counted and raised with the operation. -/
def State.svcDeny (s : State) (q op : Nat) : State × Nat × List Byte :=
  ((s.bump (qmPage (q % 4)) 0x64).raise (qmPage (q % 4)) 5 (BitVec.ofNat 32 (8 * 2 ^ 28 + op * 2 ^ 20 + q)) 0, stDenied, [])

/-- A service operation's descriptor: cached, counted as hit or miss, or fetched from HBM (R172, R202). -/
def State.svcFetch (s : State) (q : Nat) : State :=
  (s.bump (qmPage (q % 4)) (if s.descCached q then 0x4C else 0x50)).descFetch q

/-- A stream word from its 8-byte entry (R198). -/
def entryWord (l : List Byte) : SWord := mkWord ((l.getD 4 0).extractLsb' 0 6) (bytesWord (l.take 4))

def entryBytes (w : SWord) : List Byte := wordBytes (SWord.data w) ++ [(SWord.tag w).setWidth 8, 0, 0, 0]

/-- Entries of a payload. -/
def entryWords : Nat → List Byte → List SWord
  | 0, _ => []
  | n + 1, l => entryWord (l.take 8) :: entryWords n (l.drop 8)

/-- A service queue's POP ends: words loaded and not taken stay in their slot, RD_WORD telling those taken (R176). A POISON
word made for a lost slot has no place there and stays at hand. -/
def State.svcUnload (s : State) (k : Nat) : State :=
  let a := s.att k
  let d := s.desc a.queue
  let kept := a.window.take (b2n (a.lost != []))
  let back := a.window.length - kept.length
  if isSvc k && back ≠ 0 then
    let slot := (d.rd.toNat + d.ringMod - 1) % d.ringMod
    let ws := slotWords (s.readBytes (d.slotAddr slot) 64)
    let mine := min back (a.cur.length - a.staging.length - ((a.slots.map (·.count)).foldl (· + ·) 0))
    let slots := if mine = 0 then a.slots else ⟨slot, ws.take (ws.length - mine), mine⟩ :: a.slots
    (s.setAtt k { a with window := kept, slots := slots }).setDesc a.queue
      { d with rd := BitVec.ofNat 29 slot, rdWord := BitVec.ofNat 3 (ws.length - back)
               state := if d.state = qDirect then qSpilling else d.state }
  else s

/-- The words of a PUSH that fill no slot are its last slot, and its slots are written (R176). -/
def State.svcFinish (s : State) (k : Nat) : State :=
  if isSvc k then (if (s.att k).staging != [] then s.spill k else s).svcServe k 600 else s

/-- An operation on an unbound queue in FAULT, or on an UNUSED queue, is refused unless it is CONFIG (R199). -/
def svcBarred (d : Desc) : Bool := d.state == qUnused || (d.state == qFault && !d.bound)

/-- PUSH: entries are appended in order under R190. -/
def State.svcPush (s : State) (q : Nat) (ws : List SWord) : State × Nat × List Byte :=
  let s := s.svcFetch q
  let d := s.desc q
  match d.svcKey q with
  | some k =>
    if svcBarred d || d.kind == 2#2 then s.svcDeny q 0
    else ((ws.foldl (fun s w => s.arriveLocal k w) s).svcFinish k, stOK, [])
  | none => s.svcDeny q 0

/-- `n` entries for POP: deliverable words in order, then IDLE with its cause (R189). -/
def State.popWords (s : State) (k : Nat) : Nat → State × List SWord
  | 0 => (s, [])
  | n + 1 =>
    match s.deliver k false with
    | (s', w) =>
      if SWord.isIdle w then (s', List.replicate (n + 1) w)
      else
        match s'.popWords k n with
        | (s'', ws) => (s'', w :: ws)

/-- POP of `n` entries; under QUIET nothing is removed. -/
def State.svcPop (s : State) (q n : Nat) (quiet : Bool) : State × Nat × List Byte :=
  let s := s.svcFetch q
  let d := s.desc q
  match d.svcKey q with
  | some k =>
    if svcBarred d || d.kind == 1#2 then s.svcDeny q 1
    else
      let x := s.popWords k n
      (if quiet then s else (x.1.flushIfDue k).svcUnload k, stOK, x.2.flatMap entryBytes)
  | none => s.svcDeny q 1

/-- FLUSH (R191): of a bound queue, or recorded in the descriptor of a PARKED one. -/
def State.svcFlush (s : State) (q : Nat) : State × Nat × List Byte :=
  let s := s.svcFetch q
  let d := s.desc q
  if svcBarred d then s.svcDeny q 2
  else
    match d.svcKey q with
    | some k => ((s.flushRequest k).flushIfDue k, stOK, [])
    | none =>
      if d.bound then
        let k := portAtt (if nodeDie d.node.toNat = 0 then 0x100 else nodeRegion d.node.toNat) (d.port.toNat % 32)
        ((s.flushRequest k).flushIfDue k, stOK, [])
      else (s.setDesc q { d with flush := true }, stOK, [])

/-- WEIR (R188). -/
def State.svcWeir (s : State) (q : Nat) (w : BitVec 12) : State × Nat × List Byte :=
  let s := s.svcFetch q
  let d := s.desc q
  if svcBarred d then s.svcDeny q 3 else (s.setDesc q { d with weir := w }, stOK, [])

/-- STATUS: the live descriptor (R172). -/
def State.svcStatus (s : State) (q : Nat) : State × Nat × List Byte :=
  let s := s.svcFetch q
  let d := s.desc q
  if svcBarred d then s.svcDeny q 4 else (s, stOK, d.shown.bytes)

/-- A CONFIG payload holds reserved bits, a reserved value, or a ring out of place (R171, R199). -/
def configBad (l : List Byte) (d : Desc) : Bool :=
  l.take 32 != d.bytes || (d.state != qUnused && d.state != qParked) || d.lead.msb ||
  (d.ringLog2 != 0 && (decide (d.ringLog2.toNat < 4) || decide (28 < d.ringLog2.toNat))) ||
  d.base.extractLsb' 0 6 != 0 ||
  (d.hasRing && (decide (0x1800000000 < d.base.toNat + 64 * d.ringSize) ||
    (decide (d.base.toNat < 0x1800000000) && decide (0x17FE000000 < d.base.toNat + 64 * d.ringSize)))) ||
  (if d.hasRing then decide (d.ringSize < d.ringCount) || decide (d.ringMod ≤ d.rd.toNat) || decide (d.ringMod ≤ d.wr.toNat)
   else d.rd != 0 || d.rdWord != 0 || d.wr != 0)

/-- CONFIG (R199): writes an unbound queue's descriptor, binds or unbinds a service queue. -/
def State.svcConfig (s : State) (q : Nat) (l : List Byte) : State × Nat × List Byte :=
  let s := s.svcFetch q
  let old := s.desc q
  let d := descOf l
  if old.bound && old.kind != 3#2 then s.svcDeny q 5
  else if old.bound && !d.bound then
    -- a bound service queue is unbound; the other fields of the payload are ignored
    let k := svcAtt q
    ((s.setAtt k { s.att k with unbind := .draining, unbindAt := s.cycle }).unbindNext k, stOK, [])
  else if configBad l d then s.svcDeny q 5
  else if old.bound && d.bound then s.svcDeny q 5
  else if d.bound then
    if d.kind != 3#2 || d.state != qParked then s.svcDeny q 5
    else ((s.setDesc q { d.held with bound := false }).bind (svcAtt q) q (quarterNode (q % 4)) 3 0, stOK, [])
  else (s.setDesc q d.held, stOK, [])

/-- The quarter serves operations: always the loader's, others once ENABLE is 1 (Table 8-15). -/
def State.qmServes (s : State) (q : Nat) (loader : Bool) : Bool := loader || s.rbit (qmPage (q % 4)) 0x40 0

/-- The answer of a service operation to the command that made it. -/
def State.svcAnswer (s : State) (q : Nat) (f : State → State × Nat × List Byte) : State :=
  if s.qmServes q false then
    let x := f s
    x.1.reply x.2.1 ((List.range ((x.2.2.length + 3) / 4)).map fun i => bytesWord ((x.2.2.drop (4 * i)).take 4))
  else s.reply stEndpointClosed []

def execSvcPush (q : Fin 1048576) (ws : List SWord) (s : State) : Host.Outcome State Fault Refusal :=
  .next (s.svcAnswer q.val fun s => s.svcPush q.val ws)

def execSvcPop (q : Fin 1048576) (n : Fin 256) (quiet : Bool) (s : State) : Host.Outcome State Fault Refusal :=
  .next (s.svcAnswer q.val fun s => s.svcPop q.val (n.val + 1) quiet)

def execSvcFlush (q : Fin 1048576) (s : State) : Host.Outcome State Fault Refusal :=
  .next (s.svcAnswer q.val fun s => s.svcFlush q.val)

def execSvcWeir (q : Fin 1048576) (w : BitVec 12) (s : State) : Host.Outcome State Fault Refusal :=
  .next (s.svcAnswer q.val fun s => s.svcWeir q.val w)

def execSvcStatus (q : Fin 1048576) (s : State) : Host.Outcome State Fault Refusal :=
  .next (s.svcAnswer q.val fun s => s.svcStatus q.val)

def execSvcConfig (q : Fin 1048576) (payload : List Byte) (s : State) : Host.Outcome State Fault Refusal :=
  .next (s.svcAnswer q.val fun s => s.svcConfig q.val payload)

/-- Operations 6 to 15 are reserved (Table 8-7). -/
def execSvcReservedOp (q : Fin 1048576) (_op : Fin 10) (s : State) : Host.Outcome State Fault Refusal :=
  .next (s.svcAnswer q.val fun s => (s, stMalformed, []))

/-- A write of ENABLE to `QM.CTRL` (Table 8-15). -/
def execQmEnable (quarter : Fin 4) (on : Bool) (s : State) : Host.Outcome State Fault Refusal :=
  .next ((s.setBit (qmPage quarter.val) 0x40 0 on).reply stOK [])

end Sys2Proof.Machine
end

