-- ==== Sys2Proof/Machine/Banks.lean ====
section
/-! DEFINITION. Banks: ports, BE transfers, handover, power, the secure window (R237 to R249); tile memory from BE
(R56, R503); one cycle of a region with its ports (R63, R110, R239). -/

namespace Sys2Proof.Machine

def State.bankEvent (s : State) (b e mid low : Nat) : State :=
  s.raise (bankPage b) e (BitVec.ofNat 32 ((e + 1) * 2 ^ 24 + mid % 256 * 2 ^ 16 + low % 2 ^ 16)) 0

/-- The block of a page is under test (Table 20-6). -/
def State.underTest (s : State) (p : Page) : Bool := s.rbit p 0x0C 5

/-- `BANK.PWR.STATE`: 0 ON, 1 RETAIN, 2 OFF; TRANS (Table 10-8). -/
def State.bankPower (s : State) (b : Nat) : Nat := s.rfld (bankPage b) 0x40 8 2
def State.bankOn (s : State) (b : Nat) : Bool := s.bankPower b == 0 && !s.rbit (bankPage b) 0x40 16
def State.bankPending (s : State) (b : Nat) : Bool := s.rbit (bankPage b) 0x34 31
/-- `BANK.SECURE.MODE` (R248). -/
def State.bankSecure (s : State) (b : Nat) : Bool := s.rbit (bankPage b) 0x48 0

/-! Words and errors (R240). -/

def wordAddr (b i : Nat) : Nat := bankBase b + 8 * i
def State.bankWord (s : State) (b i : Nat) : DWord := s.readDWord (wordAddr b i)

/-- Words `i` to `i + k - 1` of a bank are overwritten: a write-back pending for one is dropped (R240, R258), and a transfer
that ends in an error does not restore it (R243). -/
def State.bankFresh (s : State) (b i k : Nat) : State :=
  let x := s.bank b
  let hit := fun j => decide (i ≤ j ∧ j < i + k)
  s.setBank b { x with wback := tdrop hit x.wback
                       access := x.access.map fun a => { a with old := a.old.filter fun o => !hit o.1 } }

def State.bankStore (s : State) (b i : Nat) (w : DWord) : State := (s.writeDWord (wordAddr b i) w).bankFresh b i 1

/-- What a read's SECDED check finds is counted; a corrected word waits for its write-back (R240). -/
def State.bankCheck (s : State) (b i : Nat) (e : Ecc) : State :=
  match e with
  | .clean => s
  | .corrected =>
    let x := s.bank b
    (s.bumpFld (bankPage b) 0x4C 0 16 1).setBank b { x with wback := tset (fun _ => 0) x.wback i (s.bankWord b i) }
  | .bad => (s.bumpFld (bankPage b) 0x4C 16 16 1).bankEvent b 0 0 (i % 2 ^ 15)

/-- Words of a transfer are read in order, until one has an uncorrectable error: false then (R243). -/
def State.bankChecks (s : State) (b : Nat) : List Nat → State × Bool
  | [] => (s, true)
  | i :: is =>
    let x := s.takeFree
    let t := x.2.bankCheck b i (eccOf x.1)
    if eccOf x.1 == .bad then (t, false) else t.bankChecks b is

/-! The bank port (R239). -/

/-- A region command occupies the bank in the present region cycle (R241). -/
def State.bankUse (s : State) (b : Nat) : State :=
  s.setBank b { s.bank b with used := (s.region (b / 6)).cyc + 1 }

/-- The owning region's commands are served: owner REGION, no handover, ON (R239, R244, R247). -/
def State.portServes (s : State) (b : Nat) : Bool :=
  s.bankKind b == 1 && !s.bankPending b && s.bankOn b && !(s.bank b).wiping

/-- A command that is ignored is counted (R239, R244, R247). -/
def State.portIgnore (s : State) (b : Nat) : State := s.bump (bankPage b) 0x54

/-- A READ command on the port (R239, R240). -/
def State.portRead (s : State) (b i : Nat) (e : Ecc) : State :=
  if s.portServes b then
    let w := s.bankWord b i
    let s := (s.bankUse b).bankCheck b i e
    let x := s.bank b
    let n := pageNode (bankPage b)
    let r : BankRead := match e with
      | .bad => ⟨(s.region (b / 6)).cyc, poisonWord 2 n 0, poisonWord 2 n 0⟩
      | _ => ⟨(s.region (b / 6)).cyc, mkWord 0 (w.extractLsb' 0 32), mkWord 0 (w.extractLsb' 32 32)⟩
    s.setBank b { x with reads := x.reads ++ [r] }
  else s.portIgnore b

/-- A WRITE command on the port (R239). -/
def State.portWrite (s : State) (b i : Nat) (w : DWord) : State :=
  if s.portServes b then (s.bankUse b).bankStore b i w else s.portIgnore b

/-- Any other word on the command lane (R239): counted, and `BANK_CMD` where the region owns the bank. -/
def State.portBad (s : State) (b : Nat) (w : SWord) : State :=
  if SWord.isIdle w then s
  else if s.portServes b then
    ((s.bankUse b).portIgnore b).bankEvent b 3 (SWord.tag w).toNat (SWord.data w).toNat
  else s.portIgnore b

/-- The word the region selected into the port's command lane (Table 10-2). -/
def State.portCommand (s : State) (b : Nat) (cmd lo hi : SWord) : State :=
  if SWord.isIdle cmd then s
  else if SWord.kind cmd = 0#2 ∧ SWord.arg cmd = 0#3 then s.portRead b ((SWord.data cmd).toNat % 2 ^ 15) .clean
  else if SWord.kind cmd = 0#2 ∧ SWord.arg cmd = 1#3 then
    s.portWrite b ((SWord.data cmd).toNat % 2 ^ 15) (SWord.data hi ++ SWord.data lo)
  else s.portBad b cmd

/-- The tile at a side and position of a region (R110). -/
def edgeTile (side pos : Nat) : Nat :=
  match side with
  | 0 => pos | 1 => 6 * pos + 5 | 2 => 30 + pos | _ => 6 * pos

/-- Key of lane 0 of the boundary lanes of a bank port. -/
def State.portLane (s : State) (b : Nat) : Nat :=
  let w := s.reg (bankPage b) 0x44
  edgeTile (fld w 5 2) (fld w 2 3) * 16 + fld w 5 2 * 4

/-- Read data that appear in region cycle `n`, or IDLE: with cause UNBOUND while no region owns the bank (R239, R244). -/
def State.portPresent (s : State) (b n : Nat) : State × SWord × SWord :=
  let x := s.bank b
  match x.reads with
  | r :: rest => if r.cyc + 3 ≤ n then (s.setBank b { x with reads := rest }, r.lo, r.hi)
    else (s, idleOf (b2n (s.bankKind b != 1)), idleOf (b2n (s.bankKind b != 1)))
  | [] => (s, idleOf (b2n (s.bankKind b != 1)), idleOf (b2n (s.bankKind b != 1)))

/-- One region cycle of a bank port: the command selected in the cycle before, and the lanes of the cycle after. -/
def State.portCycle (s : State) (r : Nat) (fed : Tbl SWord) (k : Nat) : State × Tbl SWord :=
  let b := 6 * r + k
  if s.rbit (bankPage b) 0x44 7 then
    let key := s.portLane b
    let x := s.region r
    let lane := fun i => tget (fun _ => idleWord) x.bound (key + i)
    let s := s.portCommand b (lane 0) (lane 1) (lane 2)
    let p := s.portPresent b (x.cyc + 1)
    (p.1, putWord (putWord fed key p.2.1) (key + 1) p.2.2)
  else (s, fed)

/-! Region cycles with ports (R63, R110). -/

/-- A send port takes the word on its lane (R110). -/
def State.sendCycle (s : State) (r p : Nat) : State :=
  let w := s.reg (rgnPage r) (0x100 + 4 * p)
  if bit w 7 then
    let x := tget (fun _ => idleWord) (s.region r).bound (edgeTile (fld w 5 2) (fld w 2 3) * 16 + fld w 5 2 * 4 + fld w 0 2)
    (s.arriveLocal (portAtt r (16 + p)) x).beSend (portAtt r (16 + p))
  else s

/-- A receive port presents a word for the next region cycle (R110): one taken in this cycle already, or the next. -/
def State.recvCycle (s : State) (r : Nat) (fed : Tbl SWord) (p : Nat) : State × Tbl SWord :=
  let w := s.reg (rgnPage r) (0xC0 + 4 * p)
  if bit w 7 then
    let key := edgeTile (fld w 5 2) (fld w 2 3) * 16 + fld w 5 2 * 4 + fld w 0 2
    let x := s.region r
    let have_ := tget (fun _ => idleWord) x.present p
    if have_ = idleWord then
      let d := s.deliver (portAtt r p) (s.attClosed (portAtt r p))
      (d.1, putWord fed key d.2)
    else (s.setRegion r { x with present := putWord x.present p idleWord }, putWord fed key have_)
  else (s, fed)

/-- A region cycle of an ACTIVE region whose clock no tamper HALT holds (R63, R89, R110, R239, R296). -/
def State.regionCycle (s : State) (r : Fin 128) : State :=
  if s.rgnActive r.val && !s.sec.halt then
    let s := (List.range 16).foldl (fun s p => s.sendCycle r.val p) s
    let a := (List.range 16).foldl (fun (a : State × Tbl SWord) p => a.1.recvCycle r.val a.2 p) (s, [])
    let a := (List.range 6).foldl (fun (a : State × Tbl SWord) k => a.1.portCycle r.val a.2 k) a
    a.1.fabricCycle r a.2
  else s

/-! BE transfers to banks (R238, R241, R243). -/

/-- Words of 64 bits that a transfer touches: the first, and their number. -/
def firstWord (h : Header) : Nat := h.addr.toNat % 2 ^ 40 % 0x40000 / 8
def wordCount (h : Header) : Nat := (h.addr.toNat % 8 + h.bytes.toNat + 7) / 8

/-- The bank of an address in a region node's bank window (Table 1-4). -/
def bankAt (node off : Nat) : Nat := 6 * nodeRegion node + (off - 0x1000000) / 0x40000

/-- The initiators an owner admits (Table 10-1). -/
def ownerAdmits (kind index node port : Nat) : Bool :=
  let debug := node == 0x77 && (port == 0x3E || port == 0x3F)
  match kind with
  | 0 | 1 => true
  | 2 => debug || (node == (if index < 2 then 0x45 else 0x46) && (port == 0x30 + index % 2 || port == 0x38 + index % 2))
  | 3 => debug || node == 0x55 || node == 0x56 || node == 0x65 || node == 0x66
  | 4 => debug || (node == 0x76 && port == 0x30 + index)
  | 5 => (node == 0x44 && port == 0x30) || ((node == 0x45 || node == 0x46) && (port == 0x38 || port == 0x39))
  | _ => false

/-- The initiators that an owner of kind CORE, MILLPOND, DMA or SECURE is: those it admits but the debug master. -/
def ownerIs (kind index node port : Nat) : Bool :=
  decide (2 ≤ kind) && !(node == 0x77 && (port == 0x3E || port == 0x3F)) && ownerAdmits kind index node port

/-- The status with which a bank refuses a request now, if it does (R238, R247, R249, R459). -/
def State.bankRefusal (s : State) (b node port : Nat) : Option Nat :=
  if !s.bankOn b then some stDestAsleep
  else if s.underTest (bankPage b) then some stUnderTest
  else if (s.bank b).wiping || !ownerAdmits (s.bankKind b) (s.bankIndex b) node port then some stDenied
  else none

/-- The status that a request gets which a handover holds if need be, and which is then judged under the new owner
(R244). -/
def State.bankStatus (s : State) (b node port : Nat) : Nat :=
  if !s.bankPending b then (s.bankRefusal b node port).getD stOK
  else if !s.bankOn b then stDestAsleep
  else if s.underTest (bankPage b) then stUnderTest
  else if (s.bank b).wiping || ownerIs (s.bankKind b) (s.bankIndex b) node port then stDenied
  else match (s.bank b).next with
    | some k => if ownerAdmits k.1 k.2 node port then stOK else stDenied
    | none => stDenied

/-- A refused request at a bank: a response, or a discard counted in `BANK.CNT_DENIED` (R238, R247). -/
def State.bankRefuse (s : State) (b : Nat) (h : Header) (st : Nat) : State :=
  let n := pageNode (bankPage b)
  if isNonPosted h then
    let s := s.respond n (responseTo h n st [])
    if st = stDestAsleep ∨ st = stUnderTest then s.bump (rtrPage n) 0x88 else s
  else s.bump (bankPage b) 0x50

/-- A request is judged and admitted, or refused. -/
def State.bankJudge (s : State) (b : Nat) (p : Packet) : State :=
  match s.bankRefusal b p.hdr.srcNode.toNat p.hdr.srcPort.toNat with
  | some st => s.bankRefuse b p.hdr st
  | none => let x := s.bank b; s.setBank b { x with access := x.access ++ [⟨p, 0, [], []⟩] }

/-- A BE request reaches a bank (R238, R244): during a handover the old owner's is denied and others are held. -/
def State.bankArrive (s : State) (b : Nat) (p : Packet) : State :=
  if s.bankPending b && !s.underTest (bankPage b) then
    if ownerIs (s.bankKind b) (s.bankIndex b) p.hdr.srcNode.toNat p.hdr.srcPort.toNat
    then s.bankRefuse b p.hdr stDenied
    else let x := s.bank b; s.setBank b { x with held := x.held ++ [p] }
  else s.bankJudge b p

/-- Bytes of a transfer that lie in its word number `i` (from its first): offset in the word, and count. -/
def wordPart (h : Header) (i : Nat) : Nat × Nat :=
  let lo := if i = 0 then h.addr.toNat % 8 else 0
  let fin := min 8 (h.addr.toNat % 8 + h.bytes.toNat - 8 * i)
  (lo, fin - lo)

/-- The bytes of a 64-bit word. -/
def dwordBytes (w : DWord) : List Byte := natBytes 8 w.toNat

/-- A word with bytes replaced from an offset on. -/
def patchWord (w : DWord) (off : Nat) (bs : List Byte) : DWord :=
  BitVec.ofNat 64 (bytesNat ((dwordBytes w).take off ++ bs ++ (dwordBytes w).drop (off + bs.length)))

/-- One word access of the oldest BE transfer at a bank (R241, R243). `e` is what the check of the word read finds; a
whole word written is not read. (DEDUCED, log entry 18.) -/
def State.bankServe (s : State) (b : Nat) (e : Ecc) : State :=
  let x := s.bank b
  match x.access with
  | [] => s
  | a :: rest =>
    let h := a.pkt.hdr
    let i := firstWord h + a.done
    let pt := wordPart h a.done
    let old := s.bankWord b i
    let read := h.bkind == 3#3
    let check := read || pt.2 != 8
    let s := if check then s.bankCheck b i e else s
    let x := s.bank b
    if check && e == .bad then
      -- no word of a write stands: those written already return to what they held
      let s := s.setBank b { x with access := rest }
      let s := a.old.foldl (fun s o => s.writeDWord (wordAddr b o.1) o.2) s
      if isNonPosted h then s.respond (pageNode (bankPage b)) (responseTo h (pageNode (bankPage b)) stDataError [])
      else s.bump (rtrPage (pageNode (bankPage b))) 0x84
    else
      let sent := if read then 0 else a.done * 8 - (if a.done = 0 then 0 else h.addr.toNat % 8)
      let new := ((flitBytes a.pkt.payload h.bytes.toNat).drop sent).take pt.2
      let s := if read then s else s.bankStore b i (patchWord old pt.1 new)
      let a' := { a with done := a.done + 1, data := if read then a.data ++ ((dwordBytes old).drop pt.1).take pt.2 else a.data
                         old := if read then a.old else (i, old) :: a.old }
      let x := s.bank b
      if wordCount h ≤ a.done + 1 then
        let s := s.setBank b { x with access := rest }
        if isNonPosted h then s.respond (pageNode (bankPage b)) (responseTo h (pageNode (bankPage b)) stOK a'.data) else s
      else s.setBank b { x with access := a' :: rest }

/-- The bank cycle just run is free: no request of the owning region falls in it (R241). A read-modify-write takes it and
the one before, so both are free. -/
def State.bankFree (s : State) (b : Nat) (rmw : Bool) : Bool :=
  s.bankKind b != 1 || !s.rgnActive (b / 6) || decide ((s.bank b).used + 1 + b2n rmw ≤ (s.region (b / 6)).cyc)

/-- The next word access of the oldest BE transfer is a read-modify-write (R243). -/
def State.bankRmw (s : State) (b : Nat) : Bool :=
  match (s.bank b).access with
  | a :: _ => a.pkt.hdr.bkind != 3#3 && (wordPart a.pkt.hdr a.done).2 != 8
  | [] => false

/-- A BE word access takes the free cycle of a region-owned bank (R241). -/
def State.bankTake (s : State) (b : Nat) : State :=
  if s.bankKind b = 1 ∧ s.rgnActive (b / 6) then s.setBank b { s.bank b with used := (s.region (b / 6)).cyc } else s

/-! Handover (R244, R245). -/

/-- A transition starts (R246): TRANS reads 1. (DEDUCED, log entry 18.) -/
def State.bankTransition (s : State) (b req : Nat) : State :=
  let p := bankPage b
  if s.bankPower b = req then s
  else (s.setBit p 0x40 16 true).setBank b { s.bank b with target := some req }

/-- Installs the new owner once every admitted access is complete and no power transition runs (R244, R258); requests held
meanwhile are judged under it. -/
def State.ownerDone (s : State) (b : Nat) : State :=
  let x := s.bank b
  match x.next with
  | some (kind, index) =>
    if x.reads = [] ∧ x.access = [] ∧ !s.rbit (bankPage b) 0x40 16 then
      let s := s.setBank b { x with next := none, held := [] }
      let s := (s.setReg (bankPage b) 0x34 (BitVec.ofNat 32 (kind * 16 + index))).bankEvent b 1 kind 0
      let s := x.held.foldl (fun s p => s.bankJudge b p) s
      -- a power request made meanwhile takes effect now (R258)
      match x.queued with
      | some q => (s.setBank b { s.bank b with queued := none }).bankTransition b q
      | none => s
    else s
  | none => s

/-- A write to OWNER (R244, R245). `loader` tells the loader's own write for a region that its load activates. -/
def State.bankOwnerWrite (s : State) (b : Nat) (w : Word) (loader : Bool) : State × Nat :=
  let kind := fld w 4 4
  let refuse := fun st => (s.bankEvent b 2 kind 0, st)
  if s.underTest (bankPage b) then refuse stUnderTest
  else if s.bankPending b || s.bankSecure b || kind == 5 || (kind == 1 && !loader && !s.rgnActive (b / 6)) || 6 ≤ kind
      || s.rbit (bankPage b) 0x30 0 then refuse stDenied
  else
    ((s.setBit (bankPage b) 0x34 31 true).setBank b { s.bank b with next := some (kind, if kind = 2 ∨ kind = 4 then fld w 0 3 else 0) }, stOK)

/-- A full or golden image is being staged: only the loader reaches banks (R310). -/
def State.fullLoad (s : State) : Bool :=
  s.rbit ⟨.cfg, 0⟩ 0x44 21 && s.loader.hdr != [] && s.loader.hdr.getD 11 0 != 1#8

/-- A write to OWNER that is not the loader's; banks stay with owner NONE while a full image loads (R310).
(DESIGN CHOICE, log entry 57.) -/
def State.bankOwnerReq (s : State) (b : Nat) (w : Word) : State × Nat :=
  if s.fullLoad then (s.bankEvent b 2 (fld w 4 4) 0, stDenied) else s.bankOwnerWrite b w false

/-! Power (R246, R247). -/

/-- A write to `BANK.PWR.REQ` (R246, R248). -/
def State.bankPwrReq (s : State) (b req : Nat) : State × Nat :=
  let p := bankPage b
  if 3 ≤ req ∨ s.rbit p 0x0C 4 then (s, stOK)
  else if s.bankSecure b && req != 0 then (s, stDenied)
  else
    let s := s.setFld p 0x40 0 2 req
    if s.rbit p 0x40 16 || s.bankPending b || s.underTest p then (s.setBank b { s.bank b with queued := some req }, stOK)
    else (s.bankTransition b req, stOK)

/-- Every word of a bank becomes 0 (R246, R249). -/
def State.bankClear (s : State) (b : Nat) : State :=
  (s.clearBytes (bankBase b) 0x40000).setBank b { s.bank b with wback := [] }

/-- A transition ends (R246): the drain is over, the state is in force, a bank that was OFF is cleared; a request that
waited starts its own. -/
def State.bankPwrDone (s : State) (b : Nat) : State :=
  let p := bankPage b
  let x := s.bank b
  match x.target with
  | some t =>
    if x.reads = [] ∧ x.access = [] then
      let s := if s.bankPower b = 2 ∨ t = 2 then s.bankClear b else s
      let s := (s.setFld p 0x40 8 2 t).setBit p 0x40 16 false
      let s := s.setBank b { s.bank b with target := none, queued := none }
      match x.queued with
      | some q => s.bankTransition b q
      | none => s
    else s
  | none =>
    match x.queued with
    | some q => if s.bankPending b || s.underTest p then s else (s.setBank b { x with queued := none }).bankTransition b q
    | none => s

/-! The secure window (R248, R249). -/

/-- A secure-window bank starts a wipe (R249). -/
def State.bankWipe (s : State) (b : Nat) : State :=
  if s.bankSecure b then s.setBank b { s.bank b with wiping := true } else s

/-- A wipe ends (R249), once the accesses admitted before it are complete (R258). -/
def State.bankWiped (s : State) (b : Nat) : State :=
  if (s.bank b).wiping ∧ (s.bank b).access = [] ∧ (s.bank b).reads = [] then
    (((s.bankClear b).setBank b { (s.bankClear b).bank b with wiping := false }).bumpFld (bankPage b) 0x48 16 16 1).bankEvent
      b 4 0 0
  else s

/-- Secure-window banks of the package: banks 0 and 1 of each sail (R19). -/
def secureBanks : List Nat := (List.range 8).flatMap fun i => [96 * i, 96 * i + 1]

/-- Every secure-window bank is wiped (R249). -/
def State.wipeSecure (s : State) : State := secureBanks.foldl (fun s b => s.bankWipe b) s

/-! Tile memory from BE (R56, R503). -/

/-- The tile of a tile-memory access and its quarter at word `i`. -/
def tileOf (h : Header) : Nat := (h.addr.toNat % 2 ^ 40 - 0x2000000) / 0x2000
def tileWord (h : Header) (i : Nat) : Nat := h.addr.toNat / 4 * 4 + 4 * i

/-- One word of the oldest access to a tile, in a region cycle that is free on its quarter (R56). -/
def State.tileServe (s : State) (r : Fin 128) (t : Nat) : State :=
  let x := s.region r.val
  match x.tileAcc.find? (fun a => tileOf a.pkt.hdr == t) with
  | none => s
  | some a =>
    let h := a.pkt.hdr
    let ad := tileWord h a.done
    let q := ad % 0x2000 / 0x800
    -- the region cycle is the present one where commands have begun it, else the one just run
    let used := tget (fun _ => 0) x.qbusy (t * 4 + q)
    if !s.rgnActive r.val || used == x.cyc + 1 || used == x.cyc then s
    else
      let read := h.bkind == 3#3
      let lo := max ad h.addr.toNat
      let fin := min (ad + 4) (h.addr.toNat + h.bytes.toNat)
      let s := if read then s
        else s.writeBytes lo (((flitBytes a.pkt.payload h.bytes.toNat).drop (lo - h.addr.toNat)).take (fin - lo))
      let a' := { a with done := a.done + 1, data := if read then a.data ++ [s.readWord ad] else a.data }
      let ends := decide (h.addr.toNat + h.bytes.toNat ≤ ad + 4)
      let acc := if ends then x.tileAcc.erase a else x.tileAcc.map fun b => if b == a then a' else b
      let s := s.setRegion r.val { x with tileAcc := acc, qbusy := tset (fun _ => 0) x.qbusy (t * 4 + q) x.cyc }
      if ends && isNonPosted h then
        s.respond (regionNode r.val) (responseTo h (regionNode r.val) stOK ((a'.data.flatMap wordBytes).drop (h.addr.toNat % 4) |>.take h.bytes.toNat))
      else s

/-- A word has waited 65,536 region cycles (R56): the access ends there. -/
def State.tileLimit (s : State) (r : Fin 128) (t : Nat) : State :=
  let x := s.region r.val
  match x.tileAcc.find? (fun a => tileOf a.pkt.hdr == t) with
  | none => s
  | some a =>
    let s := s.setRegion r.val { x with tileAcc := x.tileAcc.erase a }
    if isNonPosted a.pkt.hdr then s.respond (regionNode r.val) (responseTo a.pkt.hdr (regionNode r.val) stDenied [])
    else s.bump (rtrPage (regionNode r.val)) 0x84

/-! The commands. -/

def execTileMemBeAccess (r : Fin 128) (t : Fin 36) (s : State) : Host.Outcome State Fault Refusal :=
  .next (s.tileServe r t.val)

def execTileMemWaitLimit (r : Fin 128) (t : Fin 36) (s : State) : Host.Outcome State Fault Refusal :=
  .next (s.tileLimit r t.val)

def execRegionCycle (r : Fin 128) (s : State) : Host.Outcome State Fault Refusal := .next (s.regionCycle r)

/-- Region cycles run until one presents a step, at most `n` (R106). -/
def State.runToStep (s : State) (r : Fin 128) : Nat → State
  | 0 => s
  | n + 1 => if ((s.regionCycle r).region r.val).step then s.regionCycle r else (s.regionCycle r).runToStep r n

/-- In TIME mode the region cycles that are left of K elapse and the sequencer presents a step (R105, R106). -/
def execSeqStepTime (r : Fin 128) (s : State) : Host.Outcome State Fault Refusal :=
  .next (if s.rgnActive r.val && s.seqMode r.val == 1 && !s.sec.halt then s.runToStep r (s.seqK r.val) else s)

def execBankPortRead (b : Fin 768) (i : BitVec 15) (e : Ecc) (s : State) : Host.Outcome State Fault Refusal :=
  .next (s.portRead b.val i.toNat e)

def execBankPortWrite (b : Fin 768) (i : BitVec 15) (w : DWord) (s : State) : Host.Outcome State Fault Refusal :=
  .next (s.portWrite b.val i.toNat w)

def execBankPortBadcmd (b : Fin 768) (w : SWord) (s : State) : Host.Outcome State Fault Refusal :=
  .next (s.portBad b.val w)

/-- The oldest read's data appear on the port's incoming lanes in the present region cycle (R239). -/
def execBankReadPresent (b : Fin 768) (s : State) : Host.Outcome State Fault Refusal :=
  let x := s.bank b.val
  .next (match x.reads with
    | [] => s
    | r :: rest =>
      let g := s.region (b.val / 6)
      let key := s.portLane b.val
      (s.setBank b.val { x with reads := rest }).setRegion (b.val / 6)
        { g with lanes := putWord (putWord g.lanes key r.lo) (key + 1) r.hi })

/-- Corrected words are written back (R240); the contents already hold the corrected value. -/
def execBankWriteback (b : Fin 768) (s : State) : Host.Outcome State Fault Refusal :=
  let x := s.bank b.val
  .next (match x.wback with
    | [] => s
    | (i, w) :: _ => if s.bankFree b.val false then (s.bankTake b.val).bankStore b.val i w else s)

/-- See the log (DEDUCED, log entry 18). -/
def execBankBeAccess (b : Fin 768) (e : Ecc) (s : State) : Host.Outcome State Fault Refusal :=
  .next (if s.bankFree b.val (s.bankRmw b.val) then (s.bankTake b.val).bankServe b.val e else s)

/-- A word access has waited 65,536 bank cycles (R241): the transfer ends there. -/
def execBankBeWaitLimit (b : Fin 768) (s : State) : Host.Outcome State Fault Refusal :=
  let x := s.bank b.val
  .next (match x.access with
    | [] => s
    | a :: rest => (s.setBank b.val { x with access := rest }).bankRefuse b.val a.pkt.hdr stDenied)

def execBankOwnerWrite (b : Fin 768) (w : Word) (s : State) : Host.Outcome State Fault Refusal :=
  let x := s.bankOwnerReq b.val w
  .next (x.1.reply x.2 [])

def execOwnerDone (b : Fin 768) (s : State) : Host.Outcome State Fault Refusal := .next (s.ownerDone b.val)

/-- A request held during a handover for 65,536 bank cycles (R244). -/
def execHeldRequestTimeout (b : Fin 768) (s : State) : Host.Outcome State Fault Refusal :=
  let x := s.bank b.val
  .next (match x.held with
    | [] => s
    | p :: rest => (s.setBank b.val { x with held := rest }).bankRefuse b.val p.hdr stDenied)

def execBankPwrReq (b : Fin 768) (req : BitVec 2) (s : State) : Host.Outcome State Fault Refusal :=
  let x := s.bankPwrReq b.val req.toNat
  .next (x.1.reply x.2 [])

def execBankPwrDone (b : Fin 768) (s : State) : Host.Outcome State Fault Refusal := .next (s.bankPwrDone b.val)

end Sys2Proof.Machine
end

