-- ==== Sys2Proof/Machine/Governor.lean ====
section
/-! DEFINITION. Encoder channels, axes, velocity, the timebase and governor samples (09_governor, R204 to R219). -/

namespace Sys2Proof.Machine

def govPage : Page := ⟨.gov, 0⟩
def encPage : Page := ⟨.enc, 0⟩

/-! Registers of the two pages (Tables 9-7, 9-12). -/

def axOff (a off : Nat) : Nat := off + 0x40 * a
def encOff (c off : Nat) : Nat := off + 0x40 * c

/-- `GOV.AX_CTRL[a]` (Table 9-8): MODE 0 OFF, 1 INC, 2 ABS, 3 INC_ABS. -/
def State.axCtrl (s : State) (a : Nat) : Word := s.reg govPage (axOff a 0x100)
def State.axMode (s : State) (a : Nat) : Nat := fld (s.axCtrl a) 0 2
def State.axDir (s : State) (a : Nat) : Bool := bit (s.axCtrl a) 2
def State.axRefMode (s : State) (a : Nat) : Nat := fld (s.axCtrl a) 4 2
def State.axSrcInc (s : State) (a : Nat) : Nat := fld (s.axCtrl a) 8 3
def State.axSrcAbs (s : State) (a : Nat) : Nat := fld (s.axCtrl a) 12 3
def State.axVwin (s : State) (a : Nat) : Nat := fld (s.axCtrl a) 16 4
def State.axScale (s : State) (a : Nat) : Nat := (s.reg govPage (axOff a 0x104)).toNat
def State.axVmax (s : State) (a : Nat) : Nat := (s.reg govPage (axOff a 0x108)).toNat
/-- AX_REF in 48.16. -/
def State.axRef (s : State) (a : Nat) : BitVec 64 :=
  BitVec.ofNat 64 ((fld (s.reg govPage (axOff a 0x114)) 0 24 * 2 ^ 32 + (s.reg govPage (axOff a 0x110)).toNat) * 256)

/-- `GOV.AX_STAT[a].STATE` (Table 9-3): 0 OFF, 1 WAIT_REF, 2 VALID, 3 INVALID. -/
def State.axState (s : State) (a : Nat) : Nat := s.rfld govPage (axOff a 0x11C) 0 2
def State.setAxState (s : State) (a n : Nat) : State := s.setFld govPage (axOff a 0x11C) 0 2 n
def State.axArmed (s : State) (a : Nat) : Bool := s.rbit govPage (axOff a 0x11C) 2

/-- `ENC.CTRL[c]` (Table 9-13): MODE 0 OFF, 1 ABZ, 2 SSI. -/
def State.encMode (s : State) (c : Nat) : Nat := s.rfld encPage (encOff c 0x100) 0 2
def State.encFilt (s : State) (c : Nat) : Nat := s.rfld encPage (encOff c 0x100) 4 3
def State.latchComp (s : State) (c : Nat) : Nat := s.rfld encPage (encOff c 0x100) 8 8

/-- The published position: 48.16 truncated to 48.8 (R211). -/
def published (p : BitVec 64) : BitVec 56 := p.extractLsb' 8 56

/-- Events of the GOV page (Table 9-11). -/
def State.govEvent (s : State) (e n mid low : Nat) : State :=
  s.raise govPage e (BitVec.ofNat 32 ((e + 1) * 2 ^ 24 + n % 16 * 2 ^ 20 + mid % 16 * 2 ^ 16 + low % 2 ^ 16)) 0

/-- Events of the ENC page (Table 9-15). -/
def State.encEvent (s : State) (e c low : Nat) : State :=
  s.raise encPage e (BitVec.ofNat 32 ((e + 1) * 2 ^ 24 + c * 2 ^ 20 + low)) 0

/-! Axes (R210 to R213). -/

/-- A VALID axis becomes INVALID with a cause (R213). -/
def State.axInvalid (s : State) (a cause : Nat) : State :=
  if s.axState a = 2 then
    ((s.setAxState a 3).setFld govPage (axOff a 0x11C) 8 4 cause).govEvent 2 a cause 0
  else s

/-- The reference takes effect (R212): the position, an empty velocity history, the newest edge, state VALID.
(DEDUCED, log entry 35.) -/
def State.axReference (s : State) (a : Nat) (pos : BitVec 64) (te : Int) : State :=
  let x := s.axis a
  let s := s.setAxis a { x with pos := pos, te := te, pe := pos, hist := [], vel := 0, absPos := pos, bad := 0 }
  ((s.setAxState a 2).setBit govPage (axOff a 0x11C) 2 false).govEvent 1 a (s.axRefMode a) 0

/-- An edge of an axis: the position moves by `d` in 2^−16 counts at time `te` (R211). The velocity history keeps the
last 2^VWIN + 1 edges of one direction (R215). -/
def State.axEdge (s : State) (a : Nat) (d : Int) (te : Int) : State :=
  let x := s.axis a
  let pos := x.pos + BitVec.ofInt 64 d
  let rev := decide (d < 0)
  let old := if s.rbit govPage (axOff a 0x11C) 6 == rev then x.hist else []
  (s.setAxis a { x with pos := pos, te := te, pe := pos
                        hist := ((te, pos) :: old).take (2 ^ s.axVwin a + 1) }).setBit govPage (axOff a 0x11C) 6 rev

/-- Axes in order, 0 to 3. -/
def State.onAxes (s : State) (f : State → Nat → State) : State := (List.range 4).foldl f s

/-- The axis counts channel c: INC or INC_ABS with SRC_INC = c (Table 9-2). -/
def State.axCounts (s : State) (a c : Nat) : Bool := (s.axMode a == 1 || s.axMode a == 3) && s.axSrcInc a == c
/-- The axis reads frames of channel c: ABS or INC_ABS with SRC_ABS = c. -/
def State.axFrames (s : State) (a c : Nat) : Bool := (s.axMode a == 2 || s.axMode a == 3) && s.axSrcAbs a == c

/-- ARM_REF (R212): ignored while VALID, and while OFF, in which state no reference leads to VALID (Table 9-3). -/
def State.axArm (s : State) (a : Nat) : State :=
  if s.axState a = 1 ∨ s.axState a = 3 then
    let s := s.setBit govPage (axOff a 0x11C) 2 true
    if s.axRefMode a = 0 then s.axReference a (s.axRef a) (s.tbDie 0) else s
  else s

/-- Source channels an axis mode needs, in their modes (R210). -/
def State.sourcesOk (s : State) (w : Word) : Bool :=
  let inc := s.encMode (fld w 8 3) == 1
  let abs := s.encMode (fld w 12 3) == 2
  match fld w 0 2 with
  | 1 => inc | 2 => abs | 3 => inc && abs | _ => true

/-- The configuration bits of AX_CTRL: VWIN, SRC_ABS, SRC_INC, REFMODE, DIR, MODE. -/
def axCfgMask : Word := 0x000F7737#32

/-- A write to `GOV.AX_CTRL[a]` (R210, R212, R213). A write whose configuration is refused, or that names a source channel
in the wrong mode, is ignored whole. Another source of frames has no previous value (R211). (DEDUCED, log entry 35.) -/
def State.axCtrlWrite (s : State) (a : Nat) (w : Word) : State :=
  let cfg := w &&& axCfgMask
  let changes := cfg != s.axCtrl a
  if !s.sourcesOk w || (changes && (s.axState a == 2 || 8 < fld w 16 4 || fld w 4 2 == 3)) then s.govEvent 4 a 0 0
  else
    let s := if changes then
        -- SRC_ABS or MODE
        let s := if (cfg ^^^ s.axCtrl a) &&& 0x7003#32 = 0 then s else s.setAxis a { s.axis a with frame := none }
        let s := s.setReg govPage (axOff a 0x100) cfg
        if fld w 0 2 = 0 then (s.setAxState a 0).setBit govPage (axOff a 0x11C) 2 false
        else if s.axState a = 0 then s.setAxState a 1 else s
      else s
    let s := if bit w 30 then s.axInvalid a 5 else s
    if bit w 31 then s.axArm a else s

/-- A write to `GOV.AX_SCALE[a]` (R210). -/
def State.axScaleWrite (s : State) (a : Nat) (w : Word) : State :=
  if w != s.reg govPage (axOff a 0x104) && s.axState a == 2 then s.govEvent 4 a 0 0 else s.setReg govPage (axOff a 0x104) w

/-! Encoder channels (R205 to R209). -/

/-- An accepted count of ±1 on channel c with its timestamp (R205, R211). -/
def State.encCount (s : State) (c : Nat) (d : Int) (te : Int) : State :=
  let s := s.setReg encPage (encOff c 0x10C) (s.reg encPage (encOff c 0x10C) + BitVec.ofInt 32 d)
  let s := s.setBit encPage (encOff c 0x114) 2 (decide (d < 0))
  s.onAxes fun s a =>
    if s.axCounts a c then s.axEdge a ((if s.axDir a then -d else d) * s.axScale a) te else s

/-- A and B change within one accepted sample (R206, R213). -/
def State.quadError (s : State) (c : Nat) : State :=
  let s := (s.bumpFld encPage (encOff c 0x118) 0 16 1).encEvent 0 c 0
  s.onAxes fun s a => if s.axCounts a c then s.axInvalid a 1 else s

/-- A rising accepted level on Z (R207, R212). -/
def State.zLatch (s : State) (c : Nat) (te : Int) : State :=
  let s := s.setReg encPage (encOff c 0x110) (s.reg encPage (encOff c 0x10C))
  let s := s.setBit encPage (encOff c 0x114) 1 true
  s.onAxes fun s a =>
    if s.axArmed a && s.axRefMode a == 1 && s.axSrcInc a == c && s.axMode a != 0 then s.axReference a (s.axRef a) te else s

/-- Accepted levels of a channel's inputs at the present sample (R205 to R207). A count in the same sample as a Z level
comes before the latch. -/
def State.encAccept (s : State) (c : Nat) (a b z : Bool) : State :=
  let x := s.enc c
  let s := s.setEnc c { x with a := a, b := b, z := z }
  if s.encMode c = 1 then
    let te := s.tbDie 0 - ((s.encFilt c + 1) * 20 : Nat) - 10 - (8 * s.latchComp c : Nat)
    let s := if a != x.a && b != x.b then s.quadError c
      else if a != x.a then s.encCount c (if a != b then 1 else -1) te
      else if b != x.b then s.encCount c (if b == a then 1 else -1) te
      else s
    if z && !x.z then s.zLatch c te else s
  else s

/-- Inputs a channel mode uses: bits A, B, Z (Table 9-1). -/
def modeInputs (mode : Nat) : BitVec 3 := if mode = 1 then 7 else if mode = 2 then 1 else 0

/-- `ENC.STAT[c].LINE_OK` (R209). -/
def State.lineOk (s : State) (c : Nat) : Bool := (s.enc c).fault &&& modeInputs (s.encMode c) == 0

/-- Faulty pairs come to be inputs that the channel uses (R209, R213). -/
def State.lineRaise (s : State) (c : Nat) (fresh : BitVec 3) : State :=
  if fresh = 0 then s
  else
    (s.encEvent 2 c ((s.enc c).fault &&& modeInputs (s.encMode c)).toNat).onAxes fun s a =>
      if s.axCounts a c || s.axFrames a c then s.axInvalid a 2 else s

/-- Open or shorted pairs are detected (R209, R213). -/
def State.lineFault (s : State) (c : Nat) (m : BitVec 3) : State :=
  let x := s.enc c
  (s.setEnc c { x with fault := x.fault ||| m }).lineRaise c (m &&& ~~~x.fault &&& modeInputs (s.encMode c))

/-- A channel takes another MODE or SSI format: a frame under way ends, axes that read its frames have no previous value
(R211), and faulty pairs that the mode comes to use are reported (R209). (DEDUCED, log entry 36.) -/
def State.encChanged (s : State) (c oldMode : Nat) : State :=
  let s := s.setEnc c { s.enc c with frameAt := none }
  let s := s.onAxes fun s a => if s.axSrcAbs a = c then s.setAxis a { s.axis a with frame := none } else s
  s.lineRaise c ((s.enc c).fault &&& modeInputs (s.encMode c) &&& ~~~modeInputs oldMode)

/-- Pairs are sound again (R209). -/
def State.lineReturn (s : State) (c : Nat) (m : BitVec 3) : State :=
  let x := s.enc c
  s.setEnc c { x with fault := x.fault &&& ~~~m }

/-- `ENC.SSI[c]` fields (Table 9-14). -/
def State.ssiBits (s : State) (c : Nat) : Nat := s.rfld encPage (encOff c 0x104) 0 6
def State.ssiGray (s : State) (c : Nat) : Bool := s.rbit encPage (encOff c 0x104) 6
def State.ssiParity (s : State) (c : Nat) : Bool := s.rbit encPage (encOff c 0x104) 7

/-- A frame is discarded (R208); three in a row make an axis invalid (R213). (DEDUCED, log entry 35.) -/
def State.ssiError (s : State) (c : Nat) (low : Bool) : State :=
  let s := (s.bumpFld encPage (encOff c 0x118) 16 16 1).setBit encPage (encOff c 0x114) 3 false
  (s.encEvent 1 c (b2n low)).onAxes fun s a =>
    if s.axFrames a c then
      let x := s.axis a
      let s := s.setAxis a { x with bad := x.bad + 1 }
      if 3 ≤ x.bad + 1 then s.axInvalid a 3 else s
    else s

/-- POLL and RECOVER of a channel, and half a period of its SSI clock, in 1/8 ns (R208, Tables 9-12, 9-14). -/
def State.ssiPoll (s : State) (c : Nat) : Int := s.rfld encPage (encOff c 0x108) 0 16 * 8000
def State.ssiRecover (s : State) (c : Nat) : Int := s.rfld encPage (encOff c 0x108) 16 8 * 8000
def State.ssiHalf (s : State) (c : Nat) : Int := (s.rfld encPage (encOff c 0x104) 8 12 + 1) * 20
/-- Clock pulses of a frame. -/
def State.ssiPulses (s : State) (c : Nat) : Nat := s.ssiBits c + b2n (s.ssiParity c)

/-- The level of ENCc_CK (R204, R208): high but for the low halves of a frame's pulses. -/
def State.encCk (s : State) (c : Nat) : Bool :=
  match (s.enc c).frameAt with
  | some t =>
    let k := (s.tbDie 0 - t) / s.ssiHalf c
    s.encMode c != 2 || decide (k < 0) || decide (2 * s.ssiPulses c ≤ k) || k % 2 == 1
  | none => true

/-- A frame starts on the timebase microsecond, POLL after the one before and RECOVER after its end; the data input must be
high (R208). (DEDUCED, log entry 36.) -/
def State.ssiStart (s : State) (c : Nat) : State :=
  let x := s.enc c
  let t := s.tbDie 0 / 8000 * 8000
  if s.encMode c = 2 ∧ x.frameAt = none ∧ x.nextAt ≤ t then
    let x := { x with nextAt := t + s.ssiPoll c }
    if x.a then s.setEnc c { x with frameAt := some t } else (s.setEnc c x).ssiError c true
  else s

/-- Binary value of an n-bit Gray code (R208). -/
def grayToBin (n : Nat) (v : Nat) : Nat := (List.range n).foldl (fun acc i => acc ^^^ (v / 2 ^ i)) 0

/-- The signed difference of two frame values modulo 2^n (R211). -/
def frameDiff (n a b : Nat) : Int :=
  let d := (a + 2 ^ n - b % 2 ^ n) % 2 ^ n
  if 2 * d < 2 ^ n then d else (d : Int) - 2 ^ n

/-- A good frame reaches an axis (R211 to R213). (DEDUCED, log entry 36.) -/
def State.axFrame (s : State) (a c value : Nat) (te : Int) : State :=
  let x := s.axis a
  let sc := s.axScale a
  let n := s.ssiBits c
  if s.axArmed a && s.axRefMode a == 2 && s.axSrcAbs a == c && s.axMode a != 0 then
    let s := s.setAxis a { x with frame := some (BitVec.ofNat 48 value) }
    s.axReference a (s.axRef a + BitVec.ofNat 64 (sc * value)) te
  else if s.axFrames a c then
    let diff := match x.frame with
      | some f => frameDiff n value f.toNat
      | none => 0
    let s := s.setAxis a { x with frame := some (BitVec.ofNat 48 value), bad := 0
                                  absPos := x.absPos + BitVec.ofInt 64 (diff * sc) }
    if s.axMode a = 2 then (if diff = 0 then s else s.axEdge a (diff * sc) te)
    else
      let y := s.axis a
      let off := (y.absPos - y.pos).toInt.natAbs
      if s.axState a = 2 ∧ s.rfld govPage (axOff a 0x118) 0 16 * 2 ^ 16 < off then
        (s.govEvent 3 a 0 (min (off / 2 ^ 16) 0xFFFF)).axInvalid a 4
      else s
  else s

/-- A frame completes: parity, Gray conversion, the value (R208). `raw` are the BITS data bits as read, `par` the parity
bit. -/
def State.ssiEnd (s : State) (c : Nat) (raw : BitVec 48) (par : Bool) : State :=
  match (s.enc c).frameAt with
  | none => s
  | some t =>
    let idle := t + 2 * s.ssiPulses c * s.ssiHalf c + s.ssiRecover c
    let s := s.setEnc c { s.enc c with frameAt := none, nextAt := max (s.enc c).nextAt ((idle + 7999) / 8000 * 8000) }
    let n := s.ssiBits c
    let v := raw.toNat % 2 ^ n
    let ones := ((List.range n).filter fun i => v / 2 ^ i % 2 == 1).length + b2n par
    if s.ssiParity c && ones % 2 == 1 then s.ssiError c false
    else
      let value := if s.ssiGray c then grayToBin n v % 2 ^ n else v
      let s := s.setReg encPage (encOff c 0x10C) (BitVec.ofNat 32 value)
      let s := (s.setFld encPage (encOff c 0x114) 16 16 (value / 2 ^ 32)).setBit encPage (encOff c 0x114) 3 true
      s.onAxes fun s a => s.axFrame a c value (t - (8 * s.latchComp c : Nat))

/-! Velocity, overspeed, samples (R215, R218, R219). -/

/-- V before its decay, from the edge history: 2^−24 counts/µs, truncated. Two edges with one timestamp give no stated
quotient: a free value stands for it. (DEDUCED, log entry 33.) -/
def edgeVelocity (hist : List (Int × BitVec 64)) (free : Word) : Int :=
  match hist with
  | e :: f :: rest =>
    let o := (f :: rest).getLast?.getD f
    let dt := e.1 - o.1
    if dt ≤ 0 then free.toInt else ((e.2 - o.2).toInt * 2048000).tdiv dt
  | _ => 0

/-- Size of the newest edge in 2^−16 counts (R215). -/
def edgeStep (hist : List (Int × BitVec 64)) (scale : Nat) : Nat :=
  match hist with
  | e :: f :: _ => (e.2 - f.2).toInt.natAbs
  | _ => scale

/-- The free value a velocity uses, when two edges of the history carry one timestamp.
(DESIGN CHOICE, log entry 34.) -/
def needsFree (hist : List (Int × BitVec 64)) : Bool :=
  match hist with
  | e :: f :: rest => decide (e.1 ≤ ((f :: rest).getLast?.getD f).1)
  | _ => false

/-- Velocity of a VALID axis at time `now` in 1/8 ns, and whether it is STILL (R215). -/
def velocityOf (x : Axis) (scale still : Nat) (now : Int) (free : Word) : Int × Bool :=
  let v := edgeVelocity x.hist free
  let age := now - x.te
  if (still * 8000 : Nat) ≤ age then (0, true)
  else
    let bound := ((edgeStep x.hist scale : Int) * 2048000).tdiv age
    (if age ≤ 0 then v else if v < 0 then -(min (-v) bound) else min v bound, false)

/-- One axis is sampled: velocity, STILL, and overspeed with its hysteresis (R215, R219).
(DESIGN CHOICE, log entry 34.) -/
def State.sampleAxis (s : State) (a : Nat) (now : Int) : State :=
  if s.axState a = 2 then
    let x := s.axis a
    let f := if needsFree x.hist then s.takeFree else (0, s)
    let s := f.2
    let v := velocityOf x (s.axScale a) (s.rfld govPage (axOff a 0x10C) 0 24) now f.1
    let s := (s.setAxis a { x with vel := v.1 }).setBit govPage (axOff a 0x11C) 5 v.2
    let vm := s.axVmax a
    let was := s.rbit govPage (axOff a 0x11C) 4
    if vm = 0 then s.setBit govPage (axOff a 0x11C) 4 false
    else if vm < v.1.natAbs then
      if was then s
      else ((s.setBit govPage (axOff a 0x11C) 4 true).bump govPage (axOff a 0x134)).govEvent 0 a 0
        (fld (BitVec.ofInt 32 v.1) 16 16)
    else if v.1.natAbs ≤ vm - vm / 32 then s.setBit govPage (axOff a 0x11C) 4 false
    else s
  else s

/-- What a sample says of an axis (R218). -/
def State.axSample (s : State) (a : Nat) : AxSample :=
  let x := s.axis a
  { pos := published x.pos, te := x.te, pe := published x.pe, vel := x.vel, state := BitVec.ofNat 2 (s.axState a)
    still := s.rbit govPage (axOff a 0x11C) 5, overspeed := s.rbit govPage (axOff a 0x11C) 4 }

/-- The governor takes a sample of every axis at a multiple of 10 ns and sends it (R218): to the cap's own consumers, and
to the sails in the service words of the links (R267). -/
def State.govSample (s : State) : State :=
  let t := s.tbNs / 10 * 10
  let s := s.onAxes fun s a => s.sampleAxis a (8 * t : Nat)
  let g : GovSample := ⟨t, #v[s.axSample 0, s.axSample 1, s.axSample 2, s.axSample 3]⟩
  { s with samples := tset (fun _ => []) s.samples 0 (tget (fun _ => []) s.samples 0 ++ [g]) }

/-! The timebase (R216, R217). -/

/-- RATE, signed. -/
def State.tbRate (s : State) : Int := (s.reg govPage 0x48).toInt

/-- The timebase advances by one network cycle of the cap (R216, R217). (DEDUCED, log entry 33.) -/
def State.tbAdvance (s : State) : State :=
  let d := if s.tbSlew < 0 then -(min (-s.tbSlew) (2 ^ 28)) else min s.tbSlew (2 ^ 28)
  { s with tb := (((s.tb : Int) + 625 * (2 ^ 32 + s.tbRate) + d).toNat) % (2 ^ 64 * tbUnit), tbSlew := s.tbSlew - d }

/-- `GOV.TB_RATE`, clamped to ±2,147,484 (R217). -/
def State.tbRateWrite (s : State) (w : Word) : State :=
  s.setReg govPage 0x48 (BitVec.ofInt 32 (max (-2147484) (min 2147484 w.toInt)))

/-- `GOV.TB_ADJ`: a signed offset of at most 2^30 ns (R217). -/
def State.tbAdjWrite (s : State) (w : Word) : State :=
  { s with tbSlew := max (-2 ^ 30) (min (2 ^ 30) w.toInt) * tbUnit }

/-- What TB_ADJ reads: the part not yet applied, in ns. -/
def State.tbAdjRead (s : State) : Word := BitVec.ofInt 32 (s.tbSlew.tdiv tbUnit)

/-- A line trigger is enabled (Table 9-10). -/
def State.ltEnabled (s : State) (t : Nat) : Bool := s.rbit govPage (0x200 + 0x20 * t) 0

/-- A write to TB_SET bits 63:32 (R217): the step, or a refusal. -/
def State.tbSet (s : State) (hi : Word) : State × Nat :=
  if (List.range 4).any (fun a => s.axState a == 2) || (List.range 8).any s.ltEnabled then
    (s.govEvent 5 0 0 0, stDenied)
  else ({ s with tb := (hi.toNat * 2 ^ 32 + (s.reg govPage 0x50).toNat) * tbUnit }, stOK)

/-- A read of TB_LO latches TB_HI, unless it is QUIET (R233, R468). -/
def State.tbLoRead (s : State) (quiet : Bool) : State × Word :=
  let t := s.tbNs
  (if quiet then s else s.setReg govPage 0x44 (BitVec.ofNat 32 (t / 2 ^ 32)), BitVec.ofNat 32 t)

/-- A read of AX_POS bits 31:0 latches the high bits, AX_VEL and AX_EDGE, unless it is QUIET (Table 9-7, R468). -/
def State.axPosRead (s : State) (a : Nat) (quiet : Bool) : State × Word :=
  let x := s.axis a
  let p := published x.pos
  let e := BitVec.ofInt 64 (x.te / 8)
  (if quiet then s
   else (((s.setReg govPage (axOff a 0x124) (p.extractLsb' 32 24 |>.setWidth 32)).setReg govPage (axOff a 0x128)
      (BitVec.ofInt 32 x.vel)).setReg govPage (axOff a 0x12C) (e.extractLsb' 0 32)).setReg govPage (axOff a 0x130)
      (e.extractLsb' 32 32),
   p.extractLsb' 0 32)

/-! The commands. -/

def execEncLevelAccept (c : Fin 8) (a b z : Bool) (s : State) : Host.Outcome State Fault Refusal :=
  .next (s.encAccept c.val a b z)

def execLineFault (c : Fin 8) (m : BitVec 3) (s : State) : Host.Outcome State Fault Refusal := .next (s.lineFault c.val m)

def execLineOkReturn (c : Fin 8) (m : BitVec 3) (s : State) : Host.Outcome State Fault Refusal :=
  .next (s.lineReturn c.val m)

def execSsiFrameStart (c : Fin 8) (s : State) : Host.Outcome State Fault Refusal := .next (s.ssiStart c.val)

def execSsiFrameEnd (c : Fin 8) (raw : BitVec 48) (par : Bool) (s : State) : Host.Outcome State Fault Refusal :=
  .next (s.ssiEnd c.val raw par)

def execAxCtrlWrite (a : Fin 4) (w : Word) (s : State) : Host.Outcome State Fault Refusal :=
  .next ((s.axCtrlWrite a.val w).reply stOK [])

/-- A write of ARM_REF with the configuration unchanged (R212). -/
def execArmRef (a : Fin 4) (s : State) : Host.Outcome State Fault Refusal :=
  .next ((s.axCtrlWrite a.val (s.axCtrl a.val ||| 0x80000000#32)).reply stOK [])

/-- A write of INVALIDATE with the configuration unchanged (R213). -/
def execInvalidate (a : Fin 4) (s : State) : Host.Outcome State Fault Refusal :=
  .next ((s.axCtrlWrite a.val (s.axCtrl a.val ||| 0x40000000#32)).reply stOK [])

def execTbRateWrite (w : Word) (s : State) : Host.Outcome State Fault Refusal := .next ((s.tbRateWrite w).reply stOK [])

def execTbAdjWrite (w : Word) (s : State) : Host.Outcome State Fault Refusal := .next ((s.tbAdjWrite w).reply stOK [])

def execTbSet (hi : Word) (s : State) : Host.Outcome State Fault Refusal :=
  let x := s.tbSet hi
  .next (x.1.reply x.2 [])

def execTbLoRead (s : State) : Host.Outcome State Fault Refusal :=
  let x := s.tbLoRead false
  .next (x.1.reply stOK [x.2])

/-- The offset written to TB_ADJ has been slewed out (R217): the timebase has gone on for the network cycles that the
remainder takes at 100 ppm, and holds it. It does not run backwards (R216). (DESIGN CHOICE, log entry 8.) -/
def execTbSlewDone (s : State) : Host.Outcome State Fault Refusal :=
  let cycles : Int := (s.tbSlew.natAbs + 2 ^ 28 - 1) / 2 ^ 28
  .next { s with tb := (((s.tb : Int) + cycles * (625 * (2 ^ 32 + s.tbRate)) + s.tbSlew).toNat) % (2 ^ 64 * tbUnit), tbSlew := 0 }

def execAxPosRead (a : Fin 4) (s : State) : Host.Outcome State Fault Refusal :=
  let x := s.axPosRead a.val false
  .next (x.1.reply stOK [x.2])

end Sys2Proof.Machine
end

