-- ==== Sys2Proof/Machine/Links.lean ====
section
/-! DEFINITION. The Filvar links: frames, training, retries, RETRAIN and DOWN (11_filvar_links), the alignment of the
dies (R147, R148, R216) and the isolation of sails (R14, R274, R337). -/

namespace Sys2Proof.Machine

def hlthPage : Page := ⟨.hlth, 0⟩
def pkgPage (d : Nat) : Page := ⟨.pkg, d⟩

/-- Link states (Table 11-8). -/
def lkReset : Nat := 0
def lkTraining : Nat := 1
def lkUp : Nat := 2
def lkDegraded : Nat := 3
def lkRetrain : Nat := 4
def lkDown : Nat := 5

/-- Both ends of a link in turn. (DEDUCED, log entry 42.) -/
def State.bothEnds (s : State) (l : Nat) (f : State → Nat → State) : State :=
  f (f s (linkDies l).1) (linkDies l).2

/-- `FVL.STAT.STATE` of an end, and of the link: that of its first end (R273). -/
def State.endState (s : State) (l d : Nat) : Nat := s.rfld (fvlPage l d) 0x48 0 3
def State.linkState (s : State) (l : Nat) : Nat := s.endState l (linkDies l).1
def State.setLinkState (s : State) (l n : Nat) : State := s.bothEnds l fun s d => s.setFld (fvlPage l d) 0x48 0 3 n

/-- The link carries flits. -/
def State.endLive (s : State) (l d : Nat) : Bool := s.endState l d == lkUp || s.endState l d == lkDegraded

/-- Events of an FVL page (Table 11-15). -/
def State.fvlEvent (s : State) (l d e hi mid low : Nat) : State :=
  s.raise (fvlPage l d) e (BitVec.ofNat 32 ((e + 1) * 2 ^ 24 + hi % 16 * 2 ^ 20 + mid % 16 * 2 ^ 16 + low % 2 ^ 16)) 0

/-- Bits in 8 network cycles of a link of `u` x32 groups at rate code r, and the GS capacity C_w (R263, R272). -/
def capacityOf (u r : Nat) : Nat :=
  let f := 8 + 8 * r
  if u = 0 ∨ r = 0 then 0 else min 32 ((32 * u * f * 70 / 16 - 1536) / 348)

/-- The four crossing ports at an end: `COG.XING[p]` (Table 7-11). -/
def State.onEdges (s : State) (l d : Nat) (f : State → Nat → Nat → State) : State :=
  (List.range 4).foldl (fun s e => f s (linkEdge l d e).1 (linkEdge l d e).2) s

def State.setXingDown (s : State) (l : Nat) (down : Bool) : State :=
  s.bothEnds l fun s d => s.onEdges l d fun s n p => s.setBit (cogPage n) (0x60 + 4 * p) 24 down

/-! Leaving UP or DEGRADED (R274, R278). -/

/-- A TAIL flit whose SECDED groups are all uncorrectable (R278). -/
def poisonTail (vc : Nat) : ChanFlit :=
  { be := true, vc := BitVec.ofNat 3 vc, head := false, tail := true, hdr := bareHeader
    flit := ⟨Vector.replicate 8 0, Vector.replicate 4 .bad⟩ }

/-- Frames not delivered are discarded and their flits counted; the receiving end ends every open BE packet (R278). -/
def State.dropFrames (s : State) (l d : Nat) : State :=
  let x := s.linkEnd l d
  let lost := x.wait.length + (x.sent.map (·.slots.length)).sum
  let s := (s.bumpBy (fvlPage l d) 0x6C lost).setLinkEnd l d LinkEnd.reset
  let s := s.setLinkEnd l d { LinkEnd.reset with burst := x.burst }
  (List.range 32).foldl (fun s k =>
    if tget (fun _ => false) x.open_ k then
      let e := linkEdge l d (k / 8)
      s.flitIn e.1 e.2 (poisonTail (k % 8)) .clean 0
    else s) s

/-- A sail's region returns to OFF with its gate CLOSED. -/
def State.regionOff (s : State) (r : Nat) : State :=
  ((s.discardRegion r stOff).setGate (regionNode r) gateClosed).setBit (rtrPage (regionNode r)) 0x48 0 true

/-- A sail is isolated (R14, R274, R337): its USABLE bit clears for good, its network island and link sites return to
reset and its regions are held OFF. (DEDUCED, log entry 43.) -/
def State.isolateSail (s : State) (d : Nat) : State :=
  if s.isIsolated d then s
  else
    let s := { s with isolated := s.isolated ||| BitVec.ofNat 9 (2 ^ d)
                      released := tset (fun _ => 0) s.released d (min 1 (s.releasedTo d)) }
    let s := (s.setBit (pkgPage 0) 0x44 (7 + d) false).setFld ⟨.cfg, 0⟩ (0x60 + 4 * ((d - 1) / 2)) (16 * ((d - 1) % 2)) 16 0
    let s := (dieLinks d).foldl (fun s l =>
      if s.endState l d = lkDown then s else s.setFld (fvlPage l d) 0x48 0 3 lkReset) s
    (List.range 16).foldl (fun s i => s.regionOff (16 * (d - 1) + i)) s

/-- `PKG.FEATURE.CAP_LEVEL` (Table 1-10). -/
def State.capLevel (s : State) : Nat := (s.fuses.level.toList.getD 0 0).toNat

/-- A link has its boot training before it: a step is in progress, or it waits in RESET between dies that are not
isolated. -/
def State.linkPending (s : State) (l : Nat) : Bool :=
  let d := linkDies l
  (s.link l).step != 0 ||
    ((s.linkState l == lkReset || s.linkState l == lkTraining) && !s.isIsolated d.1 && !s.isIsolated d.2)

/-- PKG.DIES and PKG_LEVEL are fixed once no link has its training before it at boot (R27, R275).
(DEDUCED, log entry 42.) -/
def State.trainingEnd (s : State) : State :=
  let t := s.training
  if t.done || (List.range 12).any (fun l => s.linkPending l) then s
  else
    let sails := (List.range 8).filter fun i => t.answered.getLsbD (i + 1)
    let low := sails.foldl (fun m i => min m (tget (fun _ => 0) t.levels (i + 1))) s.capLevel
    let s := ({ s with training := { t with done := true } } : State).setBit ⟨.cfg, 0⟩ 0x44 29 true
    let s := (s.setFld (pkgPage 0) 0x44 0 8 (t.answered.toNat / 2)).setFld (pkgPage 0) 0x44 16 8 (t.strapBad.toNat / 2)
    s.setFld (pkgPage 0) 0x48 8 8 low

/-- A link goes DOWN with a cause (R273, R274, R278). -/
def State.linkDown (s : State) (l cause : Nat) : State :=
  let before := s.linkState l
  if before = lkDown then s
  else
    let s := s.bothEnds l fun s d => s.fvlEvent l d 2 cause before 0
    let s := ((s.setLinkState l lkDown).setXingDown l true).setLink l { s.link l with step := 0 }
    let s := s.bothEnds l fun s d => s.dropFrames l d
    (s.isolateSail (linkDies l).2).trainingEnd

/-- Network cycles in 10 s. -/
def tenSeconds : Nat := 16000000000

/-- A link in UP or DEGRADED enters RETRAIN with a cause; the fourth time within 10 s it goes DOWN (R277, R278). -/
def State.retrainEnter (s : State) (l cause : Nat) : State :=
  if s.linkState l = lkUp ∨ s.linkState l = lkDegraded then
    let recent := (s.link l).entries.filter fun c => decide (s.cycle < c + tenSeconds)
    let s := s.setLink l { step := 1, entries := recent ++ [s.cycle] }
    if 3 ≤ recent.length then s.linkDown l 7
    else
      let s := s.bothEnds l fun s d => (s.bump (fvlPage l d) 0x64).fvlEvent l d 4 cause 0 0
      let s := (s.setLinkState l lkRetrain).setXingDown l true
      s.bothEnds l fun s d => s.dropFrames l d
  else s

/-! Training (R269 to R275). -/

/-- A die whose link sites have left reset (R337): a held or an isolated sail's have not (R12). -/
def State.siteUp (s : State) (d : Nat) : Bool := 2 ≤ s.releasedTo d

/-- A training step goes on when it is the one in progress and both ends' sites are out of reset: a sail that stays in
reset answers no training (R12), and its link overruns its limit. (DEDUCED, log entry 42.) -/
def State.atStep (s : State) (l n : Nat) (f : State → State) : State :=
  if (s.link l).step = n ∧ s.siteUp (linkDies l).1 = true ∧ s.siteUp (linkDies l).2 = true then f s else s

def State.setStep (s : State) (l n : Nat) : State := s.setLink l { s.link l with step := n }

/-- A site is released, or a retrain begins: training starts at step 1 (R273, R277). An end whose site is in reset stays
in RESET (R12); at boot training follows step 1, which reads the manifest (R319). (DEDUCED, log entry 42.) -/
def State.trainStart (s : State) (l : Nat) : State :=
  let d := linkDies l
  if s.linkState l = lkRetrain then s.setStep l 1
  else if (s.link l).step ≠ 0 ∨ !s.grn.scanned.getLsbD 0 then s
  else
    let ends := [d.1, d.2].filter fun d => s.endState l d == lkReset && s.siteUp d
    if ends = [] then s
    else (ends.foldl (fun s d => s.setFld (fvlPage l d) 0x48 0 3 lkTraining) s).setStep l 1

/-- What an exchange of reports leads to (R14, R270, R275): another version, a strap that is not the one of the sail's
position (a first report that was accepted is that strap, so a later one that differs from it is not), or, once the
boot's training has ended, a level below PKG_LEVEL. -/
def State.reportCause (s : State) (l : Nat) (a b : IdReport) : Option Nat :=
  let level := s.rfld (pkgPage 0) 0x48 8 8
  if a.version != 1 || b.version != 1 then some 4
  else if b.strap.toNat != (linkDies l).2 then some 3
  else if s.training.done && a.strap.toNat != (linkDies l).1 then some 3
  else if s.training.done && (b.level.toNat < level || a.level.toNat < level) then some 5
  else none

/-- FV_ID reports of both ends arrive (R14, R270, R275). `a` is the report of the link's first die, `b` of its second. -/
def State.fvId (s : State) (l : Nat) (a b : IdReport) : State :=
  s.atStep l 2 fun s =>
    let sail := (linkDies l).2
    let bad := s.reportCause l a b
    let note := fun (s : State) (d : Nat) (r : IdReport) =>
      (s.setFld (fvlPage l d) 0x40 24 8 r.level.toNat).setFld (fvlPage l d) 0x40 20 4 r.strap.toNat
    let s := note (note s (linkDies l).1 b) sail a
    let t := s.training
    let bits := BitVec.ofNat 9 (2 ^ sail + (if (linkDies l).1 = 0 then 0 else 2 ^ (linkDies l).1))
    let s := { s with training := { t with answered := t.answered ||| bits
                                           levels := tset (fun _ => 0) (tset (fun _ => 0) t.levels sail b.level.toNat)
                                             (linkDies l).1 a.level.toNat } }
    match bad with
    | some 3 =>
      let t := s.training
      let off := if b.strap.toNat != sail then sail else (linkDies l).1
      let s := { s with training := { t with strapBad := t.strapBad ||| BitVec.ofNat 9 (2 ^ off) } }
      let s := if t.done && 0 < off then s.setBit (pkgPage 0) 0x44 (15 + off) true else s
      s.linkDown l 3
    | some c => s.linkDown l c
    | none => s.setStep l 3

/-- The highest rate mainband training may settle at (R269, R277): MAXRATE of both ends, and in a retrain the rate the
last training adopted. -/
def State.rateLimit (s : State) (l : Nat) : Nat :=
  let m := min (s.rfld (fvlPage l (linkDies l).1) 0x44 0 2) (s.rfld (fvlPage l (linkDies l).2) 0x44 0 2)
  let last := s.rfld (fvlPage l (linkDies l).1) 0x48 9 2
  if s.linkState l = lkRetrain ∧ 0 < last then min m last else m

/-- Mainband training settles at a common rate (R269). Rate code 0 is no rate (R262): the step does not end by it. -/
def State.mainband (s : State) (l rate : Nat) : State :=
  if rate = 0 then s else s.atStep l 3 fun s =>
    let r := min rate (s.rateLimit l)
    (s.bothEnds l fun s d => (s.setFld (fvlPage l d) 0x48 9 2 r).setFld (fvlPage l d) 0x48 18 2 0).setStep l 4

def State.setLanes (s : State) (l d : Nat) (x : Lanes) : State :=
  let p := fvlPage l d
  let s := (s.setFld p 0x48 14 2 x.mod0.val).setFld p 0x48 16 2 x.mod1.val
  (s.setReg p 0x54 (x.margin1 ++ x.margin0)).setReg p 0x58 (BitVec.ofNat 32 (x.repair1.toNat * 16 + x.repair0.toNat))

/-- A training's margin enters the ageing history; one below `HLTH.LINK_MIN` raises `MARGIN_LOW` (R425). -/
def State.marginCheck (s : State) (l : Nat) (m : BitVec 16) : State :=
  let t := tget (fun _ => []) s.health.trained l
  let retries := (s.reg (fvlPage l (linkDies l).1) 0x5C).toNat
  let s := { s with health := { s.health with trained := tset (fun _ => []) s.health.trained l ((m.toNat, retries) :: t) } }
  if m.toNat < s.rfld hlthPage 0x54 0 16 then
    s.raise hlthPage 4 (BitVec.ofNat 32 (0x05000000 + l * 2 ^ 16 + m.toNat)) 0
  else s

/-- The smaller margin of an end's modules in use. -/
def worstMargin (x : Lanes) : BitVec 16 :=
  if x.mod0.val = 0 then x.margin1 else if x.mod1.val = 0 then x.margin0
  else if x.margin0.toNat ≤ x.margin1.toNat then x.margin0 else x.margin1

/-- Lane repair ends (R269): each module of each end settles. -/
def State.laneRepair (s : State) (l : Nat) (a b : Lanes) : State :=
  s.atStep l 4 fun s =>
    let s := (s.setLanes l (linkDies l).1 a).setLanes l (linkDies l).2 b
    let m := if (worstMargin a).toNat ≤ (worstMargin b).toNat then (worstMargin a) else (worstMargin b)
    (s.marginCheck l m).setStep l 5

/-- The width an end reports (R271), in groups of x32: 4 is x128. -/
def State.reportOf (s : State) (l d : Nat) : Nat := s.rfld (fvlPage l d) 0x48 14 2 + s.rfld (fvlPage l d) 0x48 16 2

/-- The width reports are exchanged (R271). -/
def State.widthExchange (s : State) (l : Nat) : State :=
  s.atStep l 5 fun s =>
    let mine := s.reportOf l (linkDies l).1
    let theirs := s.reportOf l (linkDies l).2
    let tries := s.rfld (fvlPage l (linkDies l).1) 0x48 18 2
    if mine = theirs ∧ 0 < mine then
      (s.bothEnds l fun s d => s.setFld (fvlPage l d) 0x48 11 3 mine).setStep l 6
    else
      let s := if mine = theirs then s else
        (((s.bump (fvlPage l (linkDies l).1) 0x68).fvlEvent l (linkDies l).1 3 mine theirs tries).bump
          (fvlPage l (linkDies l).2) 0x68).fvlEvent l (linkDies l).2 3 theirs mine tries
      if tries = 3 ∨ min mine theirs = 0 then s.linkDown l 2
      else s.bothEnds l fun s d => (s.setFld (fvlPage l d) 0x48 11 3 (min mine theirs)).setFld (fvlPage l d) 0x48 18 2 (tries + 1)

/-- A retrain at the smaller width ends; the ends report again (R271). -/
def State.widthRetrained (s : State) (l : Nat) (a b : Lanes) : State :=
  s.atStep l 5 fun s => ((s.setLanes l (linkDies l).1 a).setLanes l (linkDies l).2 b).widthExchange l

/-- The delay is measured (R269). -/
def State.echoMeasured (s : State) (l : Nat) (delay : BitVec 16) : State :=
  s.atStep l 6 fun s => (s.bothEnds l fun s d => s.setFld (fvlPage l d) 0x50 0 16 delay.toNat).setStep l 7

/-- Links that align their second die: the cap links, and site B of the corner sails (R147). -/
def alignsOn (l : Nat) : Bool := l < 4 || l == 4 || l == 6 || l == 8 || l == 10

/-- Units of the timebase in one network cycle (R146, R216): 0.625 ns. -/
def cycleUnits : Nat := 78125 * 2 ^ 32

/-- A die loads its counters and timebase copy from the markers received at its end of a link (R147, R216): the round's
number and the timebase at its start, moved on by the measured link delay and by what has passed since the ROUND word's
receipt at cycle `c`. -/
def State.alignDie (s : State) (l d : Nat) (round : Word) (c : Nat) (time : DWord) : State :=
  let x := s.cogs d
  let gone16 := s.rfld (fvlPage l d) 0x50 0 16 + 16 * s.since c
  let len := max 1 x.len
  let s := s.setCogs d { x with cog := gone16 / 16 % len, round := round + BitVec.ofNat 32 (gone16 / 16 / len)
                                began := time.toInt * 8 }
  let copy : Int := time.toInt * tbUnit + (gone16 * cycleUnits / 16 : Nat)
  let s := { s with tbOff := tset (fun _ => 0) s.tbOff d (copy - s.tb) }
  { s with training := { s.training with aligned := s.training.aligned ||| BitVec.ofNat 9 (2 ^ d) } }

/-- Full credits at the crossing outputs of an end (R278). -/
def State.restoreCredits (s : State) (l d : Nat) : State :=
  s.onEdges l d fun s n p =>
    let x := s.router n
    s.setRouter n { x with used := tdrop (fun k => k / 8 == p) x.used }

/-- A link enters UP, or DEGRADED when C_w is below SCHED (R273). -/
def State.linkUp (s : State) (l : Nat) : State :=
  let p := fvlPage l (linkDies l).1
  let width := s.rfld p 0x48 11 3
  let rate := s.rfld p 0x48 9 2
  let cw := capacityOf width rate
  let low := decide (cw < s.rfld p 0x4C 8 6)
  let s := s.setLinkState l (if low then lkDegraded else lkUp)
  let s := s.bothEnds l fun s d =>
    let s := (s.setFld (fvlPage l d) 0x4C 0 6 cw).fvlEvent l d (b2n low) width rate cw
    (s.onEdges l d fun s n p => (s.setBit (cogPage n) (0x60 + 4 * p) 24 false).setFld (cogPage n) (0x60 + 4 * p) 16 8 cw).restoreCredits l d
  (s.setStep l 0).trainingEnd

/-- The die that a link aligns waits for it (R147): its counters were reset. -/
def State.waitsAlign (s : State) (l : Nat) : Bool := alignsOn l && !s.training.aligned.getLsbD (linkDies l).2

/-- The first ROUND, TBLO and TBHI words have arrived in step 7 (R147): a die whose counters were reset takes them, from
the cap or from an edge sail that is aligned itself; one whose counters run is not moved. The link then enters UP or
DEGRADED. Before the words are there nothing happens. (DEDUCED, log entry 42.) -/
def State.markerAlign (s : State) (l : Nat) : State :=
  s.atStep l 7 fun s =>
    let d := linkDies l
    if s.waitsAlign l then
      match (s.linkEnd l d.2).mkRound, (s.linkEnd l d.2).mkTime with
      | some r, some t =>
        if d.1 = 0 ∨ s.training.aligned.getLsbD d.1 = true then (s.alignDie l d.2 r.1 r.2 t).linkUp l else s
      | _, _ => s
    else s.linkUp l

/-! Frames (R264 to R268). -/

/-- The control word of the frame whose send cog is `cog` (Table 11-5); `echo` is the frame echoed while the delay is
measured, its SCOG and SRND as in the frame's bits 13:0. -/
def controlWord (x : DieCogs) (echo : Option (Nat × Nat)) : Option (Nat × Word) :=
  let ns := BitVec.ofInt 64 (x.began / 8)
  match x.cog with
  | 0 => some (1, x.round)
  | 1 => some (2, ns.extractLsb' 0 32)
  | 2 => some (3, ns.extractLsb' 32 32)
  | _ => echo.map fun e => (4, BitVec.ofNat 32 (e.1 % 1024 + e.2 % 16 * 1024))

/-- An input at this end is fenced (R266). -/
def State.endFenced (s : State) (l d : Nat) : Bool :=
  (List.range 4).any fun e => s.rbit (rtrPage (linkEdge l d e).1) 0x50 (linkEdge l d e).2

/-- One credit per edge at most (R266): those that go now, and those that wait. -/
def splitCred : List (Nat × Nat) → List Nat → List (Nat × Nat) × List (Nat × Nat)
  | [], _ => ([], [])
  | c :: cs, seen =>
    if seen.contains c.1 then let r := splitCred cs seen; (r.1, c :: r.2)
    else let r := splitCred cs (c.1 :: seen); (c :: r.1, r.2)

/-- Training steps 6 and 7 use frames (R269): their control words go, and no slots. -/
def State.trainingFrames (s : State) (l : Nat) : Bool :=
  decide (6 ≤ (s.link l).step) && s.siteUp (linkDies l).1 && s.siteUp (linkDies l).2

/-- An end sends its frame of the present network cycle (R264): at most four slots, at most C_w in a window, GS flits
first (R161, R273). (DESIGN CHOICE, log entry 44.) -/
def State.frameSend (s : State) (l d : Nat) : State :=
  let live := s.endLive l d
  if live || s.trainingFrames l then
    let x := s.linkEnd l d
    let c := s.cogs d
    let w := s.windowOf8 d
    let placed := if x.win.2 = w then x.win.1 else 0
    let room := if live then min 4 (s.rfld (fvlPage l d) 0x4C 0 6 - placed) else 0
    let gs := x.wait.filter fun y => !y.flit.be
    let be := x.wait.filter fun y => y.flit.be
    let put := gs.take room ++ be.take (room - gs.length)
    let cr := if live then splitCred x.cred [] else ([], x.cred)
    let sv := match tget (fun _ => []) s.sampleOut d with
      | (i, v, src) :: _ => if src = l ∨ !live then none else some (i, v)
      | [] => none
    let f : Frame := { cog := c.cog, round := c.round, fence := s.endFenced l d, cred := cr.1, slots := put
                       svc0 := sv, svc1 := controlWord c (if (s.link l).step = 6 then some x.echo else none) }
    s.setLinkEnd l d { x with wait := gs.drop room ++ be.drop (room - gs.length), cred := cr.2
                              win := (placed + put.length, w), sent := x.sent ++ [f] }
  else s

/-- The words of a sample (Table 11-4). -/
def sampleWords (rate : Word) (slewing aligned : Bool) (g : GovSample) : List DWord :=
  [BitVec.ofNat 64 g.time, BitVec.ofNat 64 (rate.toNat + b2n slewing * 2 ^ 32 + b2n aligned * 2 ^ 33)] ++
  (g.axes.toList.flatMap fun x =>
    [BitVec.ofNat 64 (x.pos.toNat + x.state.toNat * 2 ^ 56 + b2n x.still * 2 ^ 58 + b2n x.overspeed * 2 ^ 59),
     BitVec.ofInt 64 x.te, (BitVec.ofInt 32 x.vel).setWidth 64]) ++ [0, 0]

/-- An axis of a sample from its words (R267). -/
def axisOfWords (l : List DWord) (a : Nat) : AxSample :=
  let w := l.getD (2 + 3 * a) 0
  { pos := w.extractLsb' 0 56, te := (l.getD (3 + 3 * a) 0).toInt, pe := w.extractLsb' 0 56
    vel := ((l.getD (4 + 3 * a) 0).extractLsb' 0 32).toInt, state := w.extractLsb' 56 2
    still := w.getLsbD 58, overspeed := w.getLsbD 59 }

def sampleOfWords (l : List DWord) : GovSample :=
  ⟨(l.getD 0 0).toNat, #v[axisOfWords l 0, axisOfWords l 1, axisOfWords l 2, axisOfWords l 3]⟩

/-- The time of the newest sample a die has taken in. -/
def State.newestSample (s : State) (d : Nat) : Nat :=
  ((tget (fun _ => []) s.samples d).map (·.time)).foldl max (tget (fun _ => GovSample.reset) s.sampled d).time

/-- A whole sample has arrived over a link (R267, R218): the first copy is taken in and forwarded; one that comes after
its delivery time is dropped and counted. -/
def State.sampleIn (s : State) (l d : Nat) (ws : List DWord) : State :=
  let g := sampleOfWords ws
  if g.time ≤ s.newestSample d then s
  else if ((g.time + 120) * 8 : Int) < s.tbDie d then
    (s.bump (fvlPage l d) 0x70).fvlEvent l d 6 0 0 (g.time / 10)
  else
    { s with samples := tset (fun _ => []) s.samples d (tget (fun _ => []) s.samples d ++ [g])
             sampleOut := tset (fun _ => []) s.sampleOut d
               (tget (fun _ => []) s.sampleOut d ++ ws.mapIdx fun i w => (i, w, l)) }

/-- A sample word arrives (R267). -/
def State.sampleWord (s : State) (l d i : Nat) (w : DWord) : State :=
  let x := s.linkEnd l d
  let ws := if i = 0 then [w] else if x.rx.length = i then x.rx ++ [w] else []
  let s := s.setLinkEnd l d { x with rx := if ws.length = 16 then [] else ws }
  if ws.length = 16 then s.sampleIn l d ws else s

/-- A control word arrives at an end that runs: the markers, round count included, are checked against the die's own round
start and timebase copy (R148, R216, R268). -/
def State.controlIn (s : State) (l d : Nat) (t : Nat) (w : Word) : State :=
  let x := s.cogs d
  match t with
  | 1 =>
    let skew := ((x.round - w).toInt * x.len + x.cog) * 16 - s.rfld (fvlPage l d) 0x50 0 16
    s.onEdges l d fun s n p => s.skewCheck n p skew
  | 2 => s.setLinkEnd l d { s.linkEnd l d with tblo := w }
  | 3 =>
    if alignsOn l && d == (linkDies l).2 then
      -- the die's copy at its round start minus the marker's value, in 0.25 ns
      let diff := x.began / 2 - 4 * (w ++ (s.linkEnd l d).tblo : BitVec 64).toInt
      let s := s.setFld govPage 0x5C (4 * (d - 1)) 4 (BitVec.ofInt 4 (max (-8) (min 7 diff))).toNat
      if 4 < diff.natAbs then (s.setBit govPage 0x58 2 true).govEvent 6 (d - 1) 0 (BitVec.ofInt 16 diff).toNat else s
    else s
  | _ => s

/-- A control word arrives in training (R147, R269): step 7 keeps the first markers. -/
def State.controlTraining (s : State) (l d : Nat) (t : Nat) (w : Word) : State :=
  let x := s.linkEnd l d
  if (s.link l).step ≠ 7 then s
  else match t with
    | 1 => s.setLinkEnd l d { x with mkRound := x.mkRound.orElse fun _ => some (w, s.cycle) }
    | 2 => s.setLinkEnd l d { x with tblo := w }
    | 3 =>
      if x.mkRound.isSome then s.setLinkEnd l d { x with mkTime := x.mkTime.orElse fun _ => some (w ++ x.tblo) } else s
    | _ => s

/-- The round count nearest to a die's own whose low four bits are the SRND received (Table 11-2). -/
def roundNear (own : Word) (srnd : Nat) : Word :=
  own + BitVec.ofInt 32 (((srnd + 16 - own.toNat % 16 + 8) % 16 : Nat) - 8)

/-- A slot reaches the far router (R153, R155, R265): a GS flit waits in the aligner, or is late; a BE flit enters. -/
def State.slotIn (s : State) (l d : Nat) (x : Slot) : State :=
  let e := linkEdge l d x.edge
  let n := e.1
  let p := e.2
  if x.flit.be then
    let y := s.linkEnd l d
    let k := x.edge * 8 + x.flit.vc.toNat
    let s := s.setLinkEnd l d { y with open_ := tset (fun _ => false) y.open_ k (!x.flit.tail) }
    s.flitIn n p x.flit .clean 0
  else
    let c := s.cogs d
    let dx := 22 + 64 * s.rfld (cogPage n) (0x60 + 4 * p) 0 2
    let at_ := (roundNear c.round (x.round.toNat % 16)).toNat * c.len + x.cog + 3 + dx
    if at_ < c.round.toNat * c.len + c.cog then s.xingDrop n p 1
    else s.setAligner n (s.aligner n ++ [⟨p, at_ % c.len, BitVec.ofNat 32 (at_ / c.len), x.flit⟩])

/-- A credit comes back over the link (R266). -/
def State.credIn (s : State) (l d : Nat) (c : Nat × Nat) : State :=
  let e := linkEdge l d c.1
  s.creditIn e.1 e.2 c.2

/-- The oldest frame on its way to die d over link l is received whole (R264 to R268).
(DESIGN CHOICE, log entry 44.) -/
def State.frameRx (s : State) (l d : Nat) : State :=
  let y := s.linkEnd l (farDie l d)
  match y.sent with
  | [] => s
  | f :: rest =>
    let s := s.setLinkEnd l (farDie l d) { y with sent := rest, fails := 0 }
    let s := s.setLinkEnd l d { s.linkEnd l d with echo := (f.cog, f.round.toNat % 16) }
    if s.trainingFrames l then
      match f.svc1 with
      | some (t, w) => s.controlTraining l d t w
      | none => s
    else if !s.endLive l d then s
    else
      let s := f.slots.foldl (fun s x => s.slotIn l d x) s
      let s := f.cred.foldl (fun s c => s.credIn l d c) s
      let s := match f.svc0 with | some (i, w) => s.sampleWord l d i w | none => s
      let s := match f.svc1 with | some (t, w) => s.controlIn l d t w | none => s
      if f.fence then s.linkDown l 6 else s

/-- The aligner releases a flit into the far router in its cog (R153). -/
def State.alignRelease (s : State) (n p : Nat) : State :=
  let x := s.cogs (nodeDie n)
  match (s.aligner n).find? (fun h => h.port == p && h.cog == x.cog && h.round == x.round) with
  | some h => (s.setAligner n ((s.aligner n).erase h)).gsTake n p h.flit
  | none => s

/-- The oldest frame to die d fails its CRC (R276): four retries, then RETRAIN. (DESIGN CHOICE, log entry 44.) -/
def State.crcFail (s : State) (l d : Nat) : State :=
  let e := farDie l d
  let y := s.linkEnd l e
  if y.sent = [] then s
  else
    let s := s.bump (fvlPage l d) 0x60
    if 4 ≤ y.fails then (s.setLinkEnd l e { y with fails := 0 }).retrainEnter l 8
    else
      let span := (s.cogs e).round.toNat / 2 ^ 16
      let n := (if y.burst.2 = span then y.burst.1 else 0) + 1
      let s := (s.setLinkEnd l e { y with fails := y.fails + 1, burst := (n, span) }).bump (fvlPage l e) 0x5C
      if 16 < n then s.fvlEvent l e 5 0 0 n else s

/-- The flit of an on-die channel is the one in the output register that feeds it (R115): it leaves the register. -/
def State.takeChannel (s : State) (n input : Nat) : State :=
  match portXing n input, neighbour n (sideOf input) with
  | none, some m => if input < 4 then s.takeOut m ((input + 2) % 4) else s
  | _, _ => s

/-- A flit is taken at a router input; an input newly fenced takes a crossing link DOWN (R130, R266). -/
def State.flitTaken (s : State) (n input : Nat) (f : ChanFlit) (sb : Ecc) (hpar : BitVec 4) : State :=
  let was := s.rbit (rtrPage n) 0x50 input
  let s := s.flitIn n input f sb hpar
  if !was && s.rbit (rtrPage n) 0x50 input then
    match portXing n input with
    | some l => s.linkDown l 6
    | none => s
  else s

/-! The commands. -/

/-- One of the two dies of a link. -/
def endDie (l : Fin 12) (second : Bool) : Nat := if second then (linkDies l.val).2 else (linkDies l.val).1

/-- See the log (DESIGN CHOICE, log entry 9). -/
def execLinkTrainingStart (l : Fin 12) (s : State) : Host.Outcome State Fault Refusal := .next (s.trainStart l.val)
def execSidebandInitDone (l : Fin 12) (s : State) : Host.Outcome State Fault Refusal :=
  .next (s.atStep l.val 1 fun s => s.setStep l.val 2)
def execFvIdExchange (l : Fin 12) (a b : IdReport) (s : State) : Host.Outcome State Fault Refusal := .next (s.fvId l.val a b)
def execMainbandTrainDone (l : Fin 12) (rate : Fin 4) (s : State) : Host.Outcome State Fault Refusal :=
  .next (s.mainband l.val rate.val)
def execLaneRepairDone (l : Fin 12) (a b : Lanes) (s : State) : Host.Outcome State Fault Refusal :=
  .next (s.laneRepair l.val a b)
def execFvWidthExchange (l : Fin 12) (s : State) : Host.Outcome State Fault Refusal := .next (s.widthExchange l.val)
def execWidthRetrainDone (l : Fin 12) (a b : Lanes) (s : State) : Host.Outcome State Fault Refusal :=
  .next (s.widthRetrained l.val a b)
def execEchoMeasureDone (l : Fin 12) (delay : BitVec 16) (s : State) : Host.Outcome State Fault Refusal :=
  .next (s.echoMeasured l.val delay)
def execMarkerAlign (l : Fin 12) (s : State) : Host.Outcome State Fault Refusal := .next (s.markerAlign l.val)
/-- A training step overruns its limit (R269): the link goes DOWN with cause TRAIN. -/
def execTrainingStepTimeout (l : Fin 12) (s : State) : Host.Outcome State Fault Refusal :=
  .next (if (s.link l.val).step = 0 then s else s.linkDown l.val 1)
def execFilvarFrameRx (l : Fin 12) (second : Bool) (s : State) : Host.Outcome State Fault Refusal :=
  .next (s.frameRx l.val (endDie l second))
def execGsAlignerRelease (n : Fin 144) (p : Fin 4) (s : State) : Host.Outcome State Fault Refusal :=
  .next (s.alignRelease (nodeNum n) p.val)
def execAdapterCrcFail (l : Fin 12) (second : Bool) (s : State) : Host.Outcome State Fault Refusal :=
  .next (s.crcFail l.val (endDie l second))
def execFvlRetrain (l : Fin 12) (s : State) : Host.Outcome State Fault Refusal :=
  .next ((s.retrainEnter l.val 9).reply stOK [])
def execRouterFlitIn (n : Fin 144) (input : Fin 5) (f : ChanFlit) (sb : Ecc) (hpar : BitVec 4) (s : State) :
    Host.Outcome State Fault Refusal :=
  .next ((s.takeChannel (nodeNum n) input.val).flitTaken (nodeNum n) input.val f sb hpar)

end Sys2Proof.Machine
end

