-- ==== Sys2Proof/Machine/Clocks.lean ====
section
/-! DEFINITION. Clock sources, island clocks, telemetry and throttling (R328 to R341, R346, R348). -/

namespace Sys2Proof.Machine

def clkPage (d : Nat) : Page := ⟨.clk, d⟩
def pwrPage (d : Nat) : Page := ⟨.pwr, d⟩
def rstPage (d : Nat) : Page := ⟨.rst, d⟩

def islCtrl (i : Nat) : Nat := 0x100 + 8 * i
def islStat (i : Nat) : Nat := 0x104 + 8 * i

/-- A tamper HALT is in force (R296). -/
def State.halted (s : State) : Bool := s.sec.halt

/-! Island clocks (R328 to R333). -/

/-- Islands of a die (R328). -/
def islandCount (d : Nat) : Nat := if d = 0 then 22 else 18

/-- Throttleable islands (Table 14-1). -/
def throttleable (d i : Nat) : Bool :=
  if d = 0 then i == 2 || i == 3 || i == 4 || i == 5 || i == 14 || i == 18 else decide (i < 16)

/-- Frequency of a source in MHz (Table 14-2). -/
def srcMHz : Nat → Nat
  | 0 | 1 => 100 | 2 => 25 | 4 => 3200 | 5 => 2000 | 6 => 2500 | 7 => 2250 | _ => 0

/-- A divider field: 0 means 64. -/
def divOf (n : Nat) : Nat := if n = 0 then 64 else n

/-- DIV_EFF = min(DIV + THR, DIVMAX) (R332). -/
def divEff (ctrl : Word) (thr : Nat) : Nat := min (divOf (fld ctrl 8 6) + thr) (divOf (fld ctrl 16 6))

/-- A source code names nothing usable: reserved, or an unlocked PLL of the die (R332). (DEDUCED, log entry 65.) -/
def State.srcBad (s : State) (d src : Nat) : Bool :=
  src == 3 || (4 ≤ src && !s.rbit (clkPage d) 0x40 src)

/-- The highest clock in MHz that the carry-chain limit allows for a LONGEST (Table 4-8). -/
def chainMHz (longest : Nat) : Nat := if longest ≤ 2 then 1250 else if longest ≤ 4 then 1000 else 625

/-- The region island of a sail, as a package region number. -/
def islandRegion (d i : Nat) : Nat := 16 * (d - 1) + i

/-- The tests of R332 on a clock select for island i, in order: the first cause that applies, FIXED and BUSY left to the
caller. `longest` is the longest carry chain of the region. -/
def State.clockCause (s : State) (d i : Nat) (w : Word) (longest : Nat) : Option Nat :=
  let src := fld w 0 3
  let div := divOf (fld w 8 6)
  let iosrc := fld w 26 3
  let iodiv := fld w 4 4
  if s.srcBad d src || decide (divOf (fld w 16 6) < div) || (iosrc != 0 || iodiv != 0) then some 2
  else if (if d = 0 then 1000 else 1250) * div < srcMHz src then some 3
  else if d ≠ 0 ∧ i < 16 ∧ chainMHz longest * div < srcMHz src then some 4
  else none

/-- `RGN.CHAIN.LONGEST` (R86). -/
def State.chainLongest (s : State) (r : Nat) : Nat := s.rfld (rgnPage r) 0x50 0 4

/-- Fields of ISL_CTRL that are kept. (DEDUCED, log entry 65.) -/
def islMask : Word := 0x1F3F3FF7#32

/-- A write to `CLK.ISL_CTRL[i]` (R332, R333). S_CTRL itself is fixed; a write that leaves its own clock alone sets its I/O
branch (R329). (DEDUCED, log entry 65.) -/
def State.islWrite (s : State) (d i : Nat) (w : Word) : State × Nat :=
  let p := clkPage d
  let longest := if d ≠ 0 ∧ i < 16 then s.chainLongest (islandRegion d i) else 0
  let cause := if d ≠ 0 ∧ i = 17 ∧ (w ^^^ s.reg p (islCtrl i)) &&& 0x033F3F07#32 = 0 then
      if s.srcBad d (fld w 26 3) || decide (fld w 4 4 < 4) then some 2
      else if 625 * fld w 4 4 < srcMHz (fld w 26 3) then some 3
      else if s.rbit p (islStat i) 31 then some 5 else none
    else if !throttleable d i then some 1
    else match s.clockCause d i w longest with
      | some c => some c
      | none => if s.rbit p (islStat i) 31 then some 5 else none
  match cause with
  | some c => (s.raise p 1 (BitVec.ofNat 32 (0x02000000 + i * 2 ^ 16 + c)) 0, stDenied)
  | none => ((s.setReg p (islCtrl i) (w &&& islMask)).setBit p (islStat i) 31 true, stOK)

/-- The new clock runs (R333). -/
def State.clockSettle (s : State) (d i : Nat) : State :=
  let p := clkPage d
  let c := s.reg p (islCtrl i)
  let t := s.reg p (islStat i)
  s.setReg p (islStat i) (putFld (putFld (putFld t 31 1 0) 8 6 (divEff c (fld t 16 6))) 0 3 (fld c 0 3))

/-- An island's throttle count, with DIV_EFF following (R332, R340). -/
def State.setThr (s : State) (d i thr : Nat) : State :=
  let p := clkPage d
  let t := putFld (s.reg p (islStat i)) 16 6 thr
  s.setReg p (islStat i) (putFld t 8 6 (divEff (s.reg p (islCtrl i)) thr))

/-! Telemetry and throttling (R338 to R341). -/

/-- All-on power of a die in 0.1 W, its stack and link ends included (R338). -/
def allOn (d : Nat) : Nat := if d = 0 then 530 else if d % 2 = 1 then 650 else 370

/-- A die's telemetry message: power in 0.1 W and hottest sensor (R338). -/
def State.telemetry (s : State) (d : Nat) (power : BitVec 16) (temp : BitVec 8) (lost : Bool) : State :=
  let w := BitVec.ofNat 32 (power.toNat + temp.toNat * 2 ^ 16 + b2n lost * 2 ^ 24)
  let s := (s.setReg (pwrPage 0) (0x60 + 4 * d) w)
  let s := if d = 0 then s else s.setReg (pwrPage d) 0x40 w
  let a := tget (fun _ => (0, 0)) s.power.acc d
  let s := { s with power := { s.power with acc := tset (fun _ => (0, 0)) s.power.acc d (a.1 + power.toNat, a.2 + 1) } }
  let temps := (List.range 9).map fun e => (BitVec.ofNat 8 (s.rfld (pwrPage 0) (0x60 + 4 * e) 16 8)).toInt
  s.setFld (pwrPage 0) 0x48 8 8 (BitVec.ofInt 8 (temps.foldl max (-128))).toNat

/-- Package power of the period in 0.1 W: the averages of the dies, and IO_EST (R338). -/
def State.packagePower (s : State) : Nat :=
  ((List.range 9).map fun d =>
    let a := tget (fun _ => (0, 0)) s.power.acc d
    if a.2 = 0 then s.rfld (pwrPage 0) (0x60 + 4 * d) 0 16 else a.1 / a.2).sum + 10 * s.rfld (pwrPage 0) 0x4C 0 8

/-- Islands that take part in throttling, by die and index. -/
def throttleIslands : List (Nat × Nat) :=
  (List.range 9).flatMap fun d => ((List.range (islandCount d)).filter (throttleable d)).map fun i => (d, i)

def State.islClass (s : State) (x : Nat × Nat) : Nat := s.rfld (clkPage x.1) (islCtrl x.2) 24 2
def State.islThr (s : State) (x : Nat × Nat) : Nat := s.rfld (clkPage x.1) (islStat x.2) 16 6

/-- DIV + THR < DIVMAX (R340). -/
def State.canSlow (s : State) (x : Nat × Nat) : Bool :=
  let c := s.reg (clkPage x.1) (islCtrl x.2)
  decide (divOf (fld c 8 6) + s.islThr x < divOf (fld c 16 6))

/-- One step of one class (R340): `up` adds to THR. Returns whether a class took a step. -/
def State.throttleStep (s : State) (up : Bool) : State × Bool :=
  let ok := fun x => if up then s.canSlow x else decide (0 < s.islThr x)
  let l := throttleIslands.filter ok
  match (if up then [0, 1, 2, 3] else [3, 2, 1, 0]).find? (fun c => l.any fun x => s.islClass x == c) with
  | some c => ((l.filter fun x => s.islClass x == c).foldl (fun s x =>
      s.setThr x.1 x.2 (if up then s.islThr x + 1 else s.islThr x - 1)) s, true)
  | none => (s, false)

/-- The end of a control period (R340, R341). -/
def State.controlPeriod (s : State) : State :=
  let p := pwrPage 0
  let pw := s.packagePower
  let set := 10 * s.rfld p 0x40 0 9
  let tj := (BitVec.ofNat 8 (s.rfld p 0x48 8 8)).toInt
  let hot := decide ((s.rfld p 0x48 0 8 : Int) ≤ tj)
  let s := (s.setFld p 0x44 0 16 pw).setBit p 0x44 18 s.halted
  let s := { s with power := { s.power with acc := [] } }
  let s := if hot && !s.rbit p 0x44 17 then
      let die := ((List.range 9).find? fun d => (BitVec.ofNat 8 (s.rfld p (0x60 + 4 * d) 16 8)).toInt == tj).getD 0
      s.raise p 1 (BitVec.ofNat 32 (0x02000000 + die * 2 ^ 16 + (BitVec.ofInt 16 tj).toNat)) 0
    else s
  let s := s.setBit p 0x44 17 hot
  let floorless := throttleIslands.any s.canSlow
  let tooHot := hot || decide (set < pw)
  let x := if s.halted then (s, false) else if tooHot then s.throttleStep true
    else if pw * 100 < set * 95 then ((s.throttleStep false).1, false) else (s, false)
  let s := if x.2 then x.1.bump p 0x58 else x.1
  -- the floor: P above the setpoint and nothing left to throttle
  if set < pw ∧ !x.2 ∧ !floorless then
    let n : Nat := s.power.overrun + 1
    let s := ({ s with power := { s.power with overrun := n } } : State).bump p 0x5C
    if n = 10 then (s.setBit p 0x44 16 true).raise p 0 (BitVec.ofNat 32 (0x01000000 + pw / 10)) 0 else s
  else
    let s := { s with power := { s.power with overrun := 0 } }
    if pw ≤ set then s.setBit p 0x44 16 false else s

/-- A write to `PWR.SETPOINT` (R339). (DEDUCED, log entry 66.) -/
def State.setpointWrite (s : State) (w : Word) : State × Nat :=
  let v := fld w 0 9
  if 100 ≤ v ∧ v ≤ 450 then (s.setReg (pwrPage 0) 0x40 (BitVec.ofNat 32 v), stOK)
  else (s.raise (pwrPage 0) 3 (0x04000000#32) 0, stDenied)

/-! The commands. -/

def execClkIslCtrlWrite (d : Fin 9) (i : Fin 22) (w : Word) (s : State) : Host.Outcome State Fault Refusal :=
  let x := s.islWrite d.val i.val w
  .next (if i.val < islandCount d.val then x.1.reply x.2 [] else s.reply stOK [])

def execClkChangeDone (d : Fin 9) (i : Fin 22) (s : State) : Host.Outcome State Fault Refusal :=
  .next (if s.rbit (clkPage d.val) (islStat i.val) 31 then s.clockSettle d.val i.val else s)

/-- See the log (DESIGN CHOICE, log entry 9). -/
def execTelemetryMsg (d : Fin 9) (power : BitVec 16) (temp : BitVec 8) (s : State) : Host.Outcome State Fault Refusal :=
  .next (s.telemetry d.val power temp false)

/-- A die's telemetry is missing for 100 µs (R338). -/
def execTelemLost (d : Fin 9) (s : State) : Host.Outcome State Fault Refusal :=
  let temp := BitVec.ofNat 8 (s.rfld (pwrPage 0) (0x60 + 4 * d.val) 16 8)
  .next ((s.telemetry d.val (BitVec.ofNat 16 (allOn d.val)) temp true).raise (pwrPage 0) 4
    (BitVec.ofNat 32 (0x05000000 + d.val * 2 ^ 16)) 0)

def execControlPeriod (s : State) : Host.Outcome State Fault Refusal := .next s.controlPeriod

def execPwrSetpointWrite (w : Word) (s : State) : Host.Outcome State Fault Refusal :=
  let x := s.setpointWrite w
  .next (x.1.reply x.2 [])

/-- The REFCLK input goes missing (R330, Table 14-10). (DEDUCED, log entry 64.) -/
def execRefLost (d : Fin 9) (s : State) : Host.Outcome State Fault Refusal :=
  .next ((s.setBit (clkPage d.val) 0x40 0 false).raise (clkPage d.val) 2 0x03000000#32 0)

end Sys2Proof.Machine
end

