-- ==== Sys2Proof/Machine/HbmDma.lean ====
section
/-! DEFINITION. the HBM controllers' requests (R250 to R254, R170), and the DMA engines (R255 to R257). -/

namespace Sys2Proof.Machine

/-! HBM. -/

/-- A training result of a stack: with no failing channel it comes into service at a rate; else it is FAILED, and every
access receives `DEST_ASLEEP` (R252, R253). -/
def State.hbmTrained (s : State) (k rate : Nat) (failing : BitVec 16) : State :=
  let p := hbmPage k
  if failing = 0 then ((s.setFld p 0x40 6 2 rate).setBit p 0x40 0 true).setBit p 0x40 3 false
  else ((s.setBit p 0x40 0 false).setBit p 0x40 3 true).raise p 1 (BitVec.ofNat 32 (0x02000000 + failing.toNat)) 0

/-- The controller serves one request whole (R250, R254). `e` is what the check of its words finds, `ch` the channel of
an error. (DESIGN CHOICE, log entry 41.) -/
def State.hbmServe (s : State) (k : Nat) (pkt : Packet) (e : Ecc) (ch : Nat) : State :=
  let p := hbmPage k
  let h := pkt.hdr
  let node := stackHome k
  let off := h.addr.toNat % 2 ^ 40
  let read := h.bkind == 3#3
  let partly := off % 8 != 0 || h.bytes.toNat % 8 != 0
  if !s.hbmServes k then s.refuseAt node h stDestAsleep
  else if !read && inDescTable off && !isMillpond h.srcNode.toNat then
    if isNonPosted h then s.respond node (responseTo h node stDenied []) else s.bump p 0x50
  else if (read || partly) && e == .bad then
    let s := s.hbmCheck k off e ch
    if isNonPosted h then s.respond node (responseTo h node stDataError []) else s.bump (rtrPage node) 0x84
  else
    let s := if read || partly then s.hbmCheck k off e ch else s
    if read then s.respond node (responseTo h node stOK (s.readBytes (hbmBase + off) h.bytes.toNat))
    else
      let s := s.writeBytes (hbmBase + off) (flitBytes pkt.payload h.bytes.toNat)
      if isNonPosted h then s.respond node (responseTo h node stOK []) else s

/-- The controller takes a request: those at the leat priority first (R254). (DESIGN CHOICE, log entry 41.) -/
def State.hbmRequest (s : State) (k : Nat) (e : Ecc) (ch : Nat) : State :=
  let l := tget (fun _ => []) s.hbmReq k
  match (l.find? (fun p => p.hdr.prio.toNat == s.leatPrio)).orElse (fun _ => l.head?) with
  | some p => { s with hbmReq := tset (fun _ => []) s.hbmReq k (l.erase p) }.hbmServe k p e ch
  | none => s

def execHbmRequest (k : Fin 4) (e : Ecc) (ch : Fin 16) (s : State) : Host.Outcome State Fault Refusal :=
  .next (s.hbmRequest k.val e ch.val)

/-- The stack reports its temperature: at 85 °C or more refresh doubles (R250). -/
def execHotRefresh (k : Fin 4) (t : BitVec 8) (s : State) : Host.Outcome State Fault Refusal :=
  let p := hbmPage k.val
  let s := s.setFld p 0x48 0 8 t.toNat
  .next (if 85 ≤ t.toInt then
      (s.setBit p 0x40 5 true).raise p 2 (BitVec.ofNat 32 (0x03000000 + t.toNat)) 0
    else s)

/-- The temperature falls below 85 °C: doubled refresh ends. -/
def execHotRefreshEnd (k : Fin 4) (t : BitVec 8) (s : State) : Host.Outcome State Fault Refusal :=
  let p := hbmPage k.val
  let s := s.setFld p 0x48 0 8 t.toNat
  .next (if t.toInt < 85 then s.setBit p 0x40 5 false else s)

/-- VCC_HBM drops below 1.00 V during run (R501): the gate is held ASLEEP until the next cap reset.
(DEDUCED, log entry 40; DESIGN CHOICE, log entry 98.) -/
def execHbmVccDrop (k : Fin 4) (s : State) : Host.Outcome State Fault Refusal := .next (s.hbmTrained k.val 0 0xFFFF#16)

/-! DMA. -/

def dmaPage : Page := ⟨.dma, 0⟩
def dmaOff (e off : Nat) : Nat := off + 0x40 * e
def dmaNode : Nat := 0x76

def State.dmaBusy (s : State) (e : Nat) : Bool := s.rbit dmaPage (dmaOff e 0x118) 0
def State.dmaAddr (s : State) (e off : Nat) : Nat :=
  fld (s.reg dmaPage (dmaOff e (off + 4))) 0 16 * 2 ^ 32 + (s.reg dmaPage (dmaOff e off)).toNat

/-- The unit of the node map an address lies in, and the bytes from the address to the unit's end (R255): one bank, one
HBM stack's run, or one other window of Tables 1-4 and 1-5. -/
def unitOf (intlv4k : Bool) (a : Nat) : Nat × Nat :=
  let node := a / 2 ^ 40
  let off := a % 2 ^ 40
  if node = 0xFF then
    if intlv4k then (1000 + stackOf true off, 0x1000 - off % 0x1000) else (1000 + stackOf false off, 0x600000000 - off % 0x600000000)
  else if off < 0x1000000 then (0, 0x1000000 - off)
  else if off < 0x1180000 ∧ isRegionNode node then (10 + (off - 0x1000000) / 0x40000, 0x40000 - off % 0x40000)
  else
    -- the windows of Tables 1-4 and 1-5, then what lies between them
    let ends := if isRegionNode node then [0x1180000, 0x2000000, 0x2048000]
      else if node = 0x47 then [0x1100000, 0x2000000, 0x2800000] else [0x2000000]
    match ends.findIdx? (off < ·) with
    | some i => (i + 1, ends.getD i 0 - off)
    | none => (4, 2 ^ 40 - off)

/-- The segments of a request, at most `fuel` (R255). -/
def segmentsOf (intlv4k : Bool) : Nat → Nat → Nat → Nat → List DmaSeg
  | 0, _, _, _ => []
  | fuel + 1, src, dst, len =>
    if len = 0 then []
    else
      let n := min len (min (unitOf intlv4k src).2 (unitOf intlv4k dst).2)
      ⟨src, dst, n⟩ :: segmentsOf intlv4k fuel (src + n) (dst + n) (len - n)

/-- Bytes of the next transfer of a segment at an offset: at most 2,048, crossing no 4 KiB boundary (R255, R43). -/
def xferLen (g : DmaSeg) (off : Nat) : Nat :=
  min (g.len - off) (min 2048 (min (0x1000 - (g.src + off) % 0x1000) (0x1000 - (g.dst + off) % 0x1000)))

def State.dmaPrio (s : State) (e : Nat) : Nat := s.rfld dmaPage (dmaOff e 0x114) 2 2
def State.dmaNp (s : State) (e : Nat) : Bool := s.rbit dmaPage (dmaOff e 0x114) 1

/-- Issues READs of the next transfers in address order, up to 16 outstanding (R255). -/
def State.dmaIssue (s : State) (e : Nat) : Nat → State
  | 0 => s
  | fuel + 1 =>
    let x := s.dma e
    match x.segs[x.cur]? with
    | none => s
    | some g =>
      if x.stop || decide (16 ≤ x.outs.length) then s
      else
        let n := xferLen g x.off
        let last := decide (g.len ≤ x.off + n)
        let s := s.setDma e { x with outs := x.outs ++ [⟨x.txn, x.cur, false, g.dst + x.off, n⟩]
                                     txn := (x.txn + 1) % 256
                                     cur := if last then x.cur + 1 else x.cur, off := if last then 0 else x.off + n }
        let s := s.setFld dmaPage (dmaOff e 0x118) 1 7 x.cur
        (s.send (requestTo dmaNode (0x30 + e) 3 (s.dmaPrio e) x.txn (g.src + x.off) n [])).dmaIssue e fuel

/-- The engine's end (R256, R257): DONE, the bitmap of segments that succeeded, and `DMA_DONE`.
(DEDUCED, log entry 40.) -/
def State.dmaEnd (s : State) (e : Nat) (status : Nat) : State :=
  let x := s.dma e
  let ok := (List.range (min 64 x.segs.length)).filter fun i => decide (i < x.cur) && !x.failed.contains i
  let map := (ok.map fun i => 2 ^ i).sum
  let f := x.first.getD (0, 0)
  let s := s.setReg dmaPage (dmaOff e 0x11C) (BitVec.ofNat 32 (status + f.1 * 2 ^ 8 + f.2 * 2 ^ 16))
  let s := (s.setReg dmaPage (dmaOff e 0x120) (BitVec.ofNat 32 map)).setReg dmaPage (dmaOff e 0x124) (BitVec.ofNat 32 (map / 2 ^ 32))
  ((s.setDma e Dma.reset).setReg dmaPage (dmaOff e 0x118) 0).raise dmaPage 0 (BitVec.ofNat 32 (0x01000000 + e * 2 ^ 20 + status)) 0

/-- Issues what may be issued and ends the request when nothing is left (R256, R257). -/
def State.dmaNext (s : State) (e : Nat) : State :=
  let s := s.dmaIssue e 16
  let x := s.dma e
  if x.outs = [] ∧ s.dmaBusy e then
    if x.stop then s.dmaEnd e 3
    else if x.segs.length ≤ x.cur then s.dmaEnd e (b2n (x.failed != []))
    else s
  else s

/-- Engines that failed self-test ignore GO (R455), engine 7 also while the loader loads (R310). -/
def State.dmaHeld (s : State) (e : Nat) : Bool := s.rbit ⟨.bist, 0⟩ 0x4C 4 || (e == 7 && s.rbit ⟨.cfg, 0⟩ 0x44 21)

/-- A write of GO (R255, R257). A request whose SRC, DST and LEN break R255 is refused like one of too many segments. -/
def State.dmaGo (s : State) (e : Nat) : State :=
  if s.dmaBusy e || s.dmaHeld e then s.raise dmaPage 1 (BitVec.ofNat 32 (0x02000000 + e * 2 ^ 20)) 0
  else
    let src := s.dmaAddr e 0x100
    let dst := s.dmaAddr e 0x108
    let len := (s.reg dmaPage (dmaOff e 0x110)).toNat
    let bad := src % 4 != 0 || dst % 4 != 0 || len % 4 != 0 || decide (len = 0) || decide (0x1000000 < len)
    let segs := segmentsOf s.intlv4k 65 src dst len
    if bad || decide (64 < segs.length) then s.dmaEnd e 2
    else
      let s := (s.setDma e { Dma.reset with segs := segs }).setReg dmaPage (dmaOff e 0x118) 1
      s.dmaNext e

/-- A write of STOP (R257). -/
def State.dmaStop (s : State) (e : Nat) : State :=
  if s.dmaBusy e then (s.setDma e { s.dma e with stop := true }).dmaNext e else s

/-- A transfer of a segment fails with a status (R256). -/
def State.dmaFail (s : State) (e : Nat) (o : DmaOut) (status : Nat) : State :=
  let x := s.dma e
  s.setDma e { x with failed := if x.failed.contains o.seg then x.failed else x.failed ++ [o.seg]
                      first := match x.first with
                        | some f => if o.seg < f.1 then some (o.seg, status) else some f
                        | none => some (o.seg, status) }

/-- A response to an outstanding transfer (R255, R256): data read are written on; any status but OK fails the segment. -/
def State.dmaResponse (s : State) (e txn status : Nat) (data : List Byte) : State :=
  let x := s.dma e
  match x.outs.find? (fun o => o.txn == txn) with
  | none => s
  | some o =>
    let rest := x.outs.erase o
    if status ≠ stOK then ((s.setDma e { x with outs := rest }).dmaFail e o status).dmaNext e
    else if o.write then (s.setDma e { x with outs := rest }).dmaNext e
    else
      let np := s.dmaNp e
      let s := s.setDma e { x with outs := if np then x.outs.map fun p => if p == o then { o with write := true } else p else rest }
      (s.send (requestTo dmaNode (0x30 + e) (if np then 2 else 1) (s.dmaPrio e) txn o.dst o.len data)).dmaNext e

/-- A transfer gets no response within 1 ms (R256). No status was received, so a free value stands in FAIL_STAT.
(DEDUCED, log entry 40.) -/
def State.dmaTimeout (s : State) (e txn : Nat) : State :=
  let x := s.dma e
  match x.outs.find? (fun o => o.txn == txn) with
  | none => s
  | some o =>
    let f := (s.setDma e { x with outs := x.outs.erase o }).takeFree
    (f.2.dmaFail e o (f.1.toNat % 16)).dmaNext e

def execDmaGo (e : Fin 8) (s : State) : Host.Outcome State Fault Refusal := .next ((s.dmaGo e.val).reply stOK [])

def execDmaStop (e : Fin 8) (s : State) : Host.Outcome State Fault Refusal := .next ((s.dmaStop e.val).reply stOK [])

def execDmaTransferResponse (e : Fin 8) (txn : BitVec 8) (status : BitVec 4) (data : List Byte) (s : State) :
    Host.Outcome State Fault Refusal :=
  .next (s.dmaResponse e.val txn.toNat status.toNat data)

def execDmaTransferTimeout (e : Fin 8) (txn : BitVec 8) (s : State) : Host.Outcome State Fault Refusal :=
  .next (s.dmaTimeout e.val txn.toNat)

end Sys2Proof.Machine
end

