-- ==== Sys2Proof/Machine/Access.lean ====
section
/-! DEFINITION. Accesses by package address (R18 to R21, R137): the window an address lies in, the status of an access,
and the whole-range reads and writes that a block of the device makes at once. -/

namespace Sys2Proof.Machine

/-- Windows of the package address space (Tables 1-4, 1-5). -/
inductive Window where
  | regs | bank (b : Nat) | tile (r t : Nat) | sram | flash | hbm | unmapped
  deriving DecidableEq, Repr

/-- Core SRAM, on node 0x47 (Table 1-5). -/
def sramBase : Nat := 0x47 * 2 ^ 40 + 0x1000000

/-- The window that holds all `n` bytes from address `a`; a range that leaves a window is unmapped. -/
def windowOf (a n : Nat) : Window :=
  let node := a / 2 ^ 40
  let off := a % 2 ^ 40
  let fits := fun lo size => decide (lo ≤ off ∧ off + n ≤ lo + size)
  if node = 0xFF then (if off + n ≤ hbmSize then .hbm else .unmapped)
  else if fits 0 0x1000000 then .regs
  else if isRegionNode node then
    if fits 0x1000000 0x180000 then .bank (bankAt node off)
    else if fits 0x2000000 0x48000 then .tile (nodeRegion node) ((off - 0x2000000) / 0x2000)
    else .unmapped
  else if node = 0x47 then
    if fits 0x1000000 0x100000 then .sram else if fits 0x2000000 0x800000 then .flash else .unmapped
  else .unmapped

/-- The dimension-ordered path from a node to another enters an isolated sail (R17); `fuel` bounds its steps. -/
def State.pathCut (s : State) (n dest : Nat) : Nat → Bool
  | 0 => false
  | fuel + 1 =>
    s.isIsolated (nodeDie n) ||
      (match routeTo n dest with
       | 4 => false
       | o => match neighbour n (sideOf o) with
         | some m => s.pathCut m dest fuel
         | none => false)

/-- A node that exists and can be reached. -/
def State.reachable (s : State) (src dest : Nat) : Bool := nodeExists dest && !s.pathCut src dest 23

/-- Status a gate gives, none when it is OPEN (R135, R137). (DEDUCED, log entry 68.) -/
def State.gateStatus (s : State) (n : Nat) : Option Nat :=
  let g := s.gate n
  if g = gateOpen then none else if g = gateAsleep then some stDestAsleep else some stEndpointClosed

/-- Status of a memory access of `n` bytes at `a` from a node's port (R20, R137): rows 1, 2, 4, 6, 7 of Table 6-6 in
order. Register pages take accesses of their own (20_register_reference) and are not memory. -/
def State.memStatus (s : State) (src port a n : Nat) (write : Bool) : Nat :=
  let node := a / 2 ^ 40
  let dest := if node = 0xFF then stackHome (stackOf s.intlv4k (a % 2 ^ 40)) else node
  let w := windowOf a n
  if w = .hbm then
    if !s.reachable src dest then stNodeAbsent
    else if !s.hbmServes (stackOf s.intlv4k (a % 2 ^ 40)) then stDestAsleep
    else if write ∧ inDescTable (a % 2 ^ 40) ∧ !isMillpond src then stDenied
    else stOK
  else if node = 0xFF then stUnmapped
  else if !s.reachable src dest then stNodeAbsent
  else match w with
    | .bank b => s.bankStatus b src port
    | .tile r _ =>
      if s.underTest (rgnPage r) ∧ s.gate node ≠ gateAsleep then stUnderTest else (s.gateStatus node).getD stOK
    | .sram => (s.gateStatus node).getD stOK
    | .flash => (s.gateStatus node).getD (if write then stUnmapped else stOK)
    | _ => if isRegionNode node then stUnmapped else (s.gateStatus node).getD stUnmapped

/-! Where a refusal is counted, and whether its response comes back. -/

/-- The node that serves an address (R18, R21). -/
def State.destOf (s : State) (a : Nat) : Nat :=
  if a / 2 ^ 40 = 0xFF then stackHome (stackOf s.intlv4k (a % 2 ^ 40)) else a / 2 ^ 40

/-- The last router before an isolated die on the way to a node (R17). -/
def State.lastBefore (s : State) (n dest : Nat) : Nat → Nat
  | 0 => n
  | fuel + 1 =>
    match routeTo n dest with
    | 4 => n
    | o => match neighbour n (sideOf o) with
      | some m => if s.isIsolated (nodeDie m) then n else s.lastBefore m dest fuel
      | none => n

/-- The router that rejects an access, or the node that answers it. -/
def State.answerer (s : State) (src a n st : Nat) : Nat :=
  let d := s.destOf a
  if st = stNodeAbsent then (if nodeExists d then s.lastBefore src d 23 else src)
  else if a / 2 ^ 40 = 0xFF ∧ hbmSize < a % 2 ^ 40 + n then src
  else d

/-- Status code of an access whose response never comes (Table 19-9, R394): its way back enters an isolated sail (R17). -/
def stNoResponse : Nat := 0xF

def State.seen (s : State) (src a n st : Nat) : Nat := if s.pathCut (s.answerer src a n st) src 23 then stNoResponse else st

/-- A refusal is counted where it is made (R20, R44, R132, R137, R238, R170). -/
def State.countRefusal (s : State) (src a n status : Nat) (posted : Bool) : State :=
  let d := s.answerer src a n status
  let late := status = stDestAsleep ∨ status = stUnderTest ∨ status = stEndpointClosed
  if posted then
    match windowOf a n with
    | .bank b => if status = stNodeAbsent ∨ status = stDataError then s.bump (rtrPage d) 0x84 else s.bump (bankPage b) 0x50
    | .hbm =>
      if status = stDenied then s.bump (hbmPage (stackOf s.intlv4k (a % 2 ^ 40))) 0x50 else s.bump (rtrPage d) 0x84
    | _ => s.bump (rtrPage d) 0x84
  else if late then s.bump (rtrPage d) 0x88
  else s

/-! Accesses that the status admits. Other blocks of the device make theirs at once: how long a word waits, and what a
SECDED check finds, is open. (DESIGN CHOICE, log entry 103.) -/

/-- How many of `count` words are served before one reaches its limit (R56, R241). -/
def State.served (s : State) (waits : Bool) (count : Nat) : State × Nat :=
  if waits then (s.takeFree.2, min count s.takeFree.1.toNat) else (s, count)

/-- The same at a bank: a handover holds the whole request (R244); a region's commands on its port come first. -/
def State.bankServed (s : State) (b count : Nat) : State × Nat :=
  if s.bankPending b then (s.takeFree.2, if bit s.takeFree.1 0 then count else 0)
  else s.served (s.bankKind b == 1 && s.rgnActive (b / 6) && s.rbit (bankPage b) 0x44 7) count

/-- Words of a tile-memory access whose quarter an active region's cell owns make it wait (R56, R99). -/
def State.tileWaits (s : State) (r a count : Nat) : Bool :=
  s.rgnActive r && (List.range count).any fun i =>
    let off := (a / 4 * 4 + 4 * i) % 2 ^ 40 - 0x2000000
    (tget (fun _ => (0 : DWord)) s.tileCtl (tileKey r (off / 0x2000))).getLsbD (17 + 5 * (off % 0x2000 / 0x800))

/-- A read of `n` bytes: status and data. -/
def State.memRead (s : State) (a n : Nat) : State × Nat × List Byte :=
  match windowOf a n with
  | .bank b =>
    let count := (a % 8 + n + 7) / 8
    let x := s.bankServed b count
    let y := x.1.bankChecks b ((List.range x.2).map (a % 2 ^ 40 % 0x40000 / 8 + ·))
    if !y.2 then (y.1, stDataError, [])
    else if x.2 < count then (y.1, stDenied, []) else (y.1, stOK, y.1.readBytes a n)
  | .tile r _ =>
    let count := (a % 4 + n + 3) / 4
    let x := s.served (s.tileWaits r a count) count
    if x.2 < count then (x.1, stDenied, []) else (x.1, stOK, x.1.readBytes a n)
  | .hbm =>
    let x := s.takeFree
    let t := x.2.hbmCheck (stackOf s.intlv4k (a % 2 ^ 40)) (a % 2 ^ 40) (eccOf x.1) (fld x.1 2 4)
    if eccOf x.1 == .bad then (t, stDataError, []) else (t, stOK, t.readBytes a n)
  | _ => (s, stOK, s.readBytes a n)

/-- A write: status. The words before one that reaches its limit stay written; where a word that is read first has an
uncorrectable error none is (R241, R243). -/
def State.memWrite (s : State) (a : Nat) (bs : List Byte) : State × Nat :=
  let n := bs.length
  match windowOf a n with
  | .bank b =>
    let count := (a % 8 + n + 7) / 8
    let i := a % 2 ^ 40 % 0x40000 / 8
    let x := s.bankServed b count
    let part := (List.range x.2).filter fun j => (j == 0 && a % 8 != 0) || (j + 1 == count && (a + n) % 8 != 0)
    let y := x.1.bankChecks b (part.map (i + ·))
    if !y.2 then (y.1, stDataError)
    else ((y.1.writeMem a (bs.take (8 * x.2 - a % 8))).bankFresh b i x.2, if x.2 < count then stDenied else stOK)
  | .tile r _ =>
    let count := (a % 4 + n + 3) / 4
    let x := s.served (s.tileWaits r a count) count
    (x.1.writeMem a (bs.take (4 * x.2 - a % 4)), if x.2 < count then stDenied else stOK)
  | .hbm =>
    if a % 8 = 0 ∧ n % 8 = 0 then (s.writeMem a bs, stOK)
    else
      let x := s.takeFree
      let t := x.2.hbmCheck (stackOf s.intlv4k (a % 2 ^ 40)) (a % 2 ^ 40) (eccOf x.1) (fld x.1 2 4)
      if eccOf x.1 == .bad then (t, stDataError) else (t.writeMem a bs, stOK)
  | _ => (s.writeMem a bs, stOK)

/-- The end of an access: a refusal is counted, and the initiator sees the status, or no response. A posted one has
none. -/
def State.accessEnd (s : State) (src a n st : Nat) (posted : Bool) : State × Nat :=
  (if st = stOK then s else s.countRefusal src a n st posted, if posted then st else s.seen src a n st)

/-- A block reads `n` bytes: status, and the bytes of an OK read. -/
def State.fetch (s : State) (src port a n : Nat) : State × Nat × List Byte :=
  let st := s.memStatus src port a n false
  let x := if st = stOK then s.memRead a n else (s, st, [])
  let y := x.1.accessEnd src a n x.2.1 false
  (y.1, y.2, if y.2 = stOK then x.2.2 else [])

/-- A block writes bytes. -/
def State.store (s : State) (src port a : Nat) (bs : List Byte) (posted : Bool) : State × Nat :=
  let st := s.memStatus src port a bs.length true
  let x := if st = stOK then s.memWrite a bs else (s, st)
  x.1.accessEnd src a bs.length x.2 posted

/-- A longer range in pieces that keep R43: at most 2,048 bytes, within 4 KiB. It ends at the first piece that fails. -/
def State.fetchAll (s : State) (src port a n : Nat) : Nat → State × Nat × List Byte
  | 0 => (s, stOK, [])
  | fuel + 1 =>
    if n = 0 then (s, stOK, [])
    else
      let m := min n (min 2048 (0x1000 - a % 0x1000))
      let x := s.fetch src port a m
      if x.2.1 ≠ stOK then (x.1, x.2.1, [])
      else
        let y := x.1.fetchAll src port (a + m) (n - m) fuel
        (y.1, y.2.1, x.2.2 ++ y.2.2)

def State.storeAll (s : State) (src port a : Nat) (bs : List Byte) : Nat → State × Nat
  | 0 => (s, stOK)
  | fuel + 1 =>
    if bs.isEmpty then (s, stOK)
    else
      let m := min 2048 (0x1000 - a % 0x1000)
      let x := s.store src port a (bs.take m) false
      if x.2 ≠ stOK then x else x.1.storeAll src port (a + m) (bs.drop m) fuel

end Sys2Proof.Machine
end

