-- ==== Sys2Proof/Machine/Granary.lean ====
section
/-! DEFINITION. The granary and the health monitors (17_granary_and_health, R414 to R427). -/

namespace Sys2Proof.Machine

def grnPage : Page := ⟨.grn, 0⟩

/-! Flash (R414, R415). -/

def sectorSize : Nat := 0x8000

/-- The first sector of an area and its number of sectors; LIVE_MAX in bytes (Table 17-1). -/
def areaStart : Nat → Nat
  | 0 => 0 | 1 => 64 | _ => 192
def areaSectors (a : Nat) : Nat := if a = 1 then 128 else 64
def liveMax (a : Nat) : Nat := if a = 1 then 0x300000 else 0x180000

/-- The area of an identifier, none where reserved (Table 17-1). -/
def idArea (id : Word) : Option Nat := if id.toNat / 2 ^ 30 = 3 then none else some (id.toNat / 2 ^ 30)

def sectorArea (n : Nat) : Nat := if n < 64 then 0 else if n < 192 then 1 else 2

/-- CRC-32 of IEEE 802.3 over a byte string. -/
def crcStep (c : Word) : Word := if c.getLsbD 0 then (c >>> 1) ^^^ 0xEDB88320#32 else c >>> 1
def crcByte (c : Word) (b : Byte) : Word := (List.range 8).foldl (fun c _ => crcStep c) (c ^^^ b.setWidth 32)
def crc32 (l : List Byte) : Word := ~~~(l.foldl crcByte 0xFFFFFFFF#32)

/-- A journal entry's header (Table 17-2). -/
def entryHeader (id seq : Word) (tomb copy : Bool) (data : List Byte) : List Byte :=
  let h := natBytes 2 0x4A47 ++ natBytes 2 data.length ++ wordBytes id ++ wordBytes seq
    ++ natBytes 1 (b2n tomb + 2 * b2n copy) ++ natBytes 3 0 ++ wordBytes (crc32 data) ++ natBytes 8 0
  h ++ wordBytes (crc32 h)

/-- Payload with its padding of ones. -/
def padded (data : List Byte) : List Byte := data ++ List.replicate ((16 - data.length % 16) % 16) 0xFF#8

/-- The commit unit: its mark, SEQ, HCRC. -/
def commitUnit (header : List Byte) (seq : Word) : List Byte :=
  wordBytes 0x434F4D54#32 ++ wordBytes seq ++ header.drop 28 ++ natBytes 4 0

/-- Units of 16 bytes an entry takes. -/
def entryUnits (len : Nat) : Nat := 3 + (len + 15) / 16

/-- Erase count a sector keeps in its first unit (R419); all ones is a sector never erased.
(DESIGN CHOICE, log entry 82.) -/
def State.eraseCount (s : State) (n : Nat) : Nat :=
  let w := s.readWord (flashBase + n * sectorSize)
  if w = 0xFFFFFFFF#32 then 0 else w.toNat

/-- `GRN.ERASE_MAX[a]`. -/
def State.eraseMax (s : State) (a : Nat) : Nat :=
  ((List.range (areaSectors a)).map fun i => s.eraseCount (areaStart a + i)).foldl max 0

def State.setGrn (s : State) (g : Grn) : State := { s with grn := g }

/-- Sectors of an area in use, oldest first. -/
def Grn.usedOf (g : Grn) (a : Nat) : List Nat := tget (fun _ => []) g.used a

/-- Sectors of an area in ring order from the head's successor that are free. -/
def Grn.freeOf (g : Grn) (a : Nat) : List Nat :=
  let l := g.usedOf a
  let start := ((l.getLast?).map fun n => n - areaStart a + 1).getD 0
  ((List.range (areaSectors a)).map fun i => areaStart a + (start + i) % areaSectors a).filter fun n =>
    !l.contains n && !g.retired.contains n && !g.cut.contains n

/-- The current version of an identifier, a TOMB being none (R416). -/
def Grn.current (g : Grn) (id : Word) : Option GrnEntry :=
  (tget (fun _ => none) g.index id.toNat).bind fun e => if e.tomb then none else some e

/-- Live bytes of an area (R419): current versions with headers and commit units. -/
def Grn.live (g : Grn) (a : Nat) : Nat :=
  (g.index.map fun x => match x.2 with
    | some e => if x.1 / 2 ^ 30 = a then 16 * entryUnits e.len else 0
    | none => 0).sum

/-- The payload of the entry at a flash offset. -/
def State.entryData (s : State) (e : GrnEntry) : List Byte := s.readBytes (flashBase + e.off + 32) e.len

/-- Events of the GRN page (Table 17-7). -/
def State.grnEvent (s : State) (e mid low : Nat) : State :=
  s.raise grnPage e (BitVec.ofNat 32 ((e + 1) * 2 ^ 24 + mid % 256 * 2 ^ 16 + low % 2 ^ 16)) 0

def State.powerFail (s : State) : Bool := s.rbit grnPage 0x54 28

/-! Commits (R416, R419). -/

/-- Room at the head of an area for an entry of `n` units: the head sector is left for the next free one when the entry
does not fit; an entry lies in one sector. (DESIGN CHOICE, log entry 82.) -/
def Grn.place (g : Grn) (a n : Nat) : Option (Grn × Nat) :=
  let pos := tget (fun _ => 2048) g.pos a
  match (g.usedOf a).getLast? with
  | some h =>
    if pos + n ≤ 2048 then some ({ g with pos := tset (fun _ => 2048) g.pos a (pos + n) }, h * sectorSize + 16 * pos)
    else (g.freeOf a).head?.map fun f =>
      ({ g with used := tset (fun _ => []) g.used a (g.usedOf a ++ [f]), pos := tset (fun _ => 2048) g.pos a (1 + n) },
        f * sectorSize + 16)
  | none => (g.freeOf a).head?.map fun f =>
      ({ g with used := tset (fun _ => []) g.used a [f], pos := tset (fun _ => 2048) g.pos a (1 + n) }, f * sectorSize + 16)

/-- An attempt fails to verify (R416): the entry is abandoned without its commit unit; the third failure in a sector
retires it. -/
def State.grnAbandon (s : State) (a off : Nat) (bytes : List Byte) : State :=
  let n := off / sectorSize
  let f := tget (fun _ => 0) s.grn.failed n + 1
  let s := (s.writeBytes (flashBase + off) bytes).setGrn
    { s.grn with failed := tset (fun _ => 0) s.grn.failed n f }
  if f = 3 then
    (s.setGrn { s.grn with retired := s.grn.retired ++ [n], pos := tset (fun _ => 2048) s.grn.pos a 2048 }).grnEvent 5 a n
  else s

/-- Programs one entry, with `fails` attempts that do not verify before the one that does (R416). -/
def State.grnProgram (s : State) (id seq : Word) (tomb copy : Bool) (data : List Byte) : Nat → State
  | 0 =>
    let a := id.toNat / 2 ^ 30
    match s.grn.place a (entryUnits data.length) with
    | some (g, off) =>
      let h := entryHeader id seq tomb copy data
      let s := (s.setGrn g).writeBytes (flashBase + off) (h ++ padded data ++ commitUnit h seq)
      s.setGrn { s.grn with index := tset (fun _ => none) s.grn.index id.toNat (some ⟨off, seq, tomb, data.length⟩) }
    | none => s
  | n + 1 =>
    let a := id.toNat / 2 ^ 30
    match s.grn.place a (entryUnits data.length) with
    | some (g, off) =>
      ((s.setGrn g).grnAbandon a off (entryHeader id seq tomb copy data ++ padded data)).grnProgram id seq tomb copy data n
    | none => s.grnProgram id seq tomb copy data n

/-- The next erase of an area would exceed its endurance (R419). -/
def State.worn (s : State) (a : Nat) : Bool :=
  match s.grn.usedOf a with
  | o :: _ => decide (100000 ≤ s.eraseCount o)
  | [] => false

/-- Compaction of an area's oldest sector, when fewer than four sectors are free (R419): its current versions are
committed again as COPY entries, then its erase starts; a sector at its endurance is never erased again. -/
def State.compact (s : State) (a : Nat) : State :=
  match s.grn.usedOf a with
  | o :: n :: _ =>
    if (s.grn.freeOf a).length < 4 ∧ s.grn.erasing = none ∧ !s.powerFail ∧ !s.worn a ∧ n ≠ o then
      let l := s.grn.index.filterMap fun x => match x.2 with
        | some e => if e.off / sectorSize = o then some (x.1, e) else none
        | none => none
      let s := l.foldl (fun s x => s.grnProgram (BitVec.ofNat 32 x.1) x.2.seq x.2.tomb true (s.entryData x.2) 0) s
      (s.setGrn { s.grn with erasing := some o }).setBit grnPage 0x54 29 true
    else s
  | _ => s

/-- A sector is erased: all ones, its erase count one higher (R419). -/
def State.eraseSector (s : State) (n : Nat) : State :=
  let c := s.eraseCount n + 1
  let a := sectorArea n
  let s := (s.clearBytes (flashBase + n * sectorSize) sectorSize).writeWord (flashBase + n * sectorSize) (BitVec.ofNat 32 c)
  s.setGrn { s.grn with used := tset (fun _ => []) s.grn.used a ((s.grn.usedOf a).filter (· != n))
                        cut := s.grn.cut.filter (· != n) }

/-! The command register and the internal queue (R417). -/

/-- Results (Table 17-6). -/
def grOK : Nat := 0
def grBadArg : Nat := 1
def grBadId : Nat := 2
def grTooLong : Nat := 3
def grFull : Nat := 4
def grDenied : Nat := 5
def grPower : Nat := 6
def grHoldLow : Nat := 7
def grNotFound : Nat := 8
def grBus : Nat := 9

/-- A request of the command register. -/
def GrnWho.outside : GrnWho → Bool
  | .other | .core | .secure => true
  | .device | .sec | .fantail => false

/-- An initiator may commit an identifier (Table 17-1, R363). -/
def State.grnAdmits (s : State) (w : GrnWho) (id : Word) (a : Nat) : Bool :=
  match a with
  | 0 => if 0x102 ≤ id.toNat ∧ id.toNat ≤ 0x107 then w == .sec else w == .secure || w == .sec
  | 1 => !((w == .core || w == .secure) && (s.role == 2 || s.role == 3))
  | _ => w == .device

/-- HOLD_OK: VHOLD is at or above ARM (R421). -/
def State.holdOk (s : State) : Bool := decide (s.rfld grnPage 0x5C 0 8 ≤ s.rfld grnPage 0x5C 8 8)

/-- A request ends with a result; only the command register's own shows in `GRN.STAT`. A record from the fantail that is
lost raises `GRAN_LOST` (R422, R374). -/
def State.grnEnd (s : State) (q : GrnReq) (res : Nat) : State :=
  if q.who.outside then
    let s := ((s.setFld grnPage 0x54 0 4 res).setBit grnPage 0x54 31 false).setBit grnPage 0x54 30 false
    if res = grOK then s else (s.bump grnPage 0x7C).grnEvent 1 res q.id.toNat
  else if q.who = .fantail ∧ res ≠ grOK then
    s.raise twnPage 11 (BitVec.ofNat 32 (0x0C000000 + q.id.toNat % 2 ^ 16)) 0
  else s

/-- Why a COMMIT or DELETE is refused before anything is read, if it is. (DESIGN CHOICE, log entry 82.) -/
def State.grnRefusal (s : State) (q : GrnReq) (a len : Nat) : Option Nat :=
  if 4096 < len then some grTooLong
  else if !s.grnAdmits q.who q.id a then some grDenied
  else if s.powerFail then some grPower
  else if !s.holdOk then some grHoldLow
  else
    let old := ((tget (fun _ => none) s.grn.index q.id.toNat).map fun e => 16 * entryUnits e.len).getD 0
    if liveMax a < s.grn.live a + 16 * entryUnits len - old ∨ s.worn a ∨ (s.grn.place a (entryUnits len)).isNone
      ∨ (old = 0 ∧ 16384 ≤ s.grn.index.length) then some grFull
    else none

/-- The request at the head of the queue is taken up. -/
def State.grnTake (s : State) (q : GrnReq) (a : Nat) : State :=
  if q.op = 3 then
    match s.grn.current q.id with
    | none => s.grnEnd q grNotFound
    | some e =>
      let x := s.storeAll 0x47 0x30 q.addr ((s.entryData e).take (min q.len e.len)) 8
      let s := x.1.setReg grnPage 0x58 e.seq
      if x.2 = stOK then (s.setFld grnPage 0x54 12 13 e.len).grnEnd q grOK else s.grnEnd q grBus
  else
    let len := if q.op = 2 then 0 else if q.who.outside then q.len else q.data.length
    match s.grnRefusal q a len with
    | some r =>
      let s := if r = grFull ∧ s.worn a then s.grnEvent 6 a 0 else s
      s.grnEnd q r
    | none =>
      if q.op = 2 ∨ !q.who.outside then
        (s.setGrn { s.grn with flight := some ⟨q.who, q.id, q.op == 2, if q.op = 2 then [] else q.data⟩ }).setBit grnPage
          0x54 30 (q.who.outside)
      else
        let x := s.fetchAll 0x47 0x30 q.addr len 8
        let s := x.1
        if x.2.1 = stOK then
          (s.setGrn { s.grn with flight := some ⟨q.who, q.id, false, x.2.2⟩ }).setBit grnPage 0x54 30 true
        else s.grnEnd q grBus

/-- Requests are served in arrival order while no commit is in flight; one that names an area whose scan has not ended
waits (R417, R418). -/
def State.grnServe (s : State) : Nat → State
  | 0 => s
  | fuel + 1 =>
    match s.grn.flight, s.grn.queue with
    | none, q :: rest =>
      match idArea q.id with
      | none => ((s.setGrn { s.grn with queue := rest }).grnEnd q grBadId).grnServe fuel
      | some a =>
        if s.grn.scanned.getLsbD a then ((s.setGrn { s.grn with queue := rest }).grnTake q a).grnServe fuel else s
    | _, _ => s

def State.grnRun (s : State) : State := s.grnServe (s.grn.queue.length)

/-- A writer inside the device hands over a commit (R417). (DESIGN CHOICE, log entry 82.) -/
def State.grnSubmit (s : State) (w : GrnWho) (id : Word) (tomb : Bool) (data : List Byte) : State :=
  (s.setGrn { s.grn with queue := s.grn.queue ++ [⟨if tomb then 2 else 1, w, id, 0, 0, data⟩] }).grnRun

/-- A GO in `GRN.CMD` (R417). -/
def State.grnGo (s : State) (op : Nat) (w : GrnWho) : State :=
  if s.rbit grnPage 0x54 31 then s.grnEvent 2 0 0
  else
    let s := s.setFld grnPage 0x40 0 3 op
    let q : GrnReq := ⟨op, w, s.reg grnPage 0x44, s.rfld grnPage 0x48 0 13,
      s.rfld grnPage 0x50 0 16 * 2 ^ 32 + (s.reg grnPage 0x4C).toNat, []⟩
    if 1 ≤ op ∧ op ≤ 3 then
      ((s.setBit grnPage 0x54 31 true).setGrn { s.grn with queue := s.grn.queue ++ [q] }).grnRun
    else s.grnEnd q grBadArg

/-- What the command register's sender is: neither a core nor the boot ROM, a task, a secure task or the boot ROM. -/
def grnSender : Fin 3 → GrnWho
  | 0 => .other
  | 1 => .core
  | 2 => .secure

/-- VHOLD is measured, in 0.1 V (R421). (DESIGN CHOICE, log entry 82.) -/
def State.setVhold (s : State) (v : BitVec 8) : State := s.setFld grnPage 0x5C 8 8 v.toNat

/-- The wear record holds the hours and the hourly values as they stand (R424). -/
def State.saveWear (s : State) (id : Word) : State :=
  if id = 0x80000100#32 then
    { s with health := { s.health with saved := ((s.reg hlthPage 0x40).toNat, s.health.hist) } }
  else s

/-- Commits completed by the owner of the settings area go to the standby (R363); the twin's file sends them. -/
def GrnCommit.mirrored (c : GrnCommit) : Bool := c.id.toNat / 2 ^ 30 == 1 && c.who != .fantail

/-- The commit in flight is programmed and verified, after `fails` attempts that did not verify (R416). -/
def State.commitDone (s : State) (fails : Nat) : State :=
  match s.grn.flight with
  | none => s
  | some c =>
    let a := c.id.toNat / 2 ^ 30
    let seq := tget (fun _ => 0#32) s.grn.seq a + 1
    let s := s.grnProgram c.id seq c.tomb false c.data fails
    let s := s.setGrn { s.grn with flight := none, seq := tset (fun _ => 0#32) s.grn.seq a seq }
    let s := ((s.bump grnPage 0x78).grnEvent 0 a c.id.toNat).saveWear c.id
    let s := if s.powerFail then s.bump grnPage 0x84 else s
    let s := if c.who.outside then (s.setReg grnPage 0x58 seq).grnEnd ⟨1, c.who, c.id, 0, 0, []⟩ grOK else s
    (s.compact a).grnRun

/-- A compaction's erase ends (R419). -/
def State.compactionDone (s : State) : State :=
  match s.grn.erasing with
  | none => s
  | some n =>
    let s := s.eraseSector n
    ((s.setGrn { s.grn with erasing := none }).setBit grnPage 0x54 29 false).compact (sectorArea n)

/-- The granary's part of POWERFAIL (R420, R422): an erase is abandoned, requests not in flight are refused. -/
def State.grnPowerFail (s : State) (v : BitVec 8) : State :=
  let s := (s.setVhold v).setBit grnPage 0x54 28 true
  let s := s.grnEvent 3 (b2n (s.rbit grnPage 0x54 30)) 0
  let s := match s.grn.erasing with
    | some n => (s.setGrn { s.grn with erasing := none, cut := s.grn.cut ++ [n]
                                       used := tset (fun _ => []) s.grn.used (sectorArea n)
                                         ((s.grn.usedOf (sectorArea n)).filter (· != n)) }).setBit grnPage 0x54 29 false
    | none => s
  let q := s.grn.queue
  (q.filter (·.op != 3)).foldl (fun s r => s.grnEnd r grPower)
    (s.setGrn { s.grn with queue := q.filter (·.op == 3) })

/-- An entry's commit unit is valid: its mark, both copies of SEQ and HCRC agree (R416). -/
def State.unitValid (s : State) (e : GrnEntry) : Bool :=
  s.readBytes (flashBase + e.off + 16 * (entryUnits e.len - 1)) 16 ==
    commitUnit (s.readBytes (flashBase + e.off) 32) e.seq

/-- One step of the scan (R418): the entry whose header stands at unit `u` of a sector, with the units it takes; whether
it is valid under R416. -/
def State.scanEntry (s : State) (n u : Nat) : Option (Word × GrnEntry × Bool × Nat) :=
  let off := n * sectorSize + 16 * u
  let h := s.readBytes (flashBase + off) 32
  let w := fun i => bytesWord ((h.drop i).take 4)
  if 2045 < u ∨ h.take 2 ≠ natBytes 2 0x4A47 ∨ w 28 ≠ crc32 (h.take 28) then none
  else
    let len := (w 0).toNat / 2 ^ 16
    let e : GrnEntry := ⟨off, w 8, (w 12).getLsbD 0, len⟩
    some (w 4, e, s.unitValid e && w 16 == crc32 (s.entryData e), entryUnits len)

/-- The entries of a sector from unit `u` on, in order, and the first unit behind them. -/
def State.scanSector (s : State) (n : Nat) : Nat → Nat → List (Word × GrnEntry × Bool) × Nat
  | 0, u => ([], u)
  | fuel + 1, u =>
    match s.scanEntry n u with
    | none => ([], u)
    | some (id, e, ok, units) =>
      let r := s.scanSector n fuel (u + units)
      ((id, e, ok) :: r.1, r.2)

/-- The version with the higher SEQ, compared as a signed difference modulo 2^32 (R416). -/
def newer (a b : GrnEntry) : GrnEntry := if 0 ≤ (b.seq - a.seq).toInt then b else a

/-- The scan of an area ends (R418): the index is rebuilt from the entry headers; entries without a valid commit unit
are counted; a sector found mid-erase is erased; the wear record's hours are back (R424). Requests that waited go on.
(DEDUCED, log entry 62.) -/
def State.areaScanned (s : State) (a : Nat) : State :=
  let s := (s.grn.cut.filter fun n => sectorArea n == a).foldl (fun s n => s.eraseSector n) s
  let secs := (List.range (areaSectors a)).map fun i => areaStart a + i
  let all := (secs.map fun n => (n, s.scanSector n 682 1)).filter fun x => !x.2.1.isEmpty
  -- ring order: the oldest sector follows a free one
  let has := fun n => all.any fun x => x.1 == n
  let before := fun n => areaStart a + (n - areaStart a + areaSectors a - 1) % areaSectors a
  let first := ((all.map (·.1)).find? fun n => !has (before n)).getD (areaStart a)
  let ring := ((List.range (areaSectors a)).map fun i => areaStart a + (first - areaStart a + i) % areaSectors a).filter has
  let ents := ring.flatMap fun n => ((all.find? fun x => x.1 == n).map fun x => x.2.1).getD []
  let index := ents.foldl (fun t x => if x.2.2 then
      tset (fun _ => none) t x.1.toNat (some (match tget (fun _ => none) t x.1.toNat with
        | some e => newer e x.2.1
        | none => x.2.1)) else t) (tdrop (fun i => i / 2 ^ 30 == a) s.grn.index)
  let seq := match (ents.filter (·.2.2)).map (·.2.1) with
    | [] => 0#32
    | e :: l => (l.foldl newer e).seq
  let pos := (ring.getLast?.bind fun n => (all.find? fun x => x.1 == n).map fun x => x.2.2).getD 2048
  let s := s.setGrn { s.grn with index := index, used := tset (fun _ => []) s.grn.used a ring
                                 pos := tset (fun _ => 2048) s.grn.pos a pos, seq := tset (fun _ => 0#32) s.grn.seq a seq
                                 scanned := s.grn.scanned ||| BitVec.ofNat 3 (2 ^ a) }
  let s := (ents.filter fun x => !s.unitValid x.2.1).foldl
    (fun s x => (s.bump grnPage 0x80).grnEvent 4 a (x.2.1.off / sectorSize)) s
  let s := if a = 2 then
      { s.setReg hlthPage 0x40 (BitVec.ofNat 32 s.health.saved.1) with health := { s.health with hist := s.health.saved.2 } }
    else s
  (s.compact a).grnRun

/-- `GRN.AREA[a]` (Table 17-4); a count beyond its field reads as the field's largest value. -/
def State.grnArea (s : State) (a : Nat) : Word :=
  let ret := (s.grn.retired.filter fun n => sectorArea n == a).length
  BitVec.ofNat 32 (min (s.grn.live a / 1024) 4095 + min ((s.grn.freeOf a).length) 63 * 2 ^ 16 + min ret 63 * 2 ^ 24)

/-! Health (R423 to R425). -/

/-- Readings outside −1 % to +20 %, in 0.001 %. -/
def readingBad (v : BitVec 16) : Bool := decide (v.toInt < -1000 ∨ 20000 < v.toInt)

/-- The worst ΔD among monitors in use, with its monitor. -/
def worstOf : List (Nat × BitVec 16) → Option (Nat × BitVec 16)
  | [] => none
  | x :: l => match worstOf l with
    | some y => if x.2.toInt < y.2.toInt then some y else some x
    | none => some x

/-- One second's readings of a die's monitors (R423). Without a monitor in use the worst reading has no stated value.
(DEDUCED, log entry 85.) -/
def State.monitorRead (s : State) (d : Nat) (v : Vector (BitVec 16) 32) : State :=
  let out := tget (fun _ => 0#32) s.health.bad d
  let new := ((List.range 32).filter fun m => !out.getLsbD m && readingBad (v.toList.getD m 0))
  let s := new.foldl (fun s m => s.raise hlthPage 3 (BitVec.ofNat 32 (0x04000000 + d * 2 ^ 16 + m)) 0) s
  let out := new.foldl (fun o m => o ||| BitVec.ofNat 32 (2 ^ m)) out
  let s := { s with health := { s.health with bad := tset (fun _ => 0#32) s.health.bad d out } }
  let s := if out ≠ 0 then s.setBit hlthPage 0x58 d true else s
  let use := (List.range 32).filter fun m => !out.getLsbD m
  match worstOf (use.map fun m => (m, v.toList.getD m 0)) with
  | some w => s.setReg hlthPage (0x80 + 4 * d) (BitVec.ofNat 32 (w.2.toNat + w.1 * 2 ^ 16 + use.length * 2 ^ 24))
  | none => let x := s.takeFree; x.2.setReg hlthPage (0x80 + 4 * d) (x.1 &&& 0x1FFFFF#32)

/-- Life used in 1/300,000 by source: die d as the ratio of its worst ΔD to 6.000 %, area a as that of its highest erase
count to 100,000 (R424). -/
def State.lifeOf (s : State) (src : Nat) : Int :=
  if src < 9 then 50 * (BitVec.ofNat 16 (s.rfld hlthPage (0x80 + 4 * src) 0 16)).toInt else 3 * s.eraseMax (src - 9)

/-- The largest of the twelve sources, the lowest number among equals. (DEDUCED, log entry 85.) -/
def State.lifeWorst (s : State) : Nat × Nat :=
  (List.range 12).foldl (fun m i => if (m.2 : Int) < s.lifeOf i then (i, (s.lifeOf i).toNat) else m) (0, (s.lifeOf 0).toNat)

/-- Remaining hours (R424): (1 − U) over the least-squares slope of the hourly values, newest first; the whole part.
(DEDUCED, log entry 85.) -/
def remaining (hist : List Nat) : Nat :=
  let ys := hist.reverse
  let n := ys.length
  let sx := n * (n - 1) / 2
  let sxx := ((List.range n).map fun i => i * i).sum
  let sy := ys.sum
  let sxy := ((List.range n).map fun i => i * ys.getD i 0).sum
  let num : Int := n * sxy - sx * sy
  let den : Int := n * sxx - sx * sx
  if num ≤ 0 then 0xFFFFFFFF
  else (min (0xFFFFFFFF : Int) (max 0 (300000 - (hist.headD 0 : Int)) * den / num)).toNat

/-- The wear record and the ageing histories are handed to the granary (R424). The manual gives their layout nowhere:
the payload is a free value. (DESIGN CHOICE, log entry 83.) -/
def State.wearCommit (s : State) : State :=
  (0x80000100 :: (List.range 9).map fun d => 0x80000200 + d).foldl (fun s id =>
    let x := s.takeFree
    x.2.grnSubmit .device (BitVec.ofNat 32 id) false (wordBytes x.1)) s

/-- One threshold of R425: whether it is crossed, whether recovered, the mark before; the mark after, and whether the
event is raised. -/
def crossing (below recovered mark : Bool) : Bool × Bool :=
  if mark then (!recovered, false) else (below, below)

/-- A power-on hour passes (R424, R425). -/
def State.lifeHour (s : State) : State :=
  let hours := (s.reg hlthPage 0x40).toNat + 1
  let w := s.lifeWorst
  let hist := (w.2 :: s.health.hist).take 1000
  let valid := decide (168 ≤ hist.length)
  let rem := remaining hist
  let s := { s.setReg hlthPage 0x40 (BitVec.ofNat 32 hours) with health := { s.health with hist := hist } }
  let s := s.setReg hlthPage 0x44 (BitVec.ofNat 32 (min (w.2 / 30) 10000 + w.1 * 2 ^ 16 + b2n valid * 2 ^ 31))
  let s := s.setReg hlthPage 0x48 (BitVec.ofNat 32 rem)
  let warn := (s.reg hlthPage 0x4C).toNat
  let alarm := (s.reg hlthPage 0x50).toNat
  let a := crossing (valid && rem < warn) (decide (11 * warn ≤ 10 * rem)) s.health.warned
  let b := crossing (valid && rem < alarm) (decide (11 * alarm ≤ 10 * rem)) s.health.alarmed
  let c := crossing (decide (300000 ≤ w.2)) (decide (w.2 ≤ 270000)) s.health.ended
  let s := { s with health := { s.health with warned := a.1, alarmed := b.1, ended := c.1 } }
  let ev := fun (s : State) (e low : Nat) =>
    s.raise hlthPage e (BitVec.ofNat 32 ((e + 1) * 2 ^ 24 + w.1 * 2 ^ 16 + low % 2 ^ 16)) 0
  let s := if a.2 then ev s 0 rem else s
  let s := if b.2 then ev s 1 rem else s
  let s := if c.2 then ev s 2 0 else s
  if hours % 24 = 0 || a.2 || b.2 || c.2 then s.wearCommit else s

/-! The commands. -/

/-- COMMIT; `who` is the initiator, `vhold` the level of VHOLD in 0.1 V. -/
def execGrnCommit (who : Fin 3) (vhold : BitVec 8) (s : State) : Host.Outcome State Fault Refusal :=
  .next ((s.setVhold vhold).grnGo 1 (grnSender who))

def execGrnDelete (who : Fin 3) (vhold : BitVec 8) (s : State) : Host.Outcome State Fault Refusal :=
  .next ((s.setVhold vhold).grnGo 2 (grnSender who))

def execGrnRead (who : Fin 3) (s : State) : Host.Outcome State Fault Refusal := .next (s.grnGo 3 (grnSender who))

/-- Reserved values of OP: 0 and 4 to 7 (Table 17-5). -/
def grnReservedOp (op : Fin 5) : Nat := if op.val = 0 then 0 else op.val + 3

def execGrnBadOp (op : Fin 5) (s : State) : Host.Outcome State Fault Refusal := .next (s.grnGo (grnReservedOp op) .other)

def execCompactionDone (s : State) : Host.Outcome State Fault Refusal := .next s.compactionDone

/-- VSENSE has stayed above 1.040 V for 10 ms (R420). -/
def execPowerfailClear (vhold : BitVec 8) (s : State) : Host.Outcome State Fault Refusal :=
  .next (((s.setVhold vhold).setBit grnPage 0x54 28 false).grnRun)

def execMonitorRead (d : Fin 9) (readings : Vector (BitVec 16) 32) (s : State) : Host.Outcome State Fault Refusal :=
  .next (s.monitorRead d.val readings)

def execLifeHour (s : State) : Host.Outcome State Fault Refusal := .next s.lifeHour

end Sys2Proof.Machine
end

