-- ==== Sys2Proof/Machine/Io.lean ====
section
/-! DEFINITION. Sail user I/O and cap general I/O: pins, groups, stamped output, calibration, brakes (R221 to R228, R428
to R438, R447, R448). -/

namespace Sys2Proof.Machine

def iobPage (d : Nat) : Page := ⟨.iob, d⟩

/-! Pin and group words (Tables 18-1, 18-2). -/

/-- Field of a 64-bit word. -/
def dfld (w : DWord) (lo len : Nat) : Nat := w.toNat / 2 ^ lo % 2 ^ len

def pinOff (p : Nat) : Nat := 0x100 + 8 * p
def grpOff (g : Nat) : Nat := 0x400 + 0x40 * g

/-- A 64-bit register pair. -/
def State.reg64 (s : State) (p : Page) (off : Nat) : DWord := s.reg p (off + 4) ++ s.reg p off
def State.setReg64 (s : State) (p : Page) (off : Nat) (w : DWord) : State :=
  (s.setReg p off (w.extractLsb' 0 32)).setReg p (off + 4) (w.extractLsb' 32 32)

def State.pinWord (s : State) (d p : Nat) : DWord := s.reg64 (iobPage d) (pinOff p)
def State.grpWord (s : State) (d g : Nat) : DWord := s.reg64 (iobPage d) (grpOff g)

/-- A pin is configured (R314): a pin word was loaded or written, and not released. -/
def State.pinIsSet (s : State) (d p : Nat) : Bool := tget (fun _ => false) s.pinSet (d * 64 + p)
def State.pinSetTo (s : State) (d p : Nat) (b : Bool) : State :=
  { s with pinSet := tset (fun _ => false) s.pinSet (d * 64 + p) b }

def pwPin (w : DWord) : Nat := dfld w 56 8
def pwRegion (w : DWord) : Nat := dfld w 52 4
def pwFunc (w : DWord) : Nat := dfld w 36 8
def pwLvds (w : DWord) : Bool := w.getLsbD 32
def pwDir (w : DWord) : Nat := dfld w 25 2
def gwFirst (w : DWord) : Nat := dfld w 46 6
def gwWlog (w : DWord) : Nat := dfld w 43 3
def gwMode (w : DWord) : Nat := dfld w 41 2
def gwDdr (w : DWord) : Bool := w.getLsbD 40
def gwAxis (w : DWord) : Nat := dfld w 38 2
def gwStampIn (w : DWord) : Bool := w.getLsbD 37
def gwRest (w : DWord) : Nat := dfld w 35 2
/-- Words per captured packet; 0 means 4,096. -/
def gwPkt (w : DWord) : Nat := if dfld w 23 12 = 0 then 4096 else dfld w 23 12

/-- Fields of a pin word and of a group word that are not reserved. -/
def pinMask (cap : Bool) : DWord := if cap then 0xFFFFCFF1FFFF0001#64 else 0xFFFFC001FFFF0001#64
def grpMask : DWord := 0xFFFFFFFFFF800000#64

/-- Function codes that a pin word may carry (Table 18-4): line triggers are set by the governor only. -/
def funcDefined (f : Nat) : Bool :=
  f == 0 || f == 1 || (0x10 ≤ f && f < 0x40 && !(0x20 ≤ f && f % 8 == 7)) || (0x40 ≤ f && f < 0x48)

/-- Reserved values of a pin word for pin p of die d (Table 18-1). -/
def pinWordOk (d p : Nat) (w : DWord) : Bool :=
  pwPin w == p && dfld w 30 2 != 3 && pwDir w != 3 && w &&& ~~~(pinMask (d == 0)) == 0
    && (if d = 0 then funcDefined (pwFunc w) && !pwLvds w && pwRegion w == 0 && decide (p < 64)
        else (!pwLvds w || p % 2 == 0) && decide (p < 48))

/-- Pins of a group's members (R430), the odd partners of LVDS pairs included. -/
def grpPins (w : DWord) (lvds : Bool) : List Nat :=
  (List.range (2 ^ gwWlog w)).flatMap fun i => if lvds then [gwFirst w + 2 * i, gwFirst w + 2 * i + 1] else [gwFirst w + i]

/-- A group word with pin words `pin` breaks no rule of Table 18-2 and R430. `ioOk` says that the I/O branch runs from
500 to 625 MHz. -/
def grpWordOk (pin : Nat → DWord) (ioOk : Bool) (w : DWord) : Bool :=
  let lvds := pwLvds (pin (gwFirst w))
  gwMode w == 0 ||
    (decide (gwWlog w ≤ 5) && gwRest w != 3 && w &&& ~~~grpMask == 0 && (gwMode w != 2 || ioOk)
      && (!lvds || gwFirst w % 2 == 0)
      && (List.range (2 ^ gwWlog w)).all fun i =>
        let p := gwFirst w + (if lvds then 2 * i else i)
        let x := pin p
        decide (p + b2n lvds ≤ 47) && pwPin x == p && pwRegion x == dfld w 52 4 && pwLvds x == lvds
          && pwDir x == (if gwMode w = 3 then 0 else 1))

/-! The I/O branch and its calibration (R221, R329, R434). -/

/-- IOSRC in MHz and IODIV of a sail's I/O branch. -/
def State.ioClock (s : State) (d : Nat) : Nat × Nat :=
  let c := s.reg (clkPage d) (islCtrl 17)
  (srcMHz (fld c 26 3), fld c 4 4)

/-- The branch runs from 500 to 625 MHz. -/
def State.ioStamps (s : State) (d : Nat) : Bool :=
  let x := s.ioClock d
  decide (500 * x.2 ≤ x.1 ∧ x.1 ≤ 625 * x.2)

/-- One I/O cycle as a fraction of 1/8 ns. -/
def State.tIo (s : State) (d : Nat) : Nat × Nat := let x := s.ioClock d; (8000 * x.2, max x.1 1)

/-- Sum of a moment and `n` times a duration; comparisons of moments. -/
def Moment.add (m : Moment) (n : Int) (t : Nat × Nat) : Moment := (m.1 * t.2 + n * t.1 * m.2, m.2 * t.2)
def Moment.lt (a b : Moment) : Bool := decide (a.1 * b.2 < b.1 * a.2)
def Moment.le (a b : Moment) : Bool := decide (a.1 * b.2 ≤ b.1 * a.2)
def Moment.max (a b : Moment) : Moment := if Moment.lt a b then b else a

/-- Now on a die's timebase copy. -/
def State.nowAt (s : State) (d : Nat) : Moment := (s.tbDie d, 1)

/-- t_0 of a die's calibration. -/
def State.t0At (s : State) (d : Nat) : Moment := ((tget (fun _ => (0 : Nat)) s.calT0 d : Nat), 128)

/-- Time of one beat and of one word of a group (R431). -/
def State.beatTime (s : State) (d : Nat) (w : DWord) : Nat × Nat := let t := s.tIo d; (t.1, if gwDdr w then 2 * t.2 else t.2)
def State.wordTime (s : State) (d : Nat) (w : DWord) : Nat × Nat :=
  let t := s.beatTime d w
  (t.1 * (32 / 2 ^ gwWlog w), t.2)

/-! Groups. -/

def State.grp (s : State) (d g : Nat) : Grp := tget (fun _ => Grp.reset) s.grps (d * 8 + g)
def State.setGrp (s : State) (d g : Nat) (x : Grp) : State :=
  { s with grps := tset (fun _ => Grp.reset) s.grps (d * 8 + g) x }

/-- Counters of a group: 0 DRIVEN, 1 LATE, 2 POISON, 3 UNDRIVEN, 4 OVERFLOW, 5 UNDERRUN (Table 18-9). -/
def State.grpBump (s : State) (d g which n : Nat) : State := s.bumpBy (iobPage d) (grpOff g + 0xC + 4 * which) n

/-- Events of an IOB page (Table 18-12). -/
def State.iobEvent (s : State) (d e mid low : Nat) : State :=
  s.raise (iobPage d) e (BitVec.ofNat 32 ((e + 1) * 2 ^ 24 + mid % 256 * 2 ^ 16 + low % 2 ^ 16)) 0

/-- Words a group buffers. -/
def Grp.stored (x : Grp) : Nat := (x.pkts.map fun p => p.stored).sum + x.stream.length

/-- A group as it stands now: STREAM words whose first beat slot has come have left its buffer (R432). -/
def State.grpNow (s : State) (d g : Nat) : Grp :=
  let x := s.grp d g
  { x with stream := x.stream.filter fun e => Moment.lt (s.nowAt d) e.2 }

/-- Words on the pins, or still to come there, and the last that has ended. -/
def State.beatsNow (s : State) (d : Nat) (w : DWord) (l : List (SWord × Moment)) : List (SWord × Moment) :=
  let ends := fun (e : SWord × Moment) => e.2.add 1 (s.wordTime d w)
  (l.filter fun e => Moment.le (ends e) (s.nowAt d)).getLast?.toList ++ l.filter fun e => Moment.lt (s.nowAt d) (ends e)

/-- The word on the pins now. -/
def State.beatWord (s : State) (d g : Nat) : Option (SWord × Moment) :=
  (s.grp d g).line.find? fun e =>
    Moment.le e.2 (s.nowAt d) && Moment.lt (s.nowAt d) (e.2.add 1 (s.wordTime d (s.grpWord d g)))

/-- `IOB.GRP_STAT[g]`. -/
def State.grpStat (s : State) (d g : Nat) : Word :=
  let x := s.grpNow d g
  let held := (x.pkts.filter fun p => p.first.isNone).length
  BitVec.ofNat 32 (min x.stored 2048 + min held 15 * 2 ^ 16 + b2n (x.pkts.any fun p => p.first.isSome) * 2 ^ 20)

/-- Every packet and word a group holds is discarded and counted undriven (R225, R433), a STREAM word in flight too (R447). -/
def State.grpDiscard (s : State) (d g : Nat) : State :=
  let x := s.grpNow d g
  let flight := if gwMode (s.grpWord d g) = 1 then (s.beatWord d g).toList.length else 0
  let t := s.grpBump d g 3 (x.pkts.length + x.stream.length + flight)
  let ended := (s.beatsNow d (s.grpWord d g) x.line).filter fun e =>
    Moment.le (e.2.add 1 (s.wordTime d (s.grpWord d g))) (s.nowAt d)
  t.setGrp d g { Grp.reset with inPkt := x.inPkt, rest := if x.inPkt then .drop else .none, line := ended }

/-- Groups of a sail that a test holds of. -/
def State.grpsWhere (s : State) (d : Nat) (q : DWord → Bool) : List Nat := (List.range 8).filter fun g => q (s.grpWord d g)

/-- The pins of a cleared region return to their brake state (R314, R436). -/
def State.regionPins (s : State) (r : Nat) : State :=
  let d := regionSail r
  (s.grpsWhere d fun w => gwMode w != 0 && dfld w 52 4 == r % 16).foldl (fun s g => s.grpDiscard d g) s

/-- The brake goes on for every sail user I/O until the next cap reset (R408, R436). -/
def State.brakeSails (s : State) : State :=
  let s := { s with braked := true }
  (List.range 8).foldl (fun s i => (List.range 8).foldl (fun s g => s.grpDiscard (i + 1) g) s) s

/-- The brake goes on for every pin, cap general I/O too (R296, R353, R436). -/
def State.brakePins (s : State) : State := { s.brakeSails with capBraked := true }

/-- Pins of a group lie in a VCCIO bank that has lost its supply (R433, R501). -/
def State.grpUnpowered (s : State) (d : Nat) (w : DWord) : Bool :=
  (grpPins w (pwLvds (s.pinWord d (gwFirst w)))).any fun p => s.board.vccioBad.getLsbD (d * 4 + p / 12)

/-- A group drives: no brake, its region ACTIVE, its pins powered. -/
def State.grpLive (s : State) (d g : Nat) : Bool :=
  let w := s.grpWord d g
  !s.braked && s.rgnActive (16 * (d - 1) + dfld w 52 4) && !s.grpUnpowered d w

/-! What a pin shows (R314, R435 to R438). -/

/-- Level of a pin as the device drives it. -/
inductive PinLevel where
  | hiz | pullDown | low | high | input
  /-- driven by the function that owns the pin, or by a group that holds a last beat it never had -/
  | driven
  deriving DecidableEq, Repr

/-- The other pin of an LVDS pair shows the opposite level (R435). -/
def PinLevel.partner : PinLevel → PinLevel
  | .low => .high
  | .high => .low
  | l => l

/-- The brake state of a pin's bank (R435). -/
def State.brakeLevel (s : State) (d p : Nat) : PinLevel :=
  match tget (fun _ => 0) s.fuses.brake (d * 4 + (if d = 0 then p / 16 else p / 12)) with
  | 0 => .pullDown
  | 1 => .low
  | 2 => .high
  | _ => if s.board.brksel.getLsbD d then .high else .low

/-- The pulse of a line trigger is on its pin: WIDTH ns from its firing, active-low with POL (R229, Table 9-10). -/
def State.trigLevel (s : State) (t : Nat) : PinLevel :=
  let width : Int := s.rfld govPage (0x20C + 0x20 * t) 0 16 * 8
  let now := s.tbDie 0
  let on := ((s.trig t).lastAt.map fun l => decide (l ≤ now) && decide (now < l + width)).getD false
  if on != s.rbit govPage (0x200 + 0x20 * t) 4 then .high else .low

/-- The level of member i of an output group (R430 to R432): its bit of the beat that is on the pins, else REST.
(DEDUCED, log entry 39.) -/
def State.groupLevel (s : State) (d g i : Nat) (inv : Bool) : PinLevel :=
  let gw := s.grpWord d g
  let width := 2 ^ gwWlog gw
  let shown := fun (w : SWord) (beat : Nat) => if (SWord.data w).getLsbD (width * beat + i) != inv then PinLevel.high else .low
  match s.beatWord d g with
  | some e =>
    let t := s.beatTime d gw
    let now := s.nowAt d
    shown e.1 ((now.1 * e.2.2 - e.2.1 * now.2) * t.2 / (t.1 * now.2 * e.2.2)).toNat
  | none =>
    match gwRest gw, ((s.grp d g).line.filter fun e => Moment.le e.2 (s.nowAt d)).getLast? with
    | 1, _ => if inv then .high else .low
    | 2, _ => if inv then .low else .high
    | _, some e => shown e.1 (32 / width - 1)
    | _, none => .driven

/-- Functions of cap pins that are inputs: RX and CTS of a UART, MISO of an SPI (Table 18-4). -/
def funcInput (f : Nat) : Bool :=
  (decide (0x10 ≤ f ∧ f < 0x20) && f % 2 == 1) || (decide (0x20 ≤ f ∧ f < 0x40) && f % 8 == 2)

/-- A pin with a word of its own: unpowered, braked, unconfigured, GPIO, or driven by its owner.
(DEDUCED, log entry 39.) -/
def State.pinOwn (s : State) (d p : Nat) : PinLevel :=
  let w := s.pinWord d p
  let groups := (List.range 8).filter fun g =>
    gwMode (s.grpWord d g) != 0 && (grpPins (s.grpWord d g) (pwLvds w)).contains p
  -- regions named in its word and in its group word (R436)
  let regions := (if s.pinIsSet d p then [pwRegion w] else []) ++ groups.map fun g => dfld (s.grpWord d g) 52 4
  let idle := regions.isEmpty || regions.any fun r => !s.rgnActive (16 * (d - 1) + r)
  let out := bit (s.reg (iobPage d) (if p < 32 then 0x50 else 0x5C)) (p % 32)
  let oe := bit (s.reg (iobPage d) (if p < 32 then 0x54 else 0x60)) (p % 32)
  if s.board.por || s.board.vccioBad.getLsbD (d * 4 + (if d = 0 then p / 16 else p / 12)) then .hiz
  else if (if d = 0 then s.capBraked || pwFunc w == 0 else s.braked || idle) then s.brakeLevel d p
  else if d = 0 ∧ 0x50 ≤ pwFunc w ∧ pwFunc w < 0x58 then s.trigLevel (pwFunc w - 0x50)
  else if d = 0 ∧ 2 ≤ pwFunc w then (if funcInput (pwFunc w) then .input else .driven)
  else if let g :: _ := groups then
    let i := p - gwFirst (s.grpWord d g)
    if gwMode (s.grpWord d g) = 3 then .input else s.groupLevel d g (if pwLvds w then i / 2 else i) (w.getLsbD 27)
  else match pwDir w with
    | 0 => .input
    | 1 => if out != w.getLsbD 27 then .high else .low
    | _ => if oe then (if out != w.getLsbD 27 then .high else .low) else .input

/-- A pin; the odd pin of an LVDS pair has no word of its own (R429). -/
def State.pinLevel (s : State) (d p : Nat) : PinLevel :=
  if d ≠ 0 ∧ p % 2 = 1 ∧ pwLvds (s.pinWord d (p - 1)) then (s.pinOwn d (p - 1)).partner else s.pinOwn d p

/-! Stamped output (R222 to R226). -/

/-- The predicted crossing of a target from a sample (R222): te + d/V exactly. -/
def crossingAt (target : BitVec 56) (x : AxSample) : Moment :=
  (x.te * x.vel + posDiff target x.pos * 524288000, x.vel.toNat)

/-- T_ARM, 32 ns. -/
def tArm : Nat × Nat := (256, 1)

/-- The judgement of R222 step 3 and R223: LATE (none), or HELD with the predicted crossing if there is one.
(DEDUCED, log entry 38.) -/
def State.judge (s : State) (d : Nat) (target : BitVec 56) (x : AxSample) : Option (Option Moment) :=
  if posDiff target x.pos ≤ 0 then none
  else if x.vel ≤ 0 then some none
  else
    let tp := crossingAt target x
    if Moment.lt tp ((s.nowAt d).add 1 tArm) then none else some (some tp)

/-- The CRC-64 of ECMA-182 over bytes, most significant bit first. -/
def crc64Step (c : DWord) : DWord := if c.getLsbD 63 then (c <<< 1) ^^^ 0x42F0E1EBA9EA3693#64 else c <<< 1
def crc64Byte (c : DWord) (b : Byte) : DWord := (List.range 8).foldl (fun c _ => crc64Step c) (c ^^^ (b.setWidth 64 <<< 56))
def crc64 (c : DWord) (l : List Byte) : DWord := l.foldl crc64Byte c

/-- `TWN.SPAN`; 0 means 2^24. -/
def State.spanSize (s : State) : Nat := let n := s.rfld twnPage 0x48 0 24; if n = 0 then 2 ^ 24 else n

/-- A driven packet enters its group's digest (R365), and counts as masked while OWN is low in a takeover (R369). -/
def State.driven (s : State) (d g : Nat) (p : StampPkt) : State :=
  let w := s.grpWord d g
  let id := 48 * (d - 1) + gwFirst w
  let s := s.grpBump d g 0 1
  let s := if s.twin.taking.isSome && !s.rbit twnPage 0x44 7 then s.bump twnPage 0x8C else s
  if gwAxis w = s.rfld twnPage 0x40 4 2 then
    let j := p.target.toNat / 256 / s.spanSize % 2 ^ 32
    let k := j * 512 + id
    let c := crc64 (tget (fun _ => 0#64) s.twin.crcs k)
      (natBytes 7 p.target.toNat ++ natBytes 2 id ++ p.words.flatMap fun x => wordBytes (SWord.data x))
    { s with twin := { s.twin with crcs := tset (fun _ => 0#64) s.twin.crcs k c
                                   packets := tset (fun _ => 0) s.twin.packets j (tget (fun _ => 0) s.twin.packets j + 1) } }
  else s

/-- A packet becomes LATE (R222, R223, R226). -/
def State.stampLate (s : State) (d g : Nat) : State := (s.grpBump d g 1 1).iobEvent d 0 g 0

/-- The full target of a stamp at an axis position, none outside the window (R35). -/
def stampTarget (w : SWord) (pos : BitVec 56) : Option (BitVec 56) :=
  let sv : BitVec 33 := (SWord.arg w).extractLsb' 2 1 ++ SWord.data w
  let dv := (sv - pos.extractLsb' 0 33).toInt
  if dv < -(2 ^ 31) ∨ 2 ^ 31 ≤ dv then none else some (pos + BitVec.ofInt 56 dv)

/-- A word of a packet that the group replaces by POISON, the `count`-th: the POISON word is made, counted and raised when
the packet's END arrives (R33, R222, R433). -/
def State.grpPoison (s : State) (d g cause count : Nat) (fin : Bool) : State :=
  if fin then (s.setGrp d g { s.grp d g with inPkt := false, rest := .none }).grpBump d g 2 1 |>.iobEvent d 1 g cause
  else s.setGrp d g { s.grp d g with inPkt := true, rest := .poison cause count }

/-- The first word of a packet at a stamped group (R37, R222). (DEDUCED, log entry 38.) -/
def State.stampFirst (s : State) (d g : Nat) (w : SWord) : State :=
  let gw := s.grpWord d g
  let x := s.grp d g
  let smp := s.delivered d (gwAxis gw)
  let fin := SWord.isEnd w
  let skip := fun (s : State) => s.setGrp d g { s.grp d g with inPkt := !fin, rest := if fin then .none else .drop }
  if SWord.isPoison w then skip (s.grpBump d g 2 1)
  else if !smp.valid then s.grpPoison d g 1 1 fin
  else if !SWord.isPos w then s.grpPoison d g 5 1 fin
  else if (SWord.arg w).toNat % 4 ≠ gwAxis gw then s.grpPoison d g 4 1 fin
  else match stampTarget w smp.pos with
    | none => s.grpPoison d g 1 1 fin
    | some t =>
      match s.judge d t smp with
      | none => skip (s.stampLate d g)
      | some tp =>
        if 2048 ≤ x.stored then skip ((s.grpBump d g 4 1).iobEvent d 2 g 0)
        else s.setGrp d g { x with inPkt := !fin, pkts := x.pkts ++ [⟨t, tp, [], 1, fin, none, false⟩] }

/-- A further word of a stamped packet: stored, or driven on if the packet already runs (R433). -/
def State.stampNext (s : State) (d g : Nat) (w : SWord) : State :=
  let gw := s.grpWord d g
  let x := s.grp d g
  let fin := SWord.isEnd w
  match x.rest, x.pkts.getLast? with
  | .drop, _ => s.setGrp d g { x with inPkt := !fin, rest := if fin then .none else .drop }
  | .poison cause count, _ => s.grpPoison d g cause (count + 1) fin
  | .none, none => s.setGrp d g { x with inPkt := !fin }
  | .none, some p =>
    let gone := fun (s : State) =>
      let y := s.grp d g
      s.setGrp d g { y with pkts := y.pkts.dropLast, inPkt := !fin, rest := if fin then .none else .drop }
    let data := SWord.kind w == 0#2 || SWord.kind w == 1#2
    if 2048 ≤ x.stored then
      gone (((s.setGrp d g { x with line := x.line.filter fun e => Moment.le e.2 (s.nowAt d) }).grpBump d g 4 1).iobEvent d 2 g 0)
    else
      let due := match p.first with
        | some (_, _, m) => m.add p.words.length (s.wordTime d gw)
        | none => (0, 1)
      if p.driving && data && Moment.lt due (s.nowAt d) then
        gone ((s.grpBump d g 5 1).iobEvent d 3 g p.words.length)
      else
        let s := if SWord.isPoison w then s.grpBump d g 2 1 else s
        let p' := { p with words := if data then p.words ++ [w] else p.words, stored := p.stored + 1, ended := fin }
        let busy := match p.first with
          | some (_, _, m) => Moment.max x.busy (m.add p'.words.length (s.wordTime d gw))
          | none => x.busy
        let x := if p.driving && data then { x with line := s.beatsNow d gw x.line ++ [(w, due)] } else x
        if p.driving && fin then
          (s.setGrp d g { x with pkts := x.pkts.dropLast, inPkt := false, busy := busy
                                 last := p'.words.getLast? }).driven d g p'
        else s.setGrp d g { x with pkts := x.pkts.dropLast ++ [p'], inPkt := !fin, busy := busy }

/-- A word reaches a group in STAMPED mode (R222). A group that does not drive discards the packet as undriven. -/
def State.stampArrive (s : State) (d g : Nat) (w : SWord) : State :=
  let x := s.grp d g
  if SWord.isIdle w || gwMode (s.grpWord d g) != 2 then s
  else if x.inPkt then s.stampNext d g w
  else if !s.grpLive d g then
    (s.grpBump d g 3 1).setGrp d g { x with inPkt := !SWord.isEnd w, rest := if SWord.isEnd w then .none else .drop }
  else s.stampFirst d g w

/-- A newly delivered sample at a group's HELD packets (R214, R223). (DEDUCED, log entry 38.) -/
def State.stampSample (s : State) (d g : Nat) : State :=
  let x := s.grp d g
  if gwMode (s.grpWord d g) != 2 then s
  else
    let smp := s.delivered d (gwAxis (s.grpWord d g))
    let keep := fun (p : StampPkt) => p.first.isSome || (smp.valid && (s.judge d p.target smp).isSome)
    let lost := x.pkts.filter fun p => !keep p
    let open_ := lost.any fun p => !p.ended
    let pkts := (x.pkts.filter keep).map fun p =>
      if p.first.isSome then p else { p with tp := (s.judge d p.target smp).getD none }
    let s := s.setGrp d g { x with pkts := pkts, rest := if open_ then .drop else x.rest }
    if smp.valid then lost.foldl (fun s _ => s.stampLate d g) s else s.grpBump d g 3 lost.length

/-- I/O cycle, tap and moment of a first word (R224): `t` is one I/O cycle, `nc` the taps in it.
(DEDUCED, log entry 38.) -/
def placeAt (tp t0 : Moment) (t : Nat × Nat) (nc : Nat) : Int × Nat × Moment :=
  let m : Int := tp.2 * t0.2 * t.1
  let x := (tp.1 * t0.2 - t0.1 * tp.2) * t.2
  let k := x / m
  let r := x - k * m
  let tap := ((2 * r * nc + m) / (2 * m)).toNat
  let kt := if tap = nc then (k + 1, 0) else (k, tap)
  (kt.1, kt.2, t0.add (kt.1 * nc + kt.2) (t.1, t.2 * nc))

/-- The HELD packet with the earliest predicted crossing: its place in arrival order. -/
def nextHeld (l : List StampPkt) : Option (Nat × Moment) :=
  (List.range l.length).foldl (fun b i => match l[i]? with
    | some p => match p.first, p.tp, b with
      | none, some m, some (j, n) => if Moment.lt m n then some (i, m) else some (j, n)
      | none, some m, none => some (i, m)
      | _, _, _ => b
    | none => b) none

/-- A HELD packet is committed (R224 to R226). (DEDUCED, log entry 38.) -/
def State.stampCommit (s : State) (d g : Nat) : State :=
  let x := s.grp d g
  let nc := s.rfld (iobPage d) 0x44 0 9
  match nextHeld x.pkts with
  | none => s
  | some (i, tp) =>
    if nc = 0 then s
    else match x.pkts[i]? with
    | none => s
    | some p =>
      let f := placeAt tp (s.t0At d) (s.tIo d) nc
      let before := (x.pkts.take i).any fun q => q.first.isNone
      if before || Moment.lt f.2.2 x.busy then
        (s.setGrp d g { x with pkts := x.pkts.eraseIdx i, rest := if p.ended then x.rest else .drop }).stampLate d g
      else
        s.setGrp d g { x with pkts := x.pkts.set i { p with first := some f }
                              busy := f.2.2.add p.words.length (s.wordTime d (s.grpWord d g)) }

/-- The words of a packet that begins go to the pins back to back (R432). -/
def State.beatsStart (s : State) (d g : Nat) (p : StampPkt) : List (SWord × Moment) :=
  let w := s.grpWord d g
  let m : Moment := match p.first with
    | some (_, _, m) => m
    | none => s.nowAt d
  s.beatsNow d w (s.grp d g).line ++ (List.range p.words.length).map fun i => (p.words.getD i 0, m.add i (s.wordTime d w))

/-- The committed edge and tap of the oldest packet come (R224): its first word is driven, the rest follow. -/
def State.driveStart (s : State) (d g : Nat) : State :=
  let x := s.grp d g
  match x.pkts with
  | p :: rest =>
    if p.first.isNone || p.driving then s
    else if p.ended then
      (s.setGrp d g { x with pkts := rest, last := p.words.getLast?, line := s.beatsStart d g p }).driven d g p
    else if p.words = [] then
      ((s.setGrp d g { x with pkts := rest, rest := .drop }).grpBump d g 5 1).iobEvent d 3 g 0
    else s.setGrp d g { x with pkts := { p with driving := true } :: rest, last := p.words.getLast?, line := s.beatsStart d g p }
  | [] => s

/-! STREAM and CAPTURE (R432, R433). -/

/-- The first beat slot at or after a moment. -/
def slotFrom (m t0 : Moment) (b : Nat × Nat) : Moment :=
  let den : Int := m.2 * t0.2 * b.1
  let x := (m.1 * t0.2 - t0.1 * m.2) * b.2
  t0.add (-((-x) / den)) b

/-- A word reaches a group in STREAM mode (R432). -/
def State.streamWord (s : State) (d g : Nat) (w : SWord) : State :=
  let gw := s.grpWord d g
  let x := s.grp d g
  let fin := SWord.isEnd w
  if SWord.isIdle w || gwMode gw != 1 then s
  else
    let now := s.nowAt d
    let live := x.stream.filter fun e => Moment.lt now e.2
    let cur := min x.curLen live.length
    let x := { x with stream := live, curLen := cur }
    if x.rest = .drop then s.setGrp d g { x with rest := if fin then .none else .drop }
    else if SWord.kind w == 0#2 || SWord.kind w == 1#2 then
      if !s.grpLive d g then (s.setGrp d g x).grpBump d g 3 1
      else if 2048 ≤ live.length then
        let keep := live.take (live.length - cur)
        let busy := (keep.getLast?.map fun e => e.2.add 1 (s.wordTime d gw)).getD now
        let line := x.line.filter fun e => !(live.drop (live.length - cur)).contains e
        ((s.setGrp d g { x with stream := keep, line := line, curLen := 0, busy := busy, rest := if fin then .none else .drop }).grpBump
          d g 4 1).iobEvent d 2 g 0
      else
        let at_ := slotFrom (Moment.max (now.add 2 (s.tIo d)) x.busy) (s.t0At d) (s.beatTime d gw)
        s.setGrp d g { x with stream := live ++ [(w, at_)], line := s.beatsNow d gw x.line ++ [(w, at_)], curLen := if fin then 0 else cur + 1, last := some w
                              busy := at_.add 1 (s.wordTime d gw) }
    else
      let s := if SWord.isPoison w then s.grpBump d g 2 1 else s
      s.setGrp d g { x with curLen := if fin then 0 else cur }

/-- The POS word that begins a captured packet (R432). -/
def posWordOf (axis : Nat) (pos : BitVec 56) (fin : Bool) : SWord :=
  mkWord (BitVec.ofNat 6 (b2n fin * 32 + 16 + b2n (pos.getLsbD 32) * 4 + axis)) (pos.extractLsb' 0 32)

/-- A capture group packs a word of sampled beats; the command comes at the word's first beat (R432, R433).
(DEDUCED, log entry 39.) -/
def State.captureWord (s : State) (d g : Nat) (v : Word) : State :=
  let gw := s.grpWord d g
  let x := s.grp d g
  if gwMode gw != 3 then s
  else
    let smp := s.delivered d (gwAxis gw)
    let stamp := gwStampIn gw && x.capCnt == 0
    let fin := decide (gwPkt gw ≤ x.capCnt + 1)
    let cnt := if fin then 0 else x.capCnt + 1
    let drop := if x.capCnt = 0 then gwStampIn gw && !smp.valid else x.capDrop
    if drop then
      let s := if x.capCnt = 0 then s.grpBump d g 4 1 else s
      s.setGrp d g { x with capCnt := cnt, capDrop := !fin }
    else
      let new := (if stamp then [posWordOf (gwAxis gw) smp.pos false] else []) ++ [mkWord (if fin then 0x20#6 else 0) v]
      if 64 < x.cap.length + new.length then
        let mine := min x.cap.length (x.capCnt + b2n (gwStampIn gw && x.capCnt != 0))
        (s.grpBump d g 4 1).setGrp d g { x with cap := x.cap.take (x.cap.length - mine), capCnt := cnt, capDrop := !fin }
      else s.setGrp d g { x with cap := x.cap ++ new, capCnt := cnt, capDrop := false }

/-! Calibration (R434). -/

/-- One calibration run. (DEDUCED, log entry 39.) -/
def State.calRun (s : State) (d : Nat) (lock : Bool) (nc : BitVec 9) (t0 : Word) : State :=
  let p := iobPage d
  if lock then
    let now := (s.tbDie d).toNat * 128
    let full := now / 2 ^ 32 * 2 ^ 32 + t0.toNat
    let s := ((s.setFld p 0x44 0 9 nc.toNat).setBit p 0x44 31 true).setReg p 0x48 t0
    { s with calT0 := tset (fun _ => 0) s.calT0 d (if now < full ∧ 2 ^ 32 ≤ full then full - 2 ^ 32 else full) }
  else (s.bumpFld p 0x44 24 7 1).iobEvent d 5 0 0

/-! Claims by firmware (R437, R438, R447). -/

/-- A claim is refused: CONFLICT, the page's refusal event, `DENIED`. -/
def State.pinRefuse (s : State) (d what owner : Nat) : State × Nat :=
  ((s.setBit (iobPage d) 0x0C 6 true).iobEvent d 4 what owner, stDenied)

/-- The pin belongs to a group that is not OFF, or is the odd partner of an LVDS pair, or carries a line trigger, or its
function signal is on another pin. (DEDUCED, log entry 39.) -/
def State.pinOwned (s : State) (d p : Nat) (w : DWord) : Bool :=
  if d = 0 then
    (decide (0x50 ≤ pwFunc (s.pinWord 0 p)) ||
      (decide (2 ≤ pwFunc w) && (List.range 64).any fun q => q != p && pwFunc (s.pinWord 0 q) == pwFunc w))
  else
    ((List.range 8).any fun g => gwMode (s.grpWord d g) != 0 &&
      (grpPins (s.grpWord d g) (pwLvds (s.pinWord d (gwFirst (s.grpWord d g))))).contains p)
    || (p % 2 == 1 && pwLvds (s.pinWord d (p - 1)))

/-- Firmware writes a pin word (R429, R437, R438), its reserved bits ignored (R6); the word 0 releases the pin. (DEDUCED, log entry 39.) -/
def State.pinWrite (s : State) (d p : Nat) (w : DWord) : State × Nat :=
  let w := w &&& pinMask true
  if !(if d = 0 then decide (p < 64) else decide (p < 48)) then (s, stOK)
  else if s.pinOwned d p w then s.pinRefuse d p (pwFunc (s.pinWord d p))
  else if w != 0 && !pinWordOk d p w then (s, stDenied)
  else (((s.setReg64 (iobPage d) (pinOff p) w).pinSetTo d p (w != 0)).setBit (iobPage d) 0x0C 6 false, stOK)

/-- A pin of the group lies in another group that is not OFF. -/
def State.grpClash (s : State) (d g : Nat) (w : DWord) : Bool :=
  (List.range 8).any fun h => h != g && gwMode (s.grpWord d h) != 0 &&
    (grpPins w (pwLvds (s.pinWord d (gwFirst w)))).any fun p =>
      (grpPins (s.grpWord d h) (pwLvds (s.pinWord d (gwFirst (s.grpWord d h))))).contains p

/-- Firmware writes a group word (R430, R437, R447), its reserved bits ignored (R6): OFF discards what the group holds. -/
def State.grpWrite (s : State) (d g : Nat) (w : DWord) : State × Nat :=
  let p := iobPage d
  let w := w &&& grpMask
  if gwMode w = 0 then
    (((s.grpDiscard d g).setGrp d g Grp.reset).setReg64 p (grpOff g) (w &&& grpMask), stOK)
  else if gwMode (s.grpWord d g) != 0 then ((s.iobEvent d 4 (0x80 + g) 0), stDenied)
  else if s.grpClash d g w then s.pinRefuse d (0x80 + g) 0
  else if pwPin w != 0x80 + g || !grpWordOk (s.pinWord d) (s.ioStamps d) w then (s, stDenied)
  else ((s.setReg64 p (grpOff g) w).setBit p 0x0C 6 false, stOK)

/-! Supplies (R314, R501). -/

/-- A VCCIO plane falls below 80 % of nominal: packets and words of groups with pins there are undriven. -/
def State.vccioLoss (s : State) (d b : Nat) : State :=
  let s := { s with board := { s.board with vccioBad := s.board.vccioBad ||| BitVec.ofNat 36 (2 ^ (d * 4 + b)) } }
  if d = 0 then s
  else (s.grpsWhere d fun w => gwMode w != 0 && s.grpUnpowered d w).foldl (fun s g => s.grpDiscard d g) s

def State.vccioReturn (s : State) (d b : Nat) : State :=
  { s with board := { s.board with vccioBad := s.board.vccioBad &&& ~~~(BitVec.ofNat 36 (2 ^ (d * 4 + b))) } }

/-- The brake fuses of a die's banks, as `IOB.BANK` shows them (R435, Table 18-9). -/
def State.iobFuses (s : State) (d : Nat) : Nat :=
  ((List.range 4).map fun b => tget (fun _ => 0) s.fuses.brake (d * 4 + b) % 4 * 4 ^ b).sum

/-- `IOB.BANK` (Table 18-9): brakes, VCCIO_OK and BRAKED per bank. -/
def State.iobBank (s : State) (d : Nat) : Word :=
  BitVec.ofNat 32 (s.iobFuses d + ((List.range 4).map fun b =>
     b2n (!s.board.vccioBad.getLsbD (d * 4 + b)) * 2 ^ (8 + b) + b2n (if d = 0 then s.capBraked else s.braked) * 2 ^ (12 + b)).sum)

/-! The commands. -/

/-- A sail by its index 0 to 7. -/
def sailDie (i : Fin 8) : Nat := i.val + 1

def execIoStampedArrive (d g : Fin 8) (w : SWord) (s : State) : Host.Outcome State Fault Refusal :=
  .next (s.stampArrive (sailDie d) g.val w)

def execStampCommit (d g : Fin 8) (s : State) : Host.Outcome State Fault Refusal := .next (s.stampCommit (sailDie d) g.val)

def execStampDriveStart (d g : Fin 8) (s : State) : Host.Outcome State Fault Refusal := .next (s.driveStart (sailDie d) g.val)

def execIoStreamWord (d g : Fin 8) (w : SWord) (s : State) : Host.Outcome State Fault Refusal :=
  .next (s.streamWord (sailDie d) g.val w)

def execIoCaptureWord (d g : Fin 8) (v : Word) (s : State) : Host.Outcome State Fault Refusal :=
  .next (s.captureWord (sailDie d) g.val v)

def execCalRun (d : Fin 8) (lock : Bool) (nc : BitVec 9) (t0 : Word) (s : State) : Host.Outcome State Fault Refusal :=
  .next (s.calRun (sailDie d) lock nc t0)

def execIobPinWrite (d : Fin 9) (p : Fin 64) (w : DWord) (s : State) : Host.Outcome State Fault Refusal :=
  let x := s.pinWrite d.val p.val w
  .next (x.1.reply x.2 [])

def execIobGrpWrite (d g : Fin 8) (w : DWord) (s : State) : Host.Outcome State Fault Refusal :=
  let x := s.grpWrite (sailDie d) g.val w
  .next (x.1.reply x.2 [])

def execVccioLoss (d : Fin 9) (b : Fin 4) (s : State) : Host.Outcome State Fault Refusal := .next (s.vccioLoss d.val b.val)

def execVccioReturn (d : Fin 9) (b : Fin 4) (s : State) : Host.Outcome State Fault Refusal := .next (s.vccioReturn d.val b.val)

end Sys2Proof.Machine
end

