-- ==== Sys2Proof/Machine/Triggers.lean ====
section
/-! DEFINITION. Line triggers (R220, R229 to R232) and the delivery of governor samples (R218). -/

namespace Sys2Proof.Machine

def ltOff (t off : Nat) : Nat := off + 0x20 * t
def State.ltCtrl (s : State) (t : Nat) : Word := s.reg govPage (ltOff t 0x200)
def State.ltAxis (s : State) (t : Nat) : Nat := fld (s.ltCtrl t) 2 2
/-- MODE: true in TIME mode. -/
def State.ltTime (s : State) (t : Nat) : Bool := bit (s.ltCtrl t) 1
def State.ltPin (s : State) (t : Nat) : Nat := fld (s.ltCtrl t) 8 6
def State.ltPitch (s : State) (t : Nat) : Nat := (s.reg govPage (ltOff t 0x204)).toNat
def State.ltPhase (s : State) (t : Nat) : Nat := (s.reg govPage (ltOff t 0x208)).toNat
def State.ltMingap (s : State) (t : Nat) : Nat := s.rfld govPage (ltOff t 0x20C) 16 16

/-- PITCH / VMAX of an axis in ns, and whether it is less than a MINGAP (R220). A VMAX of 0 passes. -/
def rateNs (pitch vmax : Nat) : Nat := pitch * 65536000 / vmax
def rateFails (pitch vmax mingap : Nat) : Bool := vmax != 0 && decide (pitch * 65536000 < mingap * vmax)

/-- `TRIG_REFUSED` (Table 9-11). (DEDUCED, log entry 37.) -/
def State.trigRefused (s : State) (t axis pitch : Nat) : State :=
  let vm := s.axVmax axis
  s.govEvent 9 t axis (if vm = 0 then 0xFFFF else min (rateNs pitch vm) 0xFFFF)

/-- The point of a trigger as a POS word goes to its GS source (R231). -/
def State.trigStamp (s : State) (t : Nat) (point : BitVec 56) : State :=
  if bit (s.ltCtrl t) 5 && !s.ltTime t then
    let x := s.trig t
    if x.source.length < 8 then s.setTrig t { x with source := x.source ++ [posWordOf (s.ltAxis t) point true] }
    else s.bump govPage (ltOff t 0x218)
  else s

/-- A trigger falls due at a time in 1/8 ns: it fires, or is suppressed less than MINGAP after the one before (R230).
(DEDUCED, log entry 37.) -/
def State.trigPulse (s : State) (t : Nat) (at_ : Int) (late : Bool) : State :=
  let x := s.trig t
  if (x.lastAt.map fun l => decide (at_ - l < 8 * s.ltMingap t)).getD false then
    (s.bumpFld govPage (ltOff t 0x214) 0 16 1).govEvent 7 t 0 0
  else
    let s := s.setTrig t { x with lastAt := some at_ }
    let s := s.bump govPage (ltOff t 0x210)
    let s := if late then (s.bumpFld govPage (ltOff t 0x214) 16 16 1).govEvent 8 t 0 0 else s
    match x.point with
    | some p => s.trigStamp t p
    | none => s

/-- The point advances by PITCH, with no time predicted for it yet. (DEDUCED, log entry 37.) -/
def State.trigNext (s : State) (t : Nat) : State :=
  let x := s.trig t
  s.setTrig t { x with point := x.point.map fun p => p + BitVec.ofNat 56 (s.ltPitch t), tp := none, fixed := false }

/-- The time of the present point is committed: it was predicted, and T_ARM before it has come (R230). -/
def State.trigFixed (s : State) (t : Nat) : Bool :=
  let x := s.trig t
  x.fixed || (x.tp.map fun tp => decide (tp - 256 ≤ 8 * (s.tbNs : Int))).getD false

/-- The crossing of the present point is predicted from a sample, to the nearest nanosecond; it is fixed once it lies within
T_ARM (R230). Points already reached fire at once; `fuel` bounds them. -/
def State.trigPredict (s : State) (t : Nat) (smp : AxSample) : Nat → State
  | 0 => s
  | fuel + 1 =>
    let x := s.trig t
    match x.point with
    | none => s
    | some p =>
      if s.trigFixed t then s.setTrig t { x with fixed := true }
      else if posDiff p smp.pos ≤ 0 then ((s.trigPulse t (8 * s.tbNs : Nat) true).trigNext t).trigPredict t smp fuel
      else if smp.vel ≤ 0 then s.setTrig t { x with tp := none }
      else
        let m := crossingAt p smp
        let tp := (m.1 + m.2 * 4) / (m.2 * 8) * 8
        s.setTrig t { x with tp := some tp, fixed := decide (tp - 256 ≤ 8 * (s.tbNs : Int)) }

/-- A position trigger meets a delivered sample of its axis (R214, R229, R230). -/
def State.trigSample (s : State) (t : Nat) : State :=
  if !s.ltEnabled t || s.ltTime t then s
  else
    let smp := s.delivered 0 (s.ltAxis t)
    let x := s.trig t
    if !smp.valid then s.setTrig t { x with point := none, tp := none, fixed := false }
    else
      let s := match x.point with
        | some _ => s
        | none => s.setTrig t { x with point := some (nextPoint (s.ltPhase t) (s.ltPitch t) smp.pos), tp := none, fixed := false }
      s.trigPredict t smp 4096

/-- A trigger is disabled: its pin is free again (R437). -/
def State.ltStop (s : State) (t : Nat) : State :=
  let p := s.ltPin t
  let s := if s.ltEnabled t && pwFunc (s.pinWord 0 p) == 0x50 + t then
      s.setReg64 (iobPage 0) (pinOff p) (s.pinWord 0 p &&& ~~~(0xFF000000000#64))
    else s
  (s.setBit govPage (ltOff t 0x200) 0 false).setTrig t { Trigger.reset with source := (s.trig t).source }

/-- Fields of `GOV.LT_CTRL[t]` beside ENABLE. -/
def ltMask : Word := 0x3F3E#32

/-- A write to `GOV.LT_CTRL[t]` (R220, R229, R232). While a trigger runs, PIN, AXIS and MODE keep their values; STAMP_EN
and POL are written, and ENABLE = 0 stops it. (DEDUCED, log entry 37.) -/
def State.ltWrite (s : State) (t : Nat) (w : Word) : State × Nat :=
  if s.ltEnabled t then
    let s := s.setFld govPage (ltOff t 0x200) 4 2 (fld w 4 2)
    (if bit w 0 then s else s.ltStop t, stOK)
  else
    let s := s.setReg govPage (ltOff t 0x200) (w &&& ltMask)
    let pitch := s.ltPitch t
    if !bit w 0 || pitch == 0 then (s, stOK)
    else if pwFunc (s.pinWord 0 (s.ltPin t)) != 0 then
      ((s.setBit govPage 0x0C 6 true).trigRefused t (s.ltAxis t) pitch, stDenied)
    else if !s.ltTime t && rateFails pitch (s.axVmax (s.ltAxis t)) (s.ltMingap t) then
      (s.trigRefused t (s.ltAxis t) pitch, stDenied)
    else
      let p := s.ltPin t
      let s := s.setReg64 (iobPage 0) (pinOff p)
        ((s.pinWord 0 p &&& ~~~(0xFF000000000#64)) ||| BitVec.ofNat 64 ((0x50 + t) * 2 ^ 36))
      let s := (s.setBit govPage 0x0C 6 false).setBit govPage (ltOff t 0x200) 0 true
      let s := s.setTrig t { Trigger.reset with source := (s.trig t).source, next := s.tbNs + pitch }
      (s.trigSample t, stOK)

/-- A predicted crossing or a TIME pitch comes (R229, R230). -/
def State.trigFire (s : State) (t : Nat) : State :=
  let x := s.trig t
  if !s.ltEnabled t then s
  else if s.ltTime t then
    (s.trigPulse t (8 * x.next : Nat) false).setTrig t
      { (s.trigPulse t (8 * x.next : Nat) false).trig t with next := x.next + s.ltPitch t }
  else match x.tp with
    | some tp => (((s.trigPulse t tp false).trigNext t).trigSample t)
    | none => s

/-- The rate test of an enabled trigger at a load's activation (R220). -/
def State.trigRetest (s : State) (t : Nat) : State :=
  if s.ltEnabled t && !s.ltTime t && rateFails (s.ltPitch t) (s.axVmax (s.ltAxis t)) (s.ltMingap t) then
    (s.trigRefused t (s.ltAxis t) (s.ltPitch t)).ltStop t
  else s

/-- A governor sample becomes the position as delivered on a die (R218): to the sequencers of its regions, the gates of
its queues, its stamped groups, and on the cap the line triggers. -/
def State.sampleDelivery (s : State) (d : Nat) : State :=
  match tget (fun _ => []) s.samples d with
  | [] => s
  | g :: rest =>
    -- the gates' test under the position delivered so far comes first (R193)
    let gates := fun (s : State) => (s.atts.filter fun e => attDie e.1 == d).foldl (fun s e => s.gateRelease e.1) s
    let s := gates s
    let s := { s with samples := tset (fun _ => []) s.samples d rest
                      sampled := tset (fun _ => GovSample.reset) s.sampled d g }
    let s := gates s
    if d = 0 then (List.range 8).foldl (fun s t => s.trigSample t) s
    else
      let s := (List.range 16).foldl (fun s i =>
        let r := 16 * (d - 1) + i
        let x := s.delivered d (s.seqAxis r)
        s.seqPosition r x.valid x.pos) s
      (List.range 8).foldl (fun s g => s.stampSample d g) s

/-! The commands. -/

def execSampleDelivery (d : Fin 9) (s : State) : Host.Outcome State Fault Refusal := .next (s.sampleDelivery d.val)

def execLtEnable (t : Fin 8) (w : Word) (s : State) : Host.Outcome State Fault Refusal :=
  let x := s.ltWrite t.val w
  .next (x.1.reply x.2 [])

def execTriggerFire (t : Fin 8) (s : State) : Host.Outcome State Fault Refusal := .next (s.trigFire t.val)

end Sys2Proof.Machine
end

