-- ==== Sys2Proof/Machine/Twin.lean ====
section
/-! DEFINITION. The twin pair: ownership wires, roles, the fantail, mirroring, digests, takeover, joining (15_twin, R349 to
R376). -/

namespace Sys2Proof.Machine

/-! The TWN page. -/

def State.setTwin (s : State) (x : Twin) : State := { s with twin := x }

/-- Events of the TWN page (Table 15-12). -/
def State.twnEvent (s : State) (e mid low : Nat) : State :=
  s.raise twnPage e (BitVec.ofNat 32 ((e + 1) * 2 ^ 24 + mid % 256 * 2 ^ 16 + low % 2 ^ 16)) 0

def State.ftLink (s : State) : Nat := s.rfld twnPage 0x44 4 2
/-- UP4 or UP2. -/
def State.ftUp (s : State) : Bool := decide (2 ≤ s.ftLink)
def State.own (s : State) : Bool := s.rbit twnPage 0x44 7
def State.peerOwn (s : State) : Bool := s.rbit twnPage 0x44 8
def State.twnAxis (s : State) : Nat := s.rfld twnPage 0x40 4 2
/-- MODE LOCKSTEP. -/
def State.lockstep (s : State) : Bool := s.rfld twnPage 0x40 1 2 == 1
def State.switching (s : State) : Bool := s.rbit twnPage 0x44 12

/-- Roles (Table 15-4). -/
def roOff : Nat := 0
def roOwner : Nat := 1
def roStandby : Nat := 2
def roJoining : Nat := 3
def roDetached : Nat := 4
def roFailed : Nat := 5

/-- The delivered position of AXIS on the cap. -/
def State.twnPos (s : State) : BitVec 56 := (s.delivered 0 s.twnAxis).pos

/-! Sending (R355 to R357). -/

/-- The first 124 bytes of a message (Table 15-2); ACKV goes with the ACK. -/
def FtMsg.head (m : FtMsg) : List Byte :=
  natBytes 1 m.type.toNat ++ natBytes 1 (b2n m.ack.isSome) ++ natBytes 2 m.seq.toNat
    ++ natBytes 2 ((m.ack.getD 0).toNat) ++ natBytes 2 m.payload.length ++ natBytes 8 m.ts.toNat
    ++ (m.payload ++ List.replicate (104 - m.payload.length) 0#8) ++ natBytes 4 0

/-- The 128 bytes of a message on the fantail. -/
def FtMsg.bytes (m : FtMsg) : List Byte := FtMsg.head m ++ wordBytes (crc32 (FtMsg.head m))

/-- A message leaves: reliable ones take the next SEQ, wait while 256 are unacknowledged, and are kept until acknowledged.
(DESIGN CHOICE, log entry 71.) -/
def State.ftSend (s : State) (type : Nat) (reliable : Bool) (payload : List Byte) : State :=
  if !s.ftUp then s
  else
    let x := s.twin
    let m : FtMsg := ⟨BitVec.ofNat 8 type, if reliable then x.nextSeq else 0, x.rxSeq, BitVec.ofNat 64 s.tbNs, payload⟩
    if reliable then
      if 256 ≤ x.unacked.length then s.setTwin { x with waiting := x.waiting ++ [m], nextSeq := x.nextSeq + 1 }
      else s.setTwin { x with unacked := x.unacked ++ [m], nextSeq := x.nextSeq + 1, sent := some m }
    else s.setTwin { x with sent := some m }

/-- HELLO (R356): TWIN_ID, ROLE, MODE, AXIS, SPAN, image hash. -/
def State.sendHello (s : State) : State :=
  if s.role = roFailed then s
  else s.ftSend 1 false (natBytes 1 (b2n s.board.twinId) ++ natBytes 1 s.role ++ natBytes 1 (s.rfld twnPage 0x40 1 2)
    ++ natBytes 1 s.twnAxis ++ natBytes 4 (s.rfld twnPage 0x48 0 24) ++ wordBytes (s.reg twnPage 0x78)
    ++ wordBytes (s.reg twnPage 0x7C))

/-- BEAT: ROLE, OWN, PEER_OWN, TS and arrival of the last BEAT received. -/
def State.sendBeat (s : State) : State :=
  let b := s.twin.beat.getD (0, 0)
  s.ftSend 2 false (natBytes 1 s.role ++ natBytes 1 (b2n s.own) ++ natBytes 1 (b2n s.peerOwn) ++ natBytes 8 b.1 ++ natBytes 8 b.2)

/-- POSCHK: each axis's position, state and newest edge. -/
def State.sendPoschk (s : State) : State :=
  s.ftSend 3 false ((List.range 4).flatMap fun a =>
    let x := s.axSample a
    natBytes 7 x.pos.toNat ++ natBytes 1 x.state.toNat ++ natBytes 8 (BitVec.ofInt 64 (x.te / 8)).toNat)

/-- A span of bytes cut into pieces of `n`, with each piece's offset. (DESIGN CHOICE, log entry 71.) -/
def pieces (n : Nat) : Nat → Nat → List Byte → List (Nat × List Byte)
  | 0, _, _ => []
  | fuel + 1, off, l => if l.length ≤ n then [(off, l)] else (off, l.take n) :: pieces n fuel (off + n) (l.drop n)

/-- A mirrored packet goes out in MIRQ messages of up to twelve words (R361); an empty one is a flush request.
(DESIGN CHOICE, log entry 71.) -/
def State.sendMirq (s : State) (q : Nat) (ws : List SWord) : State :=
  if ws = [] then s.ftSend 5 true (natBytes 4 (2 ^ 31 + q) ++ natBytes 4 0)
  else (pieces 96 512 0 (ws.flatMap entryBytes)).foldl
    (fun s x => s.ftSend 5 true (natBytes 4 q ++ natBytes 4 (x.2.length / 8) ++ x.2)) s

/-- Packets handed to TWN are sent in storage order (R361). -/
def State.mirrorPump (s : State) : State :=
  let l := s.mirrorOut
  l.foldl (fun s x => s.sendMirq x.1 x.2) { s with mirrorOut := [] }

/-- A record committed to the owner's settings area is sent in GRAN messages (R363). (DESIGN CHOICE, log entry 71.) -/
def State.sendGran (s : State) (id : Word) (data : List Byte) : State :=
  if s.role = roOwner then
    (pieces 92 46 0 data).foldl (fun s x =>
      s.ftSend 7 true (wordBytes id ++ natBytes 4 x.1 ++ natBytes 4 (b2n (decide (data.length ≤ x.1 + x.2.length))) ++ x.2)) s
  else s

/-! Ownership (R351, R352, R359). -/

/-- The role changes and HELLO goes out (R356). -/
def State.setRole (s : State) (r : Nat) : State :=
  if s.role = r then s else (s.setFld twnPage 0x44 0 3 r).sendHello

/-- OWN falls under R351: FAIL goes to the partner with its cause. (DEDUCED, log entry 69.) -/
def State.ownDrop (s : State) (cause : Nat) : State :=
  let was := s.own
  let s := (s.setBit twnPage 0x44 7 false).setTwin { s.twin with raising := false }
  if was then s.ftSend 8 false (natBytes 4 cause) else s

/-- OWN falls under R351 and the package, unless it is OFF, enters FAILED (Table 15-4). (DEDUCED, log entry 69.) -/
def State.ownFail (s : State) (cause : Nat) : State :=
  let s := s.ownDrop cause
  if s.role = roOff then s
  else (s.setFld twnPage 0x44 0 3 roFailed).setTwin { s.twin with taking := none, awaiting := false, step := 0 }

/-- OWN falls because the role leaves OWNER in a planned switch, or to OFF. -/
def State.ownLower (s : State) : State := (s.setBit twnPage 0x44 7 false).setTwin { s.twin with raising := false }

/-- The package enters FAILED: braked, OWN low (R351, R353). -/
def State.twnFailed (s : State) (cause : Nat) : State :=
  let s := (s.brakePins).ownDrop cause
  (s.setFld twnPage 0x44 0 3 roFailed).setTwin { s.twin with taking := none, awaiting := false, step := 0 }

/-- The package becomes OWNER and waits to raise OWN (R352). -/
def State.becomeOwner (s : State) : State :=
  (s.setRole roOwner).setTwin { (s.setRole roOwner).twin with raising := true, awaiting := false, step := 0 }

def State.becomeJoining (s : State) : State :=
  (s.setRole roJoining).setTwin { (s.setRole roJoining).twin with awaiting := false, step := 1, tries := 0, agree := 0
                                                                  firstSpan := none, differ := 0, aligned := [] }

def State.detach (s : State) : State :=
  (s.setRole roDetached).setTwin { (s.setRole roDetached).twin with step := 0, taking := none }

/-- A join step fails (R372). -/
def State.joinFail (s : State) (step : Nat) : State := (s.twnEvent 9 step 0).detach

/-- The join ends (R372). -/
def State.joinDone (s : State) : State :=
  let s := (s.twnEvent 8 0 0).setRole roStandby
  s.setTwin { s.twin with step := 0, differ := 0 }

/-! The link (R354, R357). -/

/-- The fantail goes DOWN (R357, R374): a STANDBY package is detached, a join fails; SEQ starts at 1 again when the link
returns. (DESIGN CHOICE, log entry 71.) -/
def State.fantailDown (s : State) (cause : Nat) : State :=
  if s.ftLink = 0 then s
  else
    let s := ((s.setFld twnPage 0x44 4 2 0).setBit twnPage 0x44 6 false).twnEvent 6 cause 0
    let s := s.setTwin { s.twin with unacked := [], waiting := [], resends := 0, nextSeq := 1, rxSeq := none, beat := none }
    if s.role = roStandby && s.twin.taking.isNone then s.detach
    else if s.role = roJoining then s.joinFail s.twin.step
    else s

/-- Fantail training ends (R354). -/
def State.fantailTrained (s : State) (locked : BitVec 4) : State :=
  if !s.rbit twnPage 0x40 0 || s.ftUp then s
  else
    let lk := if locked = 15#4 then 2 else if locked = 3#4 ∧ s.rbit twnPage 0x40 6 then 3 else 0
    if lk = 0 then (s.setFld twnPage 0x44 4 2 1).fantailDown 3
    else (s.setFld twnPage 0x44 4 2 lk).twnEvent 7 lk 0

/-- An ACK arrives: messages up to it are acknowledged, and waiting ones go out. -/
def State.ftAck (s : State) (a : BitVec 16) : State :=
  let x := s.twin
  let left := x.unacked.filter fun m => decide (0 < (m.seq - a).toInt)
  let all := left ++ x.waiting
  s.setTwin { x with unacked := all.take 256, waiting := all.drop 256
                     resends := if left.length < x.unacked.length then 0 else x.resends }

/-- A message is received (R357): none when it is discarded. Reliable ones are taken in SEQ order only. -/
def State.ftTake (s : State) (h : FtHead) (reliable : Bool) : State × Bool :=
  if !s.ftUp then (s, false)
  else if !h.crcOk then (s.bump twnPage 0x98, false)
  else
    let s := match h.ack with
      | some a => s.ftAck a
      | none => s
    if reliable then
      if h.seq = (match s.twin.rxSeq with | some q => q + 1 | none => 1#16) then
        let s := s.setTwin { s.twin with rxSeq := some h.seq }
        (s, true)
      else (s, false)
    else (s, true)

/-- Step 3 of a join ends when live reliable traffic follows the STATE messages (R372). (DEDUCED, log entry 72.) -/
def State.joinLive (s : State) : State :=
  if s.role = roJoining ∧ s.twin.step = 3 then s.setTwin { s.twin with step := 4, tries := 0 } else s

/-- The oldest reliable message has gone 4 µs without acknowledgement (R357). -/
def State.ftResend (s : State) : State :=
  let x := s.twin
  match x.unacked.getLast? with
  | none => s
  | some m =>
    let s := (s.bumpBy twnPage 0x9C x.unacked.length).setTwin { x with resends := x.resends + 1, sent := some m }
    if 8 ≤ x.resends + 1 then s.fantailDown 2 else s

/-! HELLO and roles (R360, R372). -/

/-- What the joining package's data need, sent by the owner in STATE messages (R372 step 3): settings sectors in use, and
the descriptors and ring contents of mirrored queues. (DESIGN CHOICE, log entry 71.) -/
def State.sendState (s : State) : State :=
  let put := fun (s : State) (a n : Nat) =>
    (pieces 96 ((n + 95) / 96) 0 (s.readBytes a n)).foldl (fun s x => s.ftSend 10 true (natBytes 8 (a + x.1) ++ x.2)) s
  let s := (s.grn.usedOf 1).foldl (fun s n => put s (flashBase + n * sectorSize) sectorSize) s
  ((List.range 64).filter fun k => s.rbit twnPage (0x100 + 4 * k) 31).foldl (fun s k =>
    let q := s.rfld twnPage (0x100 + 4 * k) 0 20
    let d := s.desc q
    let s := s.ftSend 10 true (natBytes 8 (descAddr q) ++ d.shown.bytes)
    (List.range d.ringCount).foldl (fun s i => put s (d.slotAddr (d.rd.toNat + i)) 64) s) s

/-- Steps 1 and 2 of a join, on what the partner's last HELLO told (R372). The lists of mirrored queues are in no message
and stay uncompared. (DESIGN CHOICE, log entry 72.) -/
def State.joinHello (s : State) : State :=
  match s.twin.peer with
  | some (_, _, mode, axis, span) =>
    if s.role ≠ roJoining ∨ s.twin.step = 0 ∨ 2 < s.twin.step then s
    else if s.reg64 twnPage 0x80 ≠ s.reg64 twnPage 0x78 then s.joinFail 1
    else if mode ≠ s.rfld twnPage 0x40 1 2 ∨ axis ≠ s.twnAxis ∨ span ≠ s.rfld twnPage 0x48 0 24 then s.joinFail 2
    else s.setTwin { s.twin with step := 3 }
  | none => s

/-- HELLO arrives (R360, R372). -/
def State.helloRx (s : State) (h : FtHead) (id : Bool) (role mode axis span : Nat) (hash : DWord) : State :=
  let r := s.ftTake h false
  if !r.2 then r.1
  else
    let s := (r.1.setBit twnPage 0x44 6 true).setReg64 twnPage 0x80 hash
    let newJoin := role == roJoining && (s.twin.peer.map fun p => p.2.1) != some roJoining
    let s := s.setTwin { s.twin with peer := some (id, role, mode, axis, span) }
    if s.twin.awaiting ∧ s.role = roOff then
      if role = roOwner then s.becomeJoining.joinHello
      else if !s.board.twinId then s.becomeOwner else s.becomeJoining.joinHello
    else if s.role = roJoining then s.joinHello
    else if s.role = roOwner ∧ newJoin then s.sendState
    else s

/-- No HELLO within 100 ms of ENABLE (R360). -/
def State.helloTimeout (s : State) : State :=
  if s.twin.awaiting ∧ s.role = roOff then (s.setBit twnPage 0x44 6 false).becomeOwner else s

/-- A BEAT arrives (R358): `echo` holds TS and the partner's arrival time of the BEAT that it echoes. -/
def State.beatRx (s : State) (h : FtHead) (echoTs echoAt : DWord) : State :=
  let r := s.ftTake h false
  if !r.2 then r.1
  else
    let s := r.1.setBit twnPage 0x44 6 true
    let t2 : Int := s.tbNs
    let o := (((echoAt.toNat : Int) - echoTs.toNat) - (t2 - (h.ts.toNat : Int))).tdiv 2
    let l := (o :: s.twin.offsets).take 64
    let s := s.setTwin { s.twin with beat := some (h.ts.toNat, s.tbNs), offsets := l }
    s.setReg twnPage 0x60 (BitVec.ofInt 32 ((l.foldl (· + ·) 0).tdiv l.length))

/-! Position agreement (R364, R373). -/

def State.tbOfs (s : State) : Int := (s.reg twnPage 0x60).toInt

/-- Known edges of an axis: the newest and those of the velocity history, with their published positions. -/
def State.axEdges (s : State) (a : Nat) : List (Int × BitVec 56) :=
  let x := s.axis a
  (x.te, published x.pe) :: x.hist.map fun e => (e.1, published e.2)

/-- The position of the edge nearest a time. -/
def nearestEdge (t : Int) : List (Int × BitVec 56) → Option (Int × BitVec 56)
  | [] => none
  | e :: l => match nearestEdge t l with
    | some f => if (f.1 - t).natAbs < (e.1 - t).natAbs then some f else some e
    | none => some e

/-- Difference of the partner's position from the own one at its edge, in 1/256 count. -/
def State.posGap (s : State) (a : Nat) (x : PosCheck) : Nat :=
  match nearestEdge (8 * ((x.te.toNat : Int) - s.tbOfs)) (s.axEdges a) with
  | some e => (posDiff x.pos e.2).natAbs
  | none => 0

/-- A difference found twice in a row is resolved by Table 15-5. -/
def State.posResolve (s : State) (ownerValid standbyValid : Bool) : State :=
  if ownerValid then (if s.role = roStandby then s.detach else s)
  else if standbyValid ∧ s.role = roOwner then s.twnFailed 0x100
  else s

/-- Step 4 of a join at one axis (R373): the axis is referenced from a single local edge within 8 ns. -/
def State.alignAxis (s : State) (a : Nat) (x : PosCheck) : State × Bool :=
  let t := 8 * ((x.te.toNat : Int) - s.tbOfs)
  let l := ((s.axEdges a).eraseDups).filter fun e => decide ((e.1 - t).natAbs ≤ 64)
  match l with
  | [e] =>
    let ref := x.pos + (published (s.axis a).pos - e.2)
    let w : BitVec 64 := ref ++ 0#8
    (((s.setReg govPage (axOff a 0x110) (ref.extractLsb' 0 32)).setReg govPage (axOff a 0x114)
      ((ref.extractLsb' 32 24).setWidth 32)).axReference a w (8 * (s.tbNs : Int)), true)
  | _ => (s, false)

/-- The join's steps 4 to 6 at a POSCHK (R372, R373). The owner's SCALE and DIR are in no message and stay uncompared.
(DESIGN CHOICE, log entry 72.) -/
def State.joinPoschk (s : State) (axes : Nat → PosCheck) : State :=
  match s.twin.step with
  | 4 =>
    let todo := (List.range 4).filter fun a => (axes a).state == 2#2 && !s.twin.aligned.contains a
    if todo.any fun a => s.axState a != 1 || s.axRefMode a != 0 then s.joinFail 4
    else
      let s := todo.foldl (fun s a =>
        let x := s.alignAxis a (axes a)
        if x.2 then x.1.setTwin { x.1.twin with aligned := a :: x.1.twin.aligned } else x.1) s
      if todo.all s.twin.aligned.contains then s.setTwin { s.twin with step := 5, agree := 0 }
      else if 1000 ≤ s.twin.tries then s.joinFail 4
      else s.setTwin { s.twin with tries := s.twin.tries + 1 }
  | 5 =>
    if s.rfld twnPage 0x4C 0 16 * 256 < s.posGap s.twnAxis (axes s.twnAxis) then s.joinFail 5
    else if 2 ≤ s.twin.agree then s.setTwin { s.twin with step := 6, agree := 0, warmFrom := s.twnPos }
    else s.setTwin { s.twin with agree := s.twin.agree + 1 }
  | 6 =>
    if (s.reg twnPage 0x50).toNat * 256 ≤ (posDiff s.twnPos s.twin.warmFrom).toNat then
      if s.lockstep then
        s.setTwin { s.twin with step := 7, firstSpan := some ((s.twnPos.toNat / 256 / s.spanSize + 1) % 2 ^ 32) }
      else s.joinDone
    else s
  | _ => s

/-- POSCHK arrives (R364). -/
def State.poschkRx (s : State) (h : FtHead) (axes : Nat → PosCheck) : State :=
  let r := s.ftTake h false
  if !r.2 then r.1
  else
    let s := r.1
    let a := s.twnAxis
    let x := axes a
    let mine := s.axState a == 2
    let theirs := x.state == 2#2
    let gap := s.posGap a x
    let bad := decide (s.rfld twnPage 0x4C 0 16 * 256 < gap)
    if s.role = roJoining then s.joinPoschk axes
    else if (s.role = roOwner ∨ s.role = roStandby) ∧ bad then
      if s.twin.differ = 0 then s.setTwin { s.twin with differ := 1 }
      else
        let s := ((s.setTwin { s.twin with differ := 0 }).bump twnPage 0x94).twnEvent 5 a (min (gap / 256) 0xFFFF)
        if s.role = roOwner then s.posResolve mine theirs else s.posResolve theirs mine
    else s.setTwin { s.twin with differ := 0 }

/-! Spans (R362, R365, R366). -/

/-- The package compares digests: as STANDBY, or in step 7 of a join from its first whole span on (R366, R372). -/
def State.comparesSpan (s : State) (span : Nat) : Bool :=
  s.role == roStandby ||
    (s.role == roJoining && s.twin.step == 7 && (s.twin.firstSpan.map fun f => decide (f ≤ span)).getD false)

/-- A digest differs or is missing (R366); no detaching in the middle of a takeover (R374). -/
def State.digestBad (s : State) (span : Nat) : State :=
  if !s.comparesSpan span then s
  else
  let s := (s.bump twnPage 0x90).twnEvent 4 0 span
  if s.role = roJoining then s.joinFail 7
  else if s.lockstep && s.role == roStandby && s.twin.taking.isNone then s.detach
  else s

/-- Own and partner's digest of a span meet. -/
def State.digestMeet (s : State) (span : Nat) : State :=
  match tget (fun _ => none) s.twin.closed span, tget (fun _ => none) s.twin.digests span with
  | some c, some d =>
    let s := s.setTwin { s.twin with closed := tset (fun _ => none) s.twin.closed span none
                                     digests := tset (fun _ => none) s.twin.digests span none }
    if c = d.1 then
      if !s.comparesSpan span then s
      else
        let s := s.setReg twnPage 0x88 (BitVec.ofNat 32 span)
        if s.role = roJoining then s.joinDone else s
    else s.digestBad span
  | _, _ => s

/-- The standby compares the owner's delivered counts of a span with its own (R362). -/
def State.countsMeet (s : State) : State :=
  let x := s.twin
  if s.role = roStandby ∧ x.counts.1 = x.ckpts.1 then
    let bad := x.ckpts.2.filter fun e => x.counts.2.any fun f => f.1 == e.1 && f.2 != e.2
    let s := bad.foldl (fun s e => (s.bump twnPage 0xA4).twnEvent 10 0 e.1) (s.setTwin { x with ckpts := (x.ckpts.1, []) })
    if bad ≠ [] ∧ s.lockstep ∧ s.twin.taking.isNone then s.detach else s
  else s

/-- A span closes 2 µs after AXIS reached its end (R362, R365). -/
def State.spanClose (s : State) : State :=
  if s.role = roOff ∨ s.role = roFailed then s
  else
    let j := (s.twnPos.toNat / 256 / s.spanSize + 2 ^ 32 - 1) % 2 ^ 32
    let mine := s.twin.crcs.filter fun e => e.1 / 512 == j
    let digest := mine.foldl (fun d e => d ^^^ e.2) 0#64
    let pkts := tget (fun _ => 0) s.twin.packets j
    let qs := ((List.range 64).filter fun k => s.rbit twnPage (0x100 + 4 * k) 31).map fun k => s.rfld twnPage (0x100 + 4 * k) 0 20
    let counts := qs.map fun q => (q, tget (fun _ => 0#32) s.mirrorCnt q)
    let standby := s.role == roStandby || s.role == roJoining
    let s := s.setTwin { s.twin with crcs := tdrop (fun k => k / 512 == j) s.twin.crcs
                                     packets := tset (fun _ => 0) s.twin.packets j 0, counts := (j, counts)
                                     closed := if standby then tset (fun _ => none) s.twin.closed j (some digest)
                                               else s.twin.closed }
    let s := s.ftSend 4 false (natBytes 4 j ++ natBytes 8 digest.toNat ++ natBytes 4 pkts)
    if s.role = roOwner then
      (pieces 88 64 0 (counts.flatMap fun c => natBytes 4 c.1 ++ wordBytes c.2)).foldl
        (fun s x => s.ftSend 6 true (natBytes 4 j ++ x.2)) s
    else (s.digestMeet j).countsMeet

/-- The owner's digest has not come 100 µs after the own close (R366). -/
def State.digestTimeout (s : State) : State :=
  match s.twin.closed with
  | (j, _) :: _ =>
    (s.setTwin { s.twin with closed := tset (fun _ => none) s.twin.closed j none }).digestBad j
  | [] => s

def State.digestRx (s : State) (h : FtHead) (span : Word) (digest : DWord) (pkts : Word) : State :=
  let r := s.ftTake h false
  if !r.2 then r.1
  else if r.1.role = roStandby ∨ r.1.role = roJoining then
    let s := r.1
    (s.setTwin { s.twin with digests := tset (fun _ => none) s.twin.digests span.toNat (some (digest, pkts.toNat)) }).digestMeet
      span.toNat
  else r.1

def State.ckptRx (s : State) (h : FtHead) (span : Word) (pairs : List (Word × Word)) : State :=
  let r := s.ftTake h true
  if !r.2 then r.1
  else
    let s := r.1.joinLive
    let old := if s.twin.ckpts.1 = span.toNat then s.twin.ckpts.2 else []
    (s.setTwin { s.twin with ckpts := (span.toNat, old ++ pairs.map fun p => (p.1.toNat, p.2)) }).countsMeet

/-! Mirrored words, records, state (R361, R363, R372). -/

/-- The attachment a queue's producer side lies in. -/
def State.queueAtt (s : State) (q : Nat) : Option Nat :=
  (s.atts.find? fun e => e.2.bound && e.2.queue == q).map (·.1)

def State.mirqRx (s : State) (h : FtHead) (q : Word) (ws : List SWord) : State :=
  let r := s.ftTake h true
  if !r.2 then r.1
  else
    let s := r.1.joinLive
    if s.role = roStandby ∨ s.role = roJoining then
      match s.queueAtt (q.toNat % 2 ^ 20) with
      | some k => if q.getLsbD 31 then s.qpFlush k else (ws.foldl (fun s w => s.arriveWord k w) s).svcFinish k
      | none => s
    else s

def State.granRx (s : State) (h : FtHead) (id : Word) (off : Nat) (last : Bool) (data : List Byte) : State :=
  let r := s.ftTake h true
  if !r.2 then r.1
  else
    let s := r.1.joinLive
    if s.role = roStandby ∨ s.role = roJoining then
      let part := if off = 0 then [] else match s.twin.gran with
        | some (i, l) => if i = id then l else []
        | none => []
      if part.length ≠ off then s.setTwin { s.twin with gran := none }
      else if last then (s.setTwin { s.twin with gran := none }).grnSubmit .fantail id false (part ++ data)
      else s.setTwin { s.twin with gran := some (id, part ++ data) }
    else s

/-- STATE arrives (R372 step 3): bytes written at their address; a descriptor that is cached here keeps its binding. -/
def State.stateRx (s : State) (h : FtHead) (a : Nat) (data : List Byte) : State :=
  let r := s.ftTake h true
  if !r.2 then r.1
  else if r.1.role = roJoining ∧ r.1.twin.step = 3 then
    let s := r.1.writeBytes a data
    if a / 2 ^ 40 = 0xFF ∧ inDescTable (a % 2 ^ 40) then
      let q := (a % 2 ^ 40 - 0x17FE000000) / 32
      if s.descCached q then
        let d := s.desc q
        s.setDesc q { (descOf (s.readBytes (descAddr q) 32)).held with bound := d.bound, kind := d.kind, port := d.port, node := d.node }
      else s
    else if flashBase ≤ a ∧ a < flashBase + 0x800000 then s.areaScanned 1
    else s
  else r.1

/-! Takeover and switch (R367 to R371). -/

/-- A record that arrived only in part is lost at a takeover (R374). -/
def State.granLost (s : State) : State :=
  match s.twin.gran with
  | some (id, _) => (s.setTwin { s.twin with gran := none }).twnEvent 11 0 id.toNat
  | none => s

/-- Step 1 of R368; a planned switch raises no FENCE_OUT (R370). -/
def State.takeStart (s : State) (planned : Bool) : State :=
  if s.role ≠ roStandby ∨ s.twin.taking.isSome then s
  else
    let s := s.setReg64 twnPage 0x64 (s.twnPos.setWidth 64)
    let s := s.setTwin { s.twin with taking := some (s.tbNs, planned) }
    if planned then s else (s.setBit twnPage 0x44 12 false).setBit twnPage 0x44 10 true

/-- PEER_OWN has read low for G_OWN: OWN rises (R352, R368 step 3). -/
def State.ownRaise (s : State) : State :=
  if s.peerOwn then s
  else match s.twin.taking with
  | some (t, planned) =>
    let dt := s.tbNs - t
    let s := (s.setBit twnPage 0x44 7 true).setFld twnPage 0x44 0 3 roOwner
    let s := (s.setReg64 twnPage 0x6C (s.twnPos.setWidth 64)).setReg twnPage 0x74 (BitVec.ofNat 32 (min dt 0xFFFFFFFF))
    let s := ((s.setTwin { s.twin with taking := none, raising := false, step := 0 }).bump twnPage 0xA8).granLost
    let s := (s.setBit twnPage 0x44 12 false).twnEvent 0 0 (min (dt / 1000) 0xFFFF)
    let s := if planned then s.twnEvent 3 roOwner 0 else s
    s.sendHello
  | none =>
    if s.twin.raising ∧ s.role = roOwner then
      (s.setBit twnPage 0x44 7 true).setTwin { s.twin with raising := false }
    else s

/-- PEER_OWN falls: by an acknowledged switch once the position has reached P_h; before, the switch is abandoned for an
unplanned takeover (R370, R374). (DEDUCED, log entry 72.) -/
def State.peerFall (s : State) : State :=
  let s := s.setBit twnPage 0x44 8 false
  if s.role = roStandby then s.takeStart (s.switching && decide (0 ≤ posDiff s.twnPos s.twin.switchAt)) else s

/-- PEER_OWN is not low within 5 µs of FENCE_OUT (R368 step 2). -/
def State.takeBlocked (s : State) : State :=
  match s.twin.taking with
  | some _ => if s.peerOwn then (s.setTwin { s.twin with taking := none }).twnEvent 1 0 0 else s
  | none => s

/-- FENCE_IN has been high for 200 ns (R353). (DEDUCED, log entry 73.) -/
def State.fenced (s : State) : State :=
  let before := s.role
  let s := (s.setBit twnPage 0x44 9 true).twnEvent 2 before 0
  if before = roFailed then s else s.twnFailed 0

/-- GO in `TWN.SWITCH` (R370). (DEDUCED, log entry 72.) -/
def State.switchGo (s : State) : State :=
  if s.role = roOwner && !s.rbit twnPage 0x5C 0 then
    (s.setBit twnPage 0x5C 0 true).ftSend 9 true (wordBytes (s.reg twnPage 0x54) ++ wordBytes (s.reg twnPage 0x58) ++ natBytes 4 0)
  else s

def State.switchRx (s : State) (h : FtHead) (p : BitVec 56) (ack : Bool) : State :=
  let r := s.ftTake h true
  if !r.2 then r.1
  else
    let s := r.1.joinLive
    if ack then (if s.role = roOwner ∧ s.rbit twnPage 0x5C 0 then s.setBit twnPage 0x44 12 true else s)
    else if s.role = roStandby then
      ((s.setBit twnPage 0x44 12 true).setTwin { s.twin with switchAt := p }).ftSend 9 true (natBytes 8 p.toNat ++ natBytes 4 1)
    else s

def State.switchTimeout (s : State) : State :=
  if s.rbit twnPage 0x5C 0 && !s.switching then (s.setBit twnPage 0x5C 0 false).twnEvent 12 2 0 else s

/-- Step 3 of R370: the owner drops OWN and becomes STANDBY. (DEDUCED, log entry 72.) -/
def State.switchHandover (s : State) : State :=
  let p : BitVec 56 := (s.reg64 twnPage 0x54).extractLsb' 0 56
  let busy := s.grps.any fun e => e.2.pkts.any fun q => q.first.isSome
  if s.role = roOwner && s.switching && decide (0 ≤ posDiff s.twnPos p) && !busy then
    let s := ((s.setBit twnPage 0x5C 0 false).setBit twnPage 0x44 12 false).ownLower
    ((s.setRole roStandby).twnEvent 3 roStandby 0).bump twnPage 0xA8
  else s

/-! `TWN.CTRL` (Table 15-10, R359, R360). -/

/-- While OWNER or STANDBY, changes of MODE, AXIS, SPAN, LANES2 and MQ are ignored. -/
def State.twnLocked (s : State) : Bool := s.role == roOwner || s.role == roStandby

def State.twnRefused (s : State) (cause : Nat) : State := s.twnEvent 12 cause 0

/-- ENABLE written 1 or 0 (R360). -/
def State.twnEnable (s : State) (on : Bool) : State :=
  if on then
    if s.rbit twnPage 0x40 0 then s
    else
      let s := s.setBit twnPage 0x40 0 true
      if s.role = roOff then (s.setFld twnPage 0x44 4 2 1).setTwin { s.twin with awaiting := true, peer := none } else s
  else if !s.rbit twnPage 0x40 0 then s
  else
    let s := (s.setBit twnPage 0x40 0 false).ownDrop 0
    let s := if s.role = roFailed then s else s.setRole roOff
    ((s.setFld twnPage 0x44 4 2 0).setBit twnPage 0x44 6 false).setTwin { Twin.reset with sent := s.twin.sent }

def State.twnJoin (s : State) : State := if s.role = roDetached then s.becomeJoining else s.twnRefused 3

def State.twnDetach (s : State) : State := if s.role = roStandby ∨ s.role = roJoining then s.detach else s

def State.twnUnfence (s : State) : State := s.setBit twnPage 0x44 10 false

def State.twnFail (s : State) : State := if s.role = roFailed then s else s.twnFailed 0x100

/-- A write to `TWN.CTRL`. A locked field written with the value it holds raises nothing. (DEDUCED, log entry 101.) -/
def State.twnCtrlWrite (s : State) (w : Word) : State :=
  let c := s.reg twnPage 0x40
  let mode := if 2 ≤ fld w 1 2 then fld c 1 2 else fld w 1 2
  let changed := mode != fld c 1 2 || fld w 4 2 != fld c 4 2 || bit w 6 != bit c 6
  let s := if s.twnLocked then (if changed then s.twnRefused 1 else s)
    else ((s.setFld twnPage 0x40 1 2 mode).setFld twnPage 0x40 4 2 (fld w 4 2)).setBit twnPage 0x40 6 (bit w 6)
  let g := fld w 8 8
  let s := if 5 ≤ g ∧ g ≤ 100 then s.setFld twnPage 0x40 8 8 g else s
  let s := if bit w 28 then s.twnFail else s
  let s := if bit w 29 then s.twnUnfence else s
  let s := if bit w 30 then s.twnDetach else s
  let s := if bit w 31 then s.twnJoin else s
  s.twnEnable (bit w 0)

/-- Writes to SPAN and MQ, locked while OWNER or STANDBY (R359). -/
def State.twnLockedWrite (s : State) (off : Nat) (w : Word) : State :=
  if s.twnLocked then s.twnRefused 1 else s.setReg twnPage off w

/-- A join step overruns its limit (Table 15-6); step 6 has none. -/
def State.joinTimeout (s : State) : State :=
  if s.role = roJoining ∧ s.twin.step ≠ 6 then s.joinFail s.twin.step else s

/-! The commands. -/

def execTwnEnable (on : Bool) (s : State) : Host.Outcome State Fault Refusal := .next ((s.twnEnable on).reply stOK [])
def execHelloTimeout (s : State) : Host.Outcome State Fault Refusal := .next s.helloTimeout
def execFantailTrainDone (locked : BitVec 4) (s : State) : Host.Outcome State Fault Refusal := .next (s.fantailTrained locked)
def execFtHelloSend (s : State) : Host.Outcome State Fault Refusal := .next s.sendHello
def execFtBeatSend (s : State) : Host.Outcome State Fault Refusal := .next s.sendBeat
def execFtPoschkSend (s : State) : Host.Outcome State Fault Refusal := .next s.sendPoschk

def execFtHelloRx (h : FtHead) (id : Bool) (role : Fin 6) (mode axis : BitVec 2) (span : BitVec 24) (hash : DWord) (s : State) :
    Host.Outcome State Fault Refusal :=
  .next (s.helloRx h id role.val mode.toNat axis.toNat span.toNat hash)

def execFtBeatRx (h : FtHead) (echoTs echoAt : DWord) (s : State) : Host.Outcome State Fault Refusal :=
  .next (s.beatRx h echoTs echoAt)

def execFtPoschkRx (h : FtHead) (a0 a1 a2 a3 : PosCheck) (s : State) : Host.Outcome State Fault Refusal :=
  .next (s.poschkRx h fun a => [a0, a1, a2, a3].getD a a0)

def execFtDigestRx (h : FtHead) (span : Word) (digest : DWord) (pkts : Word) (s : State) :
    Host.Outcome State Fault Refusal :=
  .next (s.digestRx h span digest pkts)

def execFtMirqRx (h : FtHead) (q : Word) (ws : List SWord) (s : State) : Host.Outcome State Fault Refusal :=
  .next (s.mirqRx h q (ws.take 12))

def execFtCkptRx (h : FtHead) (span : Word) (pairs : List (Word × Word)) (s : State) : Host.Outcome State Fault Refusal :=
  .next (s.ckptRx h span (pairs.take 11))

def execFtGranRx (h : FtHead) (id off : Word) (last : Bool) (data : List Byte) (s : State) :
    Host.Outcome State Fault Refusal :=
  .next (s.granRx h id off.toNat last (data.take 92))

/-- FAIL arrives (R367): a STANDBY package takes over. -/
def execFtFailRx (h : FtHead) (s : State) : Host.Outcome State Fault Refusal :=
  let r := s.ftTake h false
  .next (if r.2 then r.1.takeStart false else r.1)

def execFtSwitchRx (h : FtHead) (p : BitVec 56) (ack : Bool) (s : State) : Host.Outcome State Fault Refusal :=
  .next (s.switchRx h p ack)

def execFtStateRx (h : FtHead) (a : BitVec 48) (data : List Byte) (s : State) : Host.Outcome State Fault Refusal :=
  .next (s.stateRx h a.toNat (data.take 96))

def execFtResendTimeout (s : State) : Host.Outcome State Fault Refusal := .next s.ftResend
/-- No valid message for 16 µs (R357). -/
def execFtSilenceTimeout (s : State) : Host.Outcome State Fault Refusal := .next (if s.ftUp then s.fantailDown 1 else s)
def execOwnRaise (s : State) : Host.Outcome State Fault Refusal := .next s.ownRaise
/-- See the log (DEDUCED, log entry 73). -/
def execFenceInHigh (s : State) : Host.Outcome State Fault Refusal := .next s.fenced
def execPeerOwnFall (s : State) : Host.Outcome State Fault Refusal := .next s.peerFall

/-- PEER_OWN rises: while the package waits, the wait for G_OWN restarts (R352). -/
def execPeerOwnRise (s : State) : Host.Outcome State Fault Refusal := .next (s.setBit twnPage 0x44 8 true)

def execTakeoverBlocked (s : State) : Host.Outcome State Fault Refusal := .next s.takeBlocked
def execTwnSwitchGo (s : State) : Host.Outcome State Fault Refusal := .next (s.switchGo.reply stOK [])
def execSwitchAckTimeout (s : State) : Host.Outcome State Fault Refusal := .next s.switchTimeout
def execSwitchHandover (s : State) : Host.Outcome State Fault Refusal := .next s.switchHandover
def execTwnJoin (s : State) : Host.Outcome State Fault Refusal := .next (s.twnJoin.reply stOK [])
def execTwnDetach (s : State) : Host.Outcome State Fault Refusal := .next (s.twnDetach.reply stOK [])
def execTwnUnfence (s : State) : Host.Outcome State Fault Refusal := .next (s.twnUnfence.reply stOK [])
def execTwnFail (s : State) : Host.Outcome State Fault Refusal := .next (s.twnFail.reply stOK [])
def execSpanClose (s : State) : Host.Outcome State Fault Refusal := .next s.spanClose
def execDigestTimeout (s : State) : Host.Outcome State Fault Refusal := .next s.digestTimeout
def execJoinStepTimeout (s : State) : Host.Outcome State Fault Refusal := .next s.joinTimeout

/-- The commit unit is programmed and verified after `fails` attempts that did not verify (R416); a record of the owner's
settings area then goes to the standby (R363). -/
def execCommitDone (fails : BitVec 4) (s : State) : Host.Outcome State Fault Refusal :=
  .next (match s.grn.flight with
    | some c => if c.mirrored then (s.commitDone fails.toNat).sendGran c.id c.data else s.commitDone fails.toNat
    | none => s)

end Sys2Proof.Machine
end

