-- ==== Sys2Proof/Machine/Sec.lean ====
section
/-! DEFINITION. The SEC engine: keys, fuses, commands, debug unlock, TRNG (12_security, R282 to R303). What resets and
tamper responses do beyond it stands in System.lean. -/

namespace Sys2Proof.Machine

def secPage : Page := ⟨.sec, 0⟩

/-- Events of the SEC page (Table 12-12). -/
def State.secEvent (s : State) (e mid low : Nat) : State :=
  s.raise secPage e (BitVec.ofNat 32 ((e + 1) * 2 ^ 24 + mid % 256 * 2 ^ 16 + low % 2 ^ 16)) 0

def State.setSec (s : State) (x : Sec) : State := { s with sec := x }
def State.setFuses (s : State) (x : Fuses) : State := { s with fuses := x }

/-! Life cycle and fuses (R285, R291). -/

/-- `SEC.LC.STATE`: 0 BLANK, 1 OWNED, 2 FIELD, 3 RETURN, 4 VOID; the highest bit set. -/
def Fuses.state (f : Fuses) : Nat :=
  if f.lc.getLsbD 3 then 4 else if f.lc.getLsbD 2 then 3 else if f.lc.getLsbD 1 then 2 else if f.lc.getLsbD 0 then 1 else 0

/-- Number of bits set. -/
def bitCount (n : Nat) (v : Nat) : Nat := ((List.range n).map fun i => v / 2 ^ i % 2).sum

def Fuses.rollbackOf (f : Fuses) (n : Nat) : Nat := bitCount 64 (f.rollback.toList.getD n 0).toNat
def Fuses.unlockLeft (f : Fuses) : Nat := 64 - bitCount 64 f.unlockFail.toNat

/-- OWNER_HASH[k] is programmed, and neither all zero nor revoked. -/
def Fuses.ownerHash (f : Fuses) (k : Nat) : BitVec 384 := f.hash.toList.getD k 0
def Fuses.ownerUsable (f : Fuses) (k : Nat) : Bool := decide (k < 3) && f.ownerHash k != 0 && !f.revoke.getLsbD k

/-- A thermometer field raised to `n` bits. -/
def thermometer (n : Nat) : DWord := BitVec.ofNat 64 (2 ^ n - 1)

def State.scanTaint (s : State) : Bool := s.rbit secPage 0x40 8

/-- `SEC.LC` (Table 12-11). -/
def State.secLc (s : State) : Word :=
  (s.reg secPage 0x40 &&& 0x3300#32) ||| BitVec.ofNat 32 (s.fuses.state + s.fuses.unlockLeft * 2 ^ 16)

/-- `SEC.OWNER_KEYS`, `SEC.ROLLBACK`, `SEC.KEYSLOT`, `SEC.TRNG_STAT`, `SEC.TAMPER_STAT` (Table 12-10). -/
def State.secOwnerKeys (s : State) : Word :=
  BitVec.ofNat 32 (((List.range 3).map fun k => b2n (s.fuses.ownerHash k != 0) * 2 ^ k).sum + s.fuses.revoke.toNat * 16)
def State.secRollback (s : State) : Word :=
  BitVec.ofNat 32 (((List.range 4).map fun n => s.fuses.rollbackOf n * 2 ^ (8 * n)).sum)
def State.secKeyslot (s : State) : Word :=
  BitVec.ofNat 32 (1 + 2 * b2n s.sec.keys.isSome
    + ((List.range 6).map fun i => b2n (s.sec.slots.any fun e => e.1 == i + 2) * 2 ^ (i + 2)).sum)
def State.trngStat (s : State) : Word :=
  (s.reg secPage 0x80 &&& 6#32) ||| BitVec.ofNat 32 (b2n (s.sec.words != 0) + min s.sec.words 15 * 16)
def State.tamperStat (s : State) : Word := putFld (s.reg secPage 0x74) 8 1 (b2n s.powerFail)

/-! Keys (R282 to R284). -/

/-- A number as an octet string, most significant byte first. -/
def toOctets (n v : Nat) : List Byte := (List.range n).map fun i => BitVec.ofNat 8 (v / 2 ^ (8 * (n - 1 - i)))

def hashBytes (l : List Byte) : List Byte := toOctets 48 (Config.sha384 l).toNat

/-- HMAC-SHA-384. -/
def hmac384 (key msg : List Byte) : List Byte :=
  let k := if 128 < key.length then hashBytes key else key
  let k := k ++ List.replicate (128 - k.length) 0
  hashBytes (k.map (· ^^^ 0x5C#8) ++ hashBytes (k.map (· ^^^ 0x36#8) ++ msg))

/-- HKDF-SHA-384 (RFC 5869) without salt, for at most 48 bytes. (DEDUCED, log entry 7.) -/
def hkdf (ikm info : List Byte) (n : Nat) : List Byte :=
  (hmac384 (hmac384 (List.replicate 48 0) ikm) (info ++ [1#8])).take n

/-- "KRT-DIK", "KRT-DWK", "KRT-SEK", "KRT-IMG". -/
def krtInfo (a b c : Nat) : List Byte := [0x4B, 0x52, 0x54, 0x2D, BitVec.ofNat 8 a, BitVec.ofNat 8 b, BitVec.ofNat 8 c]

/-- The group order of P-384. (PRESUMED, log entry 7.) -/
def p384Order : Nat :=
  0xFFFFFFFFFFFFFFFFFFFFFFFFFFFFFFFFFFFFFFFFFFFFFFFFC7634D81F4372DDF581A0DB248B0A77AECEC196ACCC52973

/-- Class of the derivation. -/
def Fuses.keyClass (f : Fuses) : Nat := if f.state = 3 then 1 else 0

/-- A number from an octet string, first byte most significant. -/
def octets : List Byte → Nat → Nat
  | [], v => v
  | b :: l, v => octets l (v * 256 + b.toNat)

/-- The DIK: reduced modulo the group order, derived again with a counter byte in the info while it is 0 (R282). -/
def dikOf (root : List Byte) (cls : Nat) : Nat :=
  let info := krtInfo 0x44 0x49 0x4B ++ [BitVec.ofNat 8 cls]
  let key := fun (tail : List Byte) => octets (hkdf root (info ++ tail) 48) 0 % p384Order
  (([] :: (List.range 255).map fun i => [BitVec.ofNat 8 (i + 1)]).map key |>.find? (· != 0)).getD 0

/-- Table 12-1, from K_root and the class. -/
def keysOf (root : BitVec 256) (cls : Nat) : SecKeys :=
  let ikm := toOctets 32 root.toNat
  { dik := dikOf ikm cls
    dwk := hkdf ikm (krtInfo 0x44 0x57 0x4B ++ [BitVec.ofNat 8 cls]) 32
    sek := hkdf ikm (krtInfo 0x53 0x45 0x4B ++ [BitVec.ofNat 8 cls]) 32 }

/-- The device keys are derived at a cap reset; the PUF reconstruction that this takes may fail its check, which the
manual leaves to the part: a free value. (DESIGN CHOICE, log entry 49.) -/
def State.deriveKeys (s : State) : State :=
  if s.fuses.state = 4 ∨ s.scanTaint then s
  else
    let x := s.takeFree
    if x.1.getLsbD 0 then
      (x.2.setSec { x.2.sec with keys := some (keysOf (Config.rootSecret s.fuses.helper) s.fuses.keyClass) }).setBit
        secPage 0x40 9 true
    else (x.2.setSec { x.2.sec with keyFail := true }).secEvent 1 0 0

/-- The key that ECDH of the DIK with a public key gives (Table 12-2), while keys are valid. -/
def State.ecdhKey (s : State) (pub : List Byte) : Option (List Byte) :=
  s.sec.keys.bind fun k => (Config.p384Ecdh k.dik pub).map fun z => hkdf z (krtInfo 0x49 0x4D 0x47) 32

/-- OWNER slots are unwrapped from the granary at boot (R284). (DEDUCED, log entry 62.) -/
def State.unwrapSlots (s : State) : State :=
  match s.sec.keys.map (·.dwk) with
  | none => s
  | some dwk => (List.range 6).foldl (fun s i =>
      match (s.grn.current (BitVec.ofNat 32 (0x102 + i))).bind fun e => Config.keyUnwrap dwk (s.entryData e) with
      | some k => s.setSec { s.sec with slots := tset (fun _ => []) s.sec.slots (i + 2) k }
      | none => s) s

/-- Every key in SEC is zeroised. -/
def State.zeroise (s : State) : State :=
  (s.setSec { s.sec with keys := none, slots := [] }).setBit secPage 0x40 9 false

/-- The image key of a slot (Table 12-2), none where the slot holds no valid key. -/
def State.imageKey (s : State) (slot : Nat) (eph : List Byte) : Option (List Byte) :=
  if slot = 0 then some (List.replicate 32 0)
  else if slot = 1 then s.ecdhKey eph
  else (s.sec.slots.find? fun e => e.1 == slot).map (·.2)

/-- A signer is admitted (R287). -/
def State.signerOk (s : State) (pub : List Byte) : Bool :=
  s.fuses.state == 0 || (List.range 3).any fun k => s.fuses.ownerUsable k && Config.sha384 pub == s.fuses.ownerHash k

/-- The DIK public key as 96 bytes. -/
def State.dikBytes (s : State) : Option (List Byte) :=
  s.sec.keys.map fun k => (List.range 96).map fun i => (Config.p384Public k.dik).getD i 0

/-- `SEC.DIK_HASH[i]`: bytes 4i to 4i + 3 of the hash as an octet string. -/
def State.dikHash (s : State) (i : Nat) : Word :=
  match s.dikBytes with
  | some l => bytesWord (((hashBytes l).drop (4 * i)).take 4)
  | none => 0

/-! TRNG (R300). -/

def State.trngFailed (s : State) : Bool := s.rbit secPage 0x80 1

/-- A word from the TRNG: its value is random. -/
def State.trngRead (s : State) (quiet : Bool) : State × Word :=
  if quiet then (s.setBit secPage 0x80 2 true, 0)
  else if s.sec.words = 0 then (s, 0)
  else
    let x := s.takeFree
    ((x.2.setSec { x.2.sec with words := s.sec.words - 1 }).setBit secPage 0x80 2 false, x.1)

/-- A fresh nonce (R289); while the TRNG delivers nothing the draw fails with BAD_NONCE (R300), and what nonce there is
stays. (DEDUCED, log entry 50.) -/
def State.nonceGen (s : State) : State :=
  if s.trngFailed then s.setFld secPage 0x4C 8 4 3
  else
    let x := s.takeFree
    let y := x.2.takeFree
    ((y.2.setSec { y.2.sec with nonceOk := true }).setReg secPage 0x54 x.1).setReg secPage 0x58 y.1

def State.nonceDrop (s : State) : State :=
  ((s.setSec { s.sec with nonceOk := false }).setReg secPage 0x54 0).setReg secPage 0x58 0

/-! Commands (R289, R290). -/

/-- A command block or token (Table 12-4). -/
structure CmdBlock where
  head     : List Byte
  opcode   : Nat
  keyIdx   : Nat
  pad      : Byte
  serial   : DWord
  nonce    : DWord
  len      : Nat
  pub      : List Byte
  sig      : List Byte
  operands : List Byte
  deriving DecidableEq, Repr

/-- The block at an offset of core SRAM. -/
def State.cmdBlock (s : State) (off : Nat) : CmdBlock :=
  let h := s.readBytes (sramBase + off) 216
  let n := bytesNat ((h.drop 20).take 4)
  { head := h.take 24, opcode := bytesNat (h.take 2), keyIdx := (h.getD 2 0).toNat, pad := h.getD 3 0
    serial := BitVec.ofNat 64 (bytesNat ((h.drop 4).take 8)), nonce := BitVec.ofNat 64 (bytesNat ((h.drop 12).take 8))
    len := n, pub := (h.drop 24).take 96, sig := (h.drop 120).take 96
    operands := s.readBytes (sramBase + off + 216) (min n 1024) }

/-- Results (R290). -/
def srOK : Nat := 0
def srBadState : Nat := 1
def srBadSig : Nat := 2
def srBadNonce : Nat := 3
def srBadArg : Nat := 4
def srFuseFail : Nat := 5
def srPower : Nat := 6
def srTainted : Nat := 7
def srNotSecure : Nat := 8
def srKeyFail : Nat := 9

/-- The block's nonce is the one in force (R289). -/
def State.nonceMatches (s : State) (b : CmdBlock) : Bool :=
  s.sec.nonceOk && b.nonce == s.reg secPage 0x58 ++ s.reg secPage 0x54

/-- A signature by an owner key over bytes 0 to 23 and the operands (R287, R289). -/
def State.signedOk (s : State) (b : CmdBlock) : Bool :=
  s.fuses.ownerUsable b.keyIdx && Config.sha384 b.pub == s.fuses.ownerHash b.keyIdx
    && Config.ecdsaOk b.pub b.sig (b.head ++ b.operands)

/-- Commands that need neither a signature nor a secure task (R290). -/
def openOp (op : Nat) : Bool := op == 0x01 || op == 0x0A || decide (0x100 ≤ op)

/-- What SEC checks of a command before its operands, in this order; none when all hold.
(DEDUCED, log entry 45; DESIGN CHOICE, log entry 46.) -/
def State.cmdRefusal (s : State) (op : Nat) (states : List Nat) (signed secure : Bool) (b : CmdBlock) : Option Nat :=
  if b.opcode ≠ op ∨ b.pad ≠ 0 ∨ 1024 < b.len ∨ b.len % 4 ≠ 0 then some srBadArg
  else if s.scanTaint ∧ op ≠ 0x0A then some srTainted
  else if !states.contains s.fuses.state then some srBadState
  else if b.serial ≠ s.fuses.serial then some srBadArg
  else if !s.nonceMatches b then some srBadNonce
  else if signed then (if s.signedOk b then none else some srBadSig)
  else if secure || openOp op then none
  else some srNotSecure

/-- Fuse words of 64 bits (R285): 0 LC, 1 + 6k + j part j of OWNER_HASH[k], 19 OWNER_REVOKE, 20 + n ROLLBACK[n],
24 UNLOCK_FAIL. Bits are blown and never cleared. -/
def Fuses.blow (f : Fuses) (i : Nat) (v : DWord) : Fuses :=
  if i = 0 then { f with lc := f.lc ||| v.extractLsb' 0 4 }
  else if i < 19 then
    let k := (i - 1) / 6
    { f with hash := f.hash.setIfInBounds k (f.ownerHash k ||| (v.setWidth 384 <<< (64 * ((i - 1) % 6)))) }
  else if i = 19 then { f with revoke := f.revoke ||| v.extractLsb' 0 3 }
  else if i < 24 then { f with rollback := f.rollback.setIfInBounds (i - 20) (f.rollback.toList.getD (i - 20) 0 ||| v) }
  else { f with unlockFail := f.unlockFail ||| v }

/-- Words of an owner hash. -/
def hashWords (k : Nat) (h : BitVec 384) : List (Nat × DWord) :=
  (List.range 6).map fun j => (1 + 6 * k + j, h.extractLsb' (64 * j) 64)

/-- The engine programs fuse words in order (R286): `ok` is what the read-backs find. Where a word does not verify, those
before it are blown, and each bit of its own is old or set: free values tell which word and which bits.
(DEDUCED, log entry 52.) -/
def State.fuseProgram (s : State) (ok : Bool) (l : List (Nat × DWord)) : State × Nat :=
  let blow := fun (f : Fuses) (l : List (Nat × DWord)) => l.foldl (fun f x => f.blow x.1 x.2) f
  if s.powerFail then (s, srPower)
  else if ok then (s.setFuses (blow s.fuses l), srOK)
  else
    let x := s.takeFree
    let y := x.2.takeFree
    let z := y.2.takeFree
    let m := x.1.toNat % l.length
    let mask : DWord := y.1 ++ z.1
    let part := ((l.drop m).take 1).map fun (w : Nat × DWord) => (w.1, w.2 &&& mask)
    (z.2.setFuses (blow s.fuses (l.take m ++ part)), srFuseFail)

/-- Operand word i of a block. (DESIGN CHOICE, log entry 46.) -/
def CmdBlock.arg (b : CmdBlock) (i : Nat) : Nat := bytesNat ((b.operands.drop (4 * i)).take 4)

/-- Secret records leave the granary (R292 step 4, R422): TOMB entries for the OWNER slots, then area 0 is compacted until
no sector holds their earlier entries. -/
def State.purgeSlots (s : State) : State :=
  let s := s.commitDone 0
  let s := (List.range 6).foldl (fun (s : State) i =>
    let id := BitVec.ofNat 32 (0x102 + i)
    let seq := tget (fun _ => 0) s.grn.seq 0 + 1
    if (s.grn.current id).isSome then
      (s.setGrn { s.grn with seq := tset (fun _ => 0) s.grn.seq 0 seq }).grnProgram id seq true false [] 0
    else s) s
  let old := s.grn.usedOf 0
  let s := s.setGrn { s.grn with pos := tset (fun _ => 2048) s.grn.pos 0 2048 }
  old.foldl (fun (s : State) o =>
    let l := s.grn.index.filterMap fun x => match x.2 with
      | some e => if e.off / sectorSize = o then some (x.1, e) else none
      | none => none
    (l.foldl (fun (s : State) x => s.grnProgram (BitVec.ofNat 32 x.1) x.2.seq x.2.tomb true (s.entryData x.2) 0) s).eraseSector o) s

/-- Steps 2 to 4 of a life-cycle transition to LC bit `i` (R292): pins braked, keys zeroised, secure windows wiped, for
RETURN and VOID the OWNER slots erased. (DESIGN CHOICE, log entry 47.) -/
def State.lcPrepare (s : State) (i : Nat) : State :=
  let s := ((s.brakePins.ownFail 0).zeroise).wipeSecure
  if 2 ≤ i then s.purgeSlots else s

/-- The commands' own effects, by opcode (Table 12-5): the result, none where a transition goes on to its step 5. `ran`
holds the versions of the images running, by kind. (DESIGN CHOICE, log entry 46.) -/
def State.cmdEffect (s : State) (op : Nat) (b : CmdBlock) (fuseOk : Bool) (ran : Nat → Option Nat) : State × Option Nat :=
  let f := s.fuses
  let fuse := fun l => let x := s.fuseProgram fuseOk l; (x.1, some x.2)
  let lc := fun (i : Nat) (h : Option (BitVec 384)) =>
    if s.powerFail then (s, some srPower)
    else
      let s := s.lcPrepare i
      ((s.setSec { s.sec with lcJob := some ⟨op, i, h, fuseOk⟩ }).setBit secPage 0x4C 0 true, none)
  let bad := (s, some srBadArg)
  match op with
  | 0x01 =>
    let h := BitVec.ofNat 384 (octets b.operands 0)
    if b.len ≠ 48 ∨ h = 0 then bad else lc 0 (some h)
  | 0x02 =>
    let k := b.arg 0
    let h := BitVec.ofNat 384 (octets (b.operands.drop 4) 0)
    if b.len ≠ 52 ∨ h = 0 ∨ k = 0 ∨ 3 ≤ k ∨ f.ownerHash k ≠ 0 then bad else fuse (hashWords k h)
  | 0x03 =>
    let k := b.arg 0
    let rest := (List.range 3).any fun j => j != k && f.ownerUsable j
    if b.len ≠ 4 ∨ 3 ≤ k ∨ (f.ownerUsable k ∧ !rest) then bad else fuse [(19, BitVec.ofNat 64 (2 ^ k))]
  | 0x04 => lc 1 none
  | 0x05 => lc 2 none
  | 0x06 => lc 3 none
  | 0x07 =>
    let n := b.arg 0
    let v := b.arg 1
    let top := if n = 3 then some 64 else ran n
    if b.len ≠ 8 ∨ 4 ≤ n ∨ 64 < v ∨ v < f.rollbackOf n ∨ (top.map fun t => decide (t < v)).getD true then bad
    else fuse [(20 + n, thermometer v)]
  | 0x08 =>
    let slot := b.arg 0
    if b.len ≠ 140 ∨ slot < 2 ∨ 8 ≤ slot then bad
    else match s.ecdhKey ((b.operands.drop 4).take 96), s.sec.keys.map (·.dwk) with
      | some kek, some dwk =>
        match Config.keyUnwrap kek (b.operands.drop 100) with
        | some k =>
          ((s.setSec { s.sec with slots := tset (fun _ => []) s.sec.slots slot k }).grnSubmit .sec
            (BitVec.ofNat 32 (0x100 + slot)) false (Config.keyWrap dwk k), some srOK)
        | none => (s, some srKeyFail)
      | _, _ => (s, some srKeyFail)
  | 0x09 =>
    let slot := b.arg 0
    if b.len ≠ 4 ∨ slot < 2 ∨ 8 ≤ slot then bad
    else ((s.setSec { s.sec with slots := tset (fun _ => []) s.sec.slots slot [] }).grnSubmit .sec
      (BitVec.ofNat 32 (0x100 + slot)) true [], some srOK)
  | 0x0A =>
    match s.dikBytes with
    | some l => (s.writeMem (sramBase + s.rfld secPage 0x48 0 20 + 216) l, some srOK)
    | none => (s, some srKeyFail)
  | _ => bad

/-- States and signature a command needs (Table 12-5). -/
def cmdStates : Nat → List Nat
  | 0x01 => [0]
  | 0x02 | 0x03 => [1, 2]
  | 0x04 => [1]
  | 0x05 => [1, 2]
  | 0x06 => [0, 1, 2, 3]
  | 0x07 | 0x08 | 0x09 => [1, 2, 3]
  | 0x0A => [0, 1, 2, 3]
  | _ => [0, 1, 2, 3, 4]

def State.cmdSigned (s : State) (op : Nat) : Bool :=
  op == 2 || op == 3 || op == 4 || op == 5 || op == 8 || (op == 6 && s.fuses.state != 0)

/-- The command ends (R289, R290): the nonce is consumed, RESULT stands, `CMD_DONE` is raised.
(DESIGN CHOICE, log entry 47.) -/
def State.cmdEnd (s : State) (op res : Nat) : State :=
  ((s.nonceDrop.setFld secPage 0x4C 8 4 res).setBit secPage 0x4C 0 false).secEvent 2 res op

/-- A GO is not admitted (R293, R294): after LOCK, of another than a secure task. Before it only the boot ROM reaches the
register; `secure` says whether its task carries the attribute. (DEDUCED, log entry 45.) -/
def State.goDenied (s : State) (secure : Bool) : Bool := !secure && s.rbit secPage 0x30 0

/-- GO in `SEC.CMD` with an opcode (R289 to R294). Any attempt consumes the nonce. -/
def State.secGo (s : State) (op : Nat) (secure fuseOk : Bool) (ran : Nat → Option Nat) : State :=
  if s.goDenied secure then s.reply stDenied []
  else if s.rbit secPage 0x4C 0 then (s.secEvent 3 0 op).reply stOK []
  else
    let s := (s.setFld secPage 0x44 0 16 op).reply stOK []
    let b := s.cmdBlock (s.rfld secPage 0x48 0 20)
    match s.cmdRefusal op (cmdStates op) (s.cmdSigned op) secure b with
    | some r => s.cmdEnd op r
    | none =>
      let x := s.nonceDrop.cmdEffect op b fuseOk ran
      match x.2 with
      | some r => x.1.cmdEnd op r
      | none => x.1

/-! The commands. -/

/-- A reserved opcode gives BAD_ARG (R290): 0x00, and 0x0B and above. -/
def execSecReservedOpcode (op : BitVec 16) (secure : Bool) (s : State) : Host.Outcome State Fault Refusal :=
  .next (if 1 ≤ op.toNat ∧ op.toNat ≤ 10 then s
    else if s.goDenied secure then s.reply stDenied []
    else if s.rbit secPage 0x4C 0 then (s.secEvent 3 0 op.toNat).reply stOK []
    else ((s.setFld secPage 0x44 0 16 op.toNat).cmdEnd op.toNat srBadArg).reply stOK [])

/-- A write to `SEC.NONCE_GEN` by a secure task, the boot ROM or the debugger (R289, R293, R298), or by another. -/
def execSecNonceGen (admitted : Bool) (s : State) : Host.Outcome State Fault Refusal :=
  .next (if admitted then s.nonceGen.reply stOK [] else s.reply stDenied [])

def execNonceExpire (s : State) : Host.Outcome State Fault Refusal := .next s.nonceDrop

/-- Each µs the mesh draws fresh patterns, or keeps its last ones while the TRNG delivers nothing (R295, R300). -/
def execMeshRefresh (s : State) : Host.Outcome State Fault Refusal :=
  .next (if s.trngFailed then s.setBit secPage 0x74 9 true
    else
      let x := s.takeFree
      (x.2.setSec { x.2.sec with mesh := x.1 }).setBit secPage 0x74 9 false)

/-- A write to `SEC.TAMPER_LOG` (R294, R302): admitted to the boot ROM before LOCK. -/
def execTamperLogClear (w : Word) (rom : Bool) (s : State) : Host.Outcome State Fault Refusal :=
  .next (if rom && !s.rbit secPage 0x30 0 then
      (if fld w 0 5 = 0 then s else s.setReg secPage 0x78 0).reply stOK []
    else s.reply stDenied [])

def execTrngRead (quiet : Bool) (s : State) : Host.Outcome State Fault Refusal :=
  let x := s.trngRead quiet
  .next (x.1.reply stOK [x.2])

/-- A health test fails: 0 repetition count, 1 adaptive proportion (R300). -/
def execTrngHealthFail (proportion : Bool) (s : State) : Host.Outcome State Fault Refusal :=
  .next ((((s.setSec { s.sec with words := 0 }).setBit secPage 0x80 1 true).setBit secPage 0x74 9 true).secEvent 6
    (1 + b2n proportion) 0)

def execTrngRecover (s : State) : Host.Outcome State Fault Refusal := .next (s.setBit secPage 0x80 1 false)

end Sys2Proof.Machine
end

