-- ==== Sys2Proof/Machine/ResetCore.lean ====
section
/-! DEFINITION. What a cap reset and a SAIL reset do to the state (R335 to R337), and the events of self-test that they
abandon (R459). -/

namespace Sys2Proof.Machine

def bistPage (d : Nat) : Page := ⟨.bist, d⟩

/-- A block and its island leave reset; with the first island of a cap node its gate opens (R142, R483). -/
def State.enablePage (s : State) (p : Page) : State := (s.setBit p 0x08 0 true).openNode (pageNode p)

/-- Events of the cap's BIST page (Table 19-10). -/
def State.bistEvent (s : State) (e mid low : Nat) : State :=
  s.raise (bistPage 0) e (BitVec.ofNat 32 ((e + 1) * 2 ^ 24 + mid % 256 * 2 ^ 16 + low % 2 ^ 16)) 0

/-- Kinds of cap reset (Table 14-3). -/
inductive ResetKind where
  | por | cold | warm
  deriving DecidableEq, Repr

/-- Registers that a cap reset of a kind leaves as they are (R335, R465): the debug domain; what the pins of the cap say
of VHOLD and VSENSE; from COLD on `SEC.TAMPER_LOG`; on WARM the RWS fields. -/
def keptReg (k : ResetKind) (code off : Nat) : Bool :=
  code == 0x21 || (k != .por && code == 0x11 && off == 0x78) ||
  (k == .warm && ((code == 0x0F && off == 0x44) || (code == 0x16 && (off == 0x4C || off == 0x50 || off == 0x54))))

/-- Bytes of memory that a cap reset of a kind leaves: the granary's flash, on WARM HBM. -/
def keptByte (k : ResetKind) (a : Nat) : Bool :=
  decide (flashBase ≤ a ∧ a < flashBase + 0x800000) || (k == .warm && a / 2 ^ 40 == 0xFF)

/-- The granary's index is lost, its flash stays; a sector whose erase was under way stays erased in part (R418). -/
def Grn.afterReset (g : Grn) : Grn :=
  { g with index := [], scanned := 0, queue := [], flight := none, erasing := none
           cut := g.cut ++ g.erasing.toList }

/-- The cap reset's registers that carry something over. -/
def State.carryRegs (s : State) (k : ResetKind) (cause : Nat) : Tbl Word :=
  let t := s.regs.filter fun e => keptReg k (e.1 / 0x1000000) (e.1 % 0x1000)
  let put := fun (t : Tbl Word) (p : Page) (off : Nat) (v : Word) => tset resetOfKey t (regKey p off) v
  let t := put t grnPage 0x54 (s.reg grnPage 0x54 &&& 0x10000000#32)
  let hold := putFld 0x64#32 8 8 (s.rfld grnPage 0x5C 8 8)
  let t := put t grnPage 0x5C (if k = .warm then putFld hold 0 8 (s.rfld grnPage 0x5C 0 8) else hold)
  let t := if k = .por then t else put t secPage 0x40 (s.reg secPage 0x40 &&& 0x100#32)
  (List.range 9).foldl (fun t d =>
    let t := put t (rstPage d) 0x48 (BitVec.ofNat 32 (2 ^ cause))
    if k = .por then t else put t (rstPage d) 0x4C (BitVec.ofNat 32 (satAdd 32 (s.reg (rstPage d) 0x4C).toNat 1))) t

/-- A cap reset (R335): OWN falls (R351), a commit in flight ends (R417), and all but what the kind keeps returns to its
reset value; secure windows are wiped again (R249). `cause` is the bit of `RST.CAUSE`. (DESIGN CHOICE, log entry 70.) -/
def State.capReset (s : State) (k : ResetKind) (cause : Nat) : State :=
  let s := (s.ownDrop (2 ^ cause)).commitDone 0
  let wipe := if k = .por then [] else secureBanks.filter fun b => s.bankSecure b
  { State.reset with
    banks := wipe.foldl (fun t b => tset (fun _ => Bank.reset) t b { Bank.reset with wiping := true }) []
    pending := s.pending, cycle := s.cycle, free := s.free, fuses := s.fuses, board := s.board, dbg := s.dbg
    regs := s.carryRegs k cause
    mem := s.mem.filter fun e => keptByte k e.1
    tb := if k = .por then 0 else s.tb
    grn := s.grn.afterReset
    health := { Health.reset with saved := s.health.saved, trained := s.health.trained }
    twin := { Twin.reset with sent := s.twin.sent }
    loader := { Loader.reset with bootAt := s.cycle } }

/-! SAIL reset (R335, R336). -/

/-- Registers of a sail's pages that a SAIL reset leaves: cog tables' page fields, RWS fields, what says how links, PLLs
and self-test stand, HBM, the owners and power of banks. -/
def sailKeeps (code off : Nat) : Bool :=
  (code == 0x02 && (off == 0x40 || off == 0x48 || decide (0x60 ≤ off ∧ off < 0x70))) ||
  (code == 0x0F && (off == 0x44 || off == 0x48 || off == 0x4C)) || (code == 0x09 && off == 0x40) ||
  code == 0x0C || code == 0x0E || code == 0x08 || (code == 0x07 && (off == 0x34 || off == 0x40 || off == 0x48 || off == 0x30)) ||
  (code == 0x04 && off == 0x40)

/-- The die that a register page lies on, by code and instance. -/
def codeDie (code inst : Nat) : Nat :=
  match code with
  | 0x01 | 0x02 | 0x03 => nodeDie inst
  | 0x04 => regionSail inst
  | 0x05 => if inst < 128 then regionSail inst else 0
  | 0x07 => regionSail (inst / 6)
  | 0x08 | 0x09 | 0x0A | 0x0B | 0x0C | 0x0D | 0x0E => inst
  | 0x0F => inst / 16
  | _ => 0

/-- Regions and banks of a sail. -/
def sailRegions (d : Nat) : List Nat := (List.range 16).map fun i => 16 * (d - 1) + i
def sailBanks (d : Nat) : List Nat := (List.range 96).map fun i => 96 * (d - 1) + i

/-- A queue bound to a port is unbound at once: the words its attachment holds are lost and it is left in FAULT (R175). -/
def State.unbindNow (s : State) (k : Nat) : State :=
  let a := s.att k
  if a.bound then ((if a.unbind = .none then s.setAtt k { a with unbind := .draining } else s).unbindTimeout k) else s

/-- A region of a sail in reset (R336): cleared, its gate CLOSED, its ports unbound, tile memory zero. -/
def State.regionReset (s : State) (r : Nat) : State :=
  let s := (List.range 32).foldl (fun s i => s.unbindNow (portAtt r i)) s
  let st := s.rgnState r
  let s := s.clearBytes (regionNode r * 2 ^ 40 + 0x2000000) 0x48000
  let s := s.discardRegion r (if st = stUnusable ∨ st = stOff then st else stCleared)
  (s.setGate (regionNode r) (if s.gate (regionNode r) = gateAsleep then gateAsleep else gateClosed)).setBit
    (rtrPage (regionNode r)) 0x48 0 true

/-- A bank over a SAIL reset (R249, R336): secure ones are wiped; those a region owned return to NONE and read zero. -/
def State.bankSailReset (s : State) (b : Nat) : State :=
  let s := s.setBank b { s.bank b with reads := [], wback := [], used := 0, access := [], held := [], next := none }
  let s := s.setBit (bankPage b) 0x34 31 false
  if s.bankSecure b then s.bankWipe b
  else if s.bankKind b = 1 ∨ s.bankKind b = 0 then (s.bankClear b).setReg (bankPage b) 0x34 0
  else s

/-- The page of a unit. -/
def unitPage (u : TestUnit) : Page :=
  match u.type with
  | 1 => rgnPage (16 * (u.die - 1) + u.index)
  | 2 => bankPage (96 * (u.die - 1) + u.index)
  | 3 => rtrPage (regionNode (16 * (u.die - 1) + u.index))
  | 4 => ⟨.glc, u.index⟩
  | 5 => dmaPage
  | 6 => ⟨.trc, 0⟩
  | _ => rtrPage 0x44

def unitRegion (u : TestUnit) : Nat := 16 * (u.die - 1) + u.index
def unitBank (u : TestUnit) : Nat := 96 * (u.die - 1) + u.index

/-- BLK_STAT.UNDER_TEST of the unit's page, BIST.RGN_TEST or BANK_TEST, and EP_STAT of a region's or a cap block's
endpoint, as long as one of its targets is under test (Table 6-13). -/
def State.showTest (s : State) (u : TestUnit) (on : Bool) : State :=
  let s := s.setBit (unitPage u) 0x0C 5 on
  let n := pageNode (unitPage u)
  let s := if isCapNode n then
      s.setBit (rtrPage n) 0x4C 4 (on || s.bist.running.any fun x => x.1 != u && pageNode (unitPage x.1) == n)
    else s
  match u.type with
  | 1 => (s.setBit (bistPage u.die) 0x44 u.index on).setBit (rtrPage (regionNode (unitRegion u))) 0x4C 4 on
  | 2 => s.setBit (bistPage u.die) (0x60 + 4 * (u.index / 32)) (u.index % 32) on
  | _ => s

/-- Online tests of a sail are abandoned and counted (R459). -/
def State.abandonTests (s : State) (q : TestUnit → Bool) : State :=
  let l := (s.bist.running.map (·.1)).filter q
  let s := { s with bist := { s.bist with running := s.bist.running.filter fun x => !q x.1 } }
  l.foldl (fun s u => (((s.showTest u false).setFld (bistPage 0) 0x48 8 8 (s.rfld (bistPage 0) 0x48 8 8 - 1)).bump
    (bistPage 0) 0x58).bistEvent 3 (u.die * 16 + u.type) u.index) s

/-- A SAIL reset of sail d; `cause` is the bit of `RST.CAUSE` on its page (6 request, 7 PLL unlock).
(DEDUCED, log entry 53.) -/
def State.sailReset (s : State) (d cause : Nat) : State :=
  let s := s.ownFail (2 ^ cause)
  let s := s.abandonTests fun u => u.die == d
  let s := (sailRegions d).foldl (fun s r => s.regionReset r) s
  let s := (sailBanks d).foldl (fun s b => s.bankSailReset b) s
  let stat := (dieNodes d).map fun n => (n, s.reg (cogPage n) 0x48)
  let gates := (dieNodes d).map fun n => (n, s.gate n)
  let s := s.resetRegs fun c i o => codeDie c i == d && !sailKeeps c o
  let s := stat.foldl (fun s x => s.setReg (cogPage x.1) 0x48 (putFld x.2 13 1 0)) s
  let s := gates.foldl (fun s x => s.setGate x.1 (if x.2 = gateAsleep then gateAsleep else gateClosed)) s
  let s := s.setReg (rstPage d) 0x48 (BitVec.ofNat 32 (2 ^ cause))
  let s := { s with
    routers := tdrop (fun n => nodeDie n == d) s.routers
    gsWait := tdrop (fun k => nodeDie (k / 1024) == d) s.gsWait
    aligners := tdrop (fun n => nodeDie n == d) s.aligners
    grps := tdrop (fun k => k / 8 == d) s.grps
    pinSet := tdrop (fun k => k / 64 == d) s.pinSet
    calT0 := tdrop (fun k => k == d) s.calT0
    bist := { s.bist with nextIdx := tdrop (fun k => k == d) s.bist.nextIdx }
    training := { s.training with aligned := s.training.aligned &&& ~~~(BitVec.ofNat 9 (2 ^ d)) }
    released := tset (fun _ => 0) s.released d 0
    clearing := s.clearing &&& ~~~(BitVec.ofNat 128 (0xFFFF * 2 ^ (16 * (d - 1)))) }
  s.setBit (rstPage 0) 0x50 (d - 1) true

/-- A sail leaves its SAIL reset (R335, R336): its links retrain and `SAIL_RESET` is raised.
(DEDUCED, log entry 67.) -/
def State.sailRelease (s : State) (d : Nat) : State :=
  let s := { s.setBit (rstPage 0) 0x50 (d - 1) false with released := tset (fun _ => 0) s.released d 3 }
  let s := (dieLinks d).foldl (fun s l => s.retrainEnter l 10) s
  s.raise (rstPage 0) 0 (BitVec.ofNat 32 (0x01000000 + d)) 0

end Sys2Proof.Machine
end

