-- ==== Sys2Proof/Machine/CoreOps.lean ====
section
/-! DEFINITION. The Glaette cores below their instructions (16_glaette_cores): registers and windows, memory protection
and caches, traps and faults, tasks and events, watchdogs, debug halt. -/

namespace Sys2Proof.Machine

def glcPage (c : Nat) : Page := ⟨.glc, c⟩
def tskPage (c : Nat) : Page := ⟨.tsk, c⟩
def wdtPage (c : Nat) : Page := ⟨.wdt, c / 2⟩
def dbgPage : Page := ⟨.dbg, 0⟩
def tskOff (t off : Nat) : Nat := off + 0x20 * t
def wdtOff (c off : Nat) : Nat := off + 0x20 * (c % 2)
def dbgOff (c off : Nat) : Nat := off + 0x20 * c
def coreNode (c : Nat) : Nat := if c < 2 then 0x45 else 0x46

def State.core (s : State) (c : Nat) : Core := tget (fun _ => Core.reset) s.cores c
def State.setCore (s : State) (c : Nat) (x : Core) : State := { s with cores := tset (fun _ => Core.reset) s.cores c x }

/-! Run states: 0 OFF, 1 RUN, 2 HALTED, 3 FAULT_HALT (Table 16-14). -/

def State.coreRun (s : State) (c : Nat) : Nat := s.rfld (glcPage c) 0x44 0 2
def State.setRun (s : State) (c n : Nat) : State := s.setFld (glcPage c) 0x44 0 2 n

/-! Tasks: 0 DISABLED, 1 READY, 2 RUNNING, 3 WAITING, 4 FAULT (Table 16-11). -/

def State.taskState (s : State) (c t : Nat) : Nat := s.rfld (tskPage c) (tskOff t 0x100) 0 3
def State.setTaskState (s : State) (c t n : Nat) : State := s.setFld (tskPage c) (tskOff t 0x100) 0 3 n
def State.taskPrio (s : State) (c t : Nat) : Nat := s.rfld (tskPage c) (tskOff t 0x100) 16 4
def State.taskPriv (s : State) (c t : Nat) : Bool := s.rbit (tskPage c) (tskOff t 0x100) 8
def State.taskSecure (s : State) (c t : Nat) : Bool := s.rbit (tskPage c) (tskOff t 0x100) 9
def State.wsp (s : State) (c t : Nat) : Nat := (s.reg (tskPage c) (tskOff t 0x10C)).toNat
def State.wtop (s : State) (c t : Nat) : Nat := (s.reg (tskPage c) (tskOff t 0x110)).toNat
def State.wlim (s : State) (c t : Nat) : Nat := (s.reg (tskPage c) (tskOff t 0x114)).toNat
def State.setWsp (s : State) (c t n : Nat) : State := s.setReg (tskPage c) (tskOff t 0x10C) (BitVec.ofNat 32 n)

/-- Events of a GLC page (Table 16-16). -/
def State.glcEvent (s : State) (c e mid low : Nat) (addr : DWord) : State :=
  s.raise (glcPage c) e (BitVec.ofNat 32 ((e + 1) * 2 ^ 24 + mid % 256 * 2 ^ 16 + low % 2 ^ 16)) addr

/-! Windows (R378, R379). A freed slot keeps its words. -/

def Core.slot (x : Core) (i : Nat) : WSlot := x.slots.toList.getD i WSlot.free
def Core.setSlot (x : Core) (i : Nat) (w : WSlot) : Core := { x with slots := x.slots.setIfInBounds i w }
def Core.indices : List Nat := List.range 12
/-- F. -/
def Core.freeCount (x : Core) : Nat := (Core.indices.filter fun i => !(x.slot i).valid).length
def Core.freeSlot (x : Core) : Option Nat := Core.indices.find? fun i => !(x.slot i).valid
/-- The OUT slot of a task's chain, its current WIN, and its bottom WIN. -/
def Core.outOf (x : Core) (t : Nat) : Option Nat :=
  Core.indices.find? fun i => (x.slot i).valid && (x.slot i).task == t && (x.slot i).out
def Core.curOf (x : Core) (t : Nat) : Option Nat := (x.outOf t).bind fun o => (x.slot o).below
def Core.bottomOf (x : Core) (t : Nat) : Option Nat :=
  Core.indices.find? fun i => (x.slot i).valid && (x.slot i).task == t && (x.slot i).below == none
def Core.freeTask (x : Core) (t : Nat) (keep : List Nat) : Core :=
  Core.indices.foldl (fun x i =>
    if (x.slot i).valid && (x.slot i).task == t && !keep.contains i then x.setSlot i { x.slot i with valid := false } else x) x

/-- A slot is taken for a task. -/
def Core.take (x : Core) (i : Nat) (w : WSlot) : Core :=
  { x.setSlot i { w with valid := true, age := x.nextAge } with nextAge := x.nextAge + 1 }

/-- The window advances: the OUT slot becomes a WIN with a LINK, the lowest-numbered free slot the new OUT. -/
def Core.advance (x : Core) (t : Nat) (link : Word) : Core :=
  match x.outOf t, x.freeSlot with
  | some o, some f =>
    (x.setSlot o { x.slot o with out := false, link := link &&& ~~~3#32 }).take f
      { x.slot f with task := t, out := true, link := 0, below := some o }
  | _, _ => x

/-- The window retreats: the callee's OUT is freed and its WIN becomes the caller's OUT. -/
def Core.retreat (x : Core) (t : Nat) : Core :=
  match x.outOf t, x.curOf t with
  | some o, some w => (x.setSlot o { x.slot o with valid := false }).setSlot w { x.slot w with out := true }
  | _, _ => x

/-- Register by code (Table 16-1). -/
def State.creg (s : State) (c : Nat) (code : BitVec 5) : Word :=
  let x := s.core c
  let i := code.toNat % 8
  let t := x.task.getD 0
  let half := fun (o : Option Nat) (f : WSlot → Vector Word 8) => match o with
    | some k => (f (x.slot k)).toList.getD i 0
    | none => 0
  match code.toNat / 8 with
  | 0 => x.shared.toList.getD i 0
  | 1 => half (x.curOf t) (·.p)
  | 2 => half (x.curOf t) (·.w)
  | _ => half (x.outOf t) (·.p)

def State.setCreg (s : State) (c : Nat) (code : BitVec 5) (v : Word) : State :=
  let x := s.core c
  let i := code.toNat % 8
  let t := x.task.getD 0
  match code.toNat / 8 with
  | 0 => s.setCore c { x with shared := x.shared.setIfInBounds i v }
  | 1 => match x.curOf t with
    | some k => s.setCore c (x.setSlot k { x.slot k with p := (x.slot k).p.setIfInBounds i v })
    | none => s
  | 2 => match x.curOf t with
    | some k => s.setCore c (x.setSlot k { x.slot k with w := (x.slot k).w.setIfInBounds i v })
    | none => s
  | _ => match x.outOf t with
    | some k => s.setCore c (x.setSlot k { x.slot k with p := (x.slot k).p.setIfInBounds i v })
    | none => s

/-! Status (Table 16-3). -/

/-- Bits of ST that the core stores: MIDX, MACT, TRAP, V, C, N, Z. -/
def stMask : Word := 0x3F1F#32
def State.cpc (s : State) (c : Nat) : Word := (s.core c).pc
def State.setCpc (s : State) (c : Nat) (v : Word) : State := s.setCore c { s.core c with pc := v }
def State.cst (s : State) (c : Nat) : Word := (s.core c).st
def State.setCst (s : State) (c : Nat) (v : Word) : State := s.setCore c { s.core c with st := v }
def State.inTrap (s : State) (c : Nat) : Bool := bit (s.cst c) 4
def State.reserved (s : State) (c : Nat) : Option Nat := tget (fun _ => none) s.resv c
def State.setResv (s : State) (c : Nat) (l : Option Nat) : State := { s with resv := tset (fun _ => none) s.resv c l }

/-- ST of the running task as read. -/
def State.stRead (s : State) (c : Nat) : Word :=
  let x := s.core c
  let t := x.task.getD 0
  (x.st &&& stMask) ||| BitVec.ofNat 32 (b2n (s.reserved c).isSome * 2 ^ 7 + b2n (s.taskPriv c t) * 2 ^ 6
    + b2n (s.taskSecure c t) * 2 ^ 5 + (x.curOf t).getD 0 * 2 ^ 14 + (x.outOf t).getD 0 * 2 ^ 18 + x.freeCount * 2 ^ 22)

/-- The running task has privileged rights. -/
def State.corePriv (s : State) (c : Nat) : Bool := s.inTrap c || ((s.core c).task.map fun t => s.taskPriv c t).getD false
def State.coreSecure (s : State) (c : Nat) : Bool := ((s.core c).task.map fun t => s.taskSecure c t).getD false

/-- Return port of the running task's requests (R391). -/
def State.corePort (s : State) (c : Nat) : Nat := (if s.coreSecure c then 0x38 else 0x30) + c % 2

/-! Countdowns in µs. -/

/-- See the log (DESIGN CHOICE, log entry 8; DESIGN CHOICE, log entry 97). -/
def Countdown.remain (x : Countdown) (now : Nat) : Nat :=
  match x.since with
  | some c => x.left - (now - c)
  | none => x.left

/-- µs remaining, as registers read them. -/
def Countdown.us (x : Countdown) (now : Nat) : Nat := (x.remain now + 1599) / 1600
def Countdown.start (us now : Nat) : Countdown := { left := us * 1600, since := some now }
def Countdown.stop (x : Countdown) (now : Nat) : Countdown := { left := x.remain now, since := none }
/-- See the log (DEDUCED, log entry 75). -/
def Countdown.go (x : Countdown) (now : Nat) : Countdown := { left := x.remain now, since := some now }

/-! Core address space and protection (R390 to R392). -/

/-- What a core address names (Table 16-9). -/
inductive CoreTarget where
  | sram | rom | none
  | aperture (pkg : Nat)
  deriving DecidableEq, Repr

def State.coreTarget (s : State) (c a : Nat) : CoreTarget :=
  if a < 0x100000 then .sram
  else if 0x10000000 ≤ a ∧ a < 0x90000000 then
    let w := s.reg (glcPage c) (0x50 + 4 * (a / 0x10000000 - 1))
    if bit w 31 then .aperture (fld w 0 20 * 2 ^ 28 + a % 0x10000000) else .none
  else if 0xFFFF0000 ≤ a ∧ c = 0 ∧ !s.rbit secPage 0x30 0 then .rom
  else .none

/-- PRIO of the aperture at a core address (R391). -/
def State.apPrio (s : State) (c a : Nat) : Nat := s.rfld (glcPage c) (0x50 + 4 * (a / 0x10000000 - 1)) 24 2

/-- Package address of a core address. -/
def State.corePkg (s : State) (c a : Nat) : Option Nat :=
  match s.coreTarget c a with
  | .sram => some (sramBase + a)
  | .aperture p => some p
  | _ => none

/-- Attributes of an access (Table 16-15). -/
structure MemAttr where
  cached : Bool
  through : Bool
  np : Bool
  deriving DecidableEq, Repr

/-- The MPU (R392): `kind` 0 read, 1 write, 2 execute; none where the access is refused. A privileged task may run the boot
ROM without a region, as R405 has it do at reset. (DEDUCED, log entry 74.) -/
def State.mpu (s : State) (c t a kind : Nat) (priv : Bool) : Option MemAttr :=
  let p := glcPage c
  let hit := (List.range 16).find? fun r =>
    let w := s.reg p (0x108 + 0x10 * r)
    bit w 15 && bit w (16 + t) && decide ((s.reg p (0x100 + 0x10 * r)).toNat ≤ a)
      && decide (a ≤ (s.reg p (0x104 + 0x10 * r)).toNat + 0xFFF)
  match hit with
  | some r =>
    let w := s.reg p (0x108 + 0x10 * r)
    if (!bit w 9 || s.taskSecure c t) && bit w (kind + if priv then 3 else 0) then
      some { cached := bit w 6, through := bit w 7, np := bit w 8 }
    else none
  | none => if priv && (s.rbit p 0x40 1 || (kind == 2 && s.coreTarget c a == .rom)) then some { cached := false, through := false, np := true } else none

/-! Data cache (R393): 256 sets of four lines of 64 bytes. -/

def Core.dset (x : Core) (line : Nat) : List CacheLine := tget (fun _ => []) x.dcache (line % 256)
def Core.putDset (x : Core) (line : Nat) (l : List CacheLine) : Core :=
  { x with dcache := tset (fun _ => []) x.dcache (line % 256) l }
def Core.dfind (x : Core) (line : Nat) : Option CacheLine := (x.dset line).find? fun l => l.line == line

/-- A block of bytes goes to memory from a core: status. Core SRAM is reached directly (R390); the core's own reservation
stands. -/
def State.coreStore (s : State) (c a : Nat) (bs : List Byte) (posted : Bool) : State × Nat :=
  match s.coreTarget c a with
  | .sram =>
    let mine := s.reserved c
    ((s.writeMem (sramBase + a) bs).setResv c mine, stOK)
  | .aperture p => s.store (coreNode c) (s.corePort c) p bs posted
  | _ => (s, 0xE)

def State.coreFetch (s : State) (c a n : Nat) : State × Nat × List Byte :=
  match s.coreTarget c a with
  | .sram => (s, stOK, s.readBytes (sramBase + a) n)
  | .aperture p => s.fetch (coreNode c) (s.corePort c) p n
  | _ => (s, 0xE, [])

/-- A dirty line is written back by a posted store; a failure counts only where it is refused. -/
def State.writeBack (s : State) (c : Nat) (l : CacheLine) : State :=
  if l.dirty then (s.coreStore c (l.line * 64) l.data true).1 else s

/-- The line of an address becomes the most recently used; on a miss it is filled, and the least recently used line of a
full set leaves. -/
def State.lineIn (s : State) (c a : Nat) : State × Nat :=
  let line := a / 64
  match (s.core c).dfind line with
  | some l => (s.setCore c ((s.core c).putDset line (l :: ((s.core c).dset line).filter (·.line != line))), stOK)
  | none =>
    let f := s.coreFetch c (line * 64) 64
    let s := f.1
    if f.2.1 ≠ stOK then (s, f.2.1)
    else
      let set := (s.core c).dset line
      let s := match set.drop 3 with
        | l :: _ => s.writeBack c l
        | [] => s
      (s.setCore c ((s.core c).putDset line ({ line := line, data := f.2.2, dirty := false } :: set.take 3)), stOK)

/-- Data read by a core at an address, through the cache where the region is cacheable. -/
def State.coreRead (s : State) (c a n : Nat) (m : MemAttr) : State × Nat × List Byte :=
  if m.cached ∧ (s.corePkg c a).isSome then
    let x := s.lineIn c a
    match x.2, (x.1.core c).dfind (a / 64) with
    | 0, some l => (x.1, stOK, (l.data.drop (a % 64)).take n)
    | st, _ => (x.1, st, [])
  else
    s.coreFetch c a n

/-- Bytes replaced in a line. -/
def patch (l : List Byte) (off : Nat) (bs : List Byte) : List Byte := l.take off ++ bs ++ l.drop (off + bs.length)

/-- Data written by a core: into the cache where the region writes back, else to memory. The status of a posted store
stays at its target (R394). (DEDUCED, log entry 80.) -/
def State.coreWrite (s : State) (c a : Nat) (bs : List Byte) (m : MemAttr) : State × Nat :=
  let upd := fun (s : State) (dirty : Bool) => match (s.core c).dfind (a / 64) with
    | some l => s.setCore c ((s.core c).putDset (a / 64)
        ({ l with data := patch l.data (a % 64) bs, dirty := l.dirty || dirty } :: ((s.core c).dset (a / 64)).filter (·.line != a / 64)))
    | none => s
  if m.cached ∧ !m.through ∧ (s.corePkg c a).isSome then
    let x := s.lineIn c a
    if x.2 = stOK then (upd x.1 true, stOK) else x
  else
    let s := if m.cached then upd s false else s
    let x := s.coreStore c a bs (!m.np)
    (x.1, if m.np ∨ x.2 = 0xE then x.2 else stOK)

/-- A line is written back on request, or discarded (R387). -/
def State.cacheClean (s : State) (c a : Nat) : State :=
  match (s.core c).dfind (a / 64) with
  | some l =>
    let s := s.writeBack c l
    s.setCore c ((s.core c).putDset (a / 64) (((s.core c).dset (a / 64)).map fun k => if k.line = a / 64 then { k with dirty := false } else k))
  | none => s

def State.cacheDrop (s : State) (c a : Nat) : State :=
  s.setCore c ((s.core c).putDset (a / 64) (((s.core c).dset (a / 64)).filter (·.line != a / 64)))

/-- The instruction cache takes the line of a fetch, or drops it. -/
def State.icacheIn (s : State) (c a : Nat) : State :=
  let x := s.core c
  let l := tget (fun _ => []) x.icache (a / 64 % 256)
  s.setCore c { x with icache := tset (fun _ => []) x.icache (a / 64 % 256) ((a / 64 :: l.filter (· != a / 64)).take 4) }

def State.icacheDrop (s : State) (c a : Nat) : State :=
  let x := s.core c
  s.setCore c { x with icache := tset (fun _ => []) x.icache (a / 64 % 256) ((tget (fun _ => []) x.icache (a / 64 % 256)).filter (· != a / 64)) }

/-! Debug halt (R469, R471). -/

/-- REASON: 1 request, 2 BKPT or comparator, 3 step or reset. -/
def State.haltCore (s : State) (c reason : Nat) : State :=
  let s := (s.setRun c 2).setReg dbgPage (dbgOff c 0x104) (BitVec.ofNat 32 (1 + reason * 4))
  let x := s.core c
  let wdt := if s.rbit (wdtPage c) (wdtOff c 0x100) 1 then x.wdt.stop s.cycle else x.wdt
  (s.setCore c { x with haltAsk := false, stepping := false, wdt := wdt }).raise dbgPage 0
    (BitVec.ofNat 32 (0x01000000 + c * 2 ^ 16 + reason)) 0

/-- The core runs on; a frozen watchdog resumes with at least GRACE left (R407). -/
def State.resumeCore (s : State) (c : Nat) (step : Bool) : State :=
  if s.coreRun c ≠ 2 ∨ s.sec.halt then s
  else
    let s := (s.setRun c 1).setReg dbgPage (dbgOff c 0x104) (s.reg dbgPage (dbgOff c 0x104) &&& 0xC#32)
    let x := s.core c
    let grace := 1600 * (s.reg (wdtPage c) (wdtOff c 0x108)).toNat
    let wdt := if s.rbit (wdtPage c) (wdtOff c 0x100) 0 && x.wdt.since == none then
        { left := max x.wdt.left grace, since := some s.cycle } else x.wdt
    s.setCore c { x with stepping := step, wdt := wdt }

/-- A halt is asked for: at once, or after an open locked sequence (R397, R469). -/
def State.askHalt (s : State) (c : Nat) : State :=
  if s.coreRun c ≠ 1 then s
  else if (s.reserved c).isSome then
    (s.setCore c { s.core c with haltAsk := true }).setBit dbgPage (dbgOff c 0x104) 1 true
  else s.haltCore c 1

/-! Faults and watchdogs (R382, R400, R406 to R409). -/

/-- A task's event bit is set; a waiting task whose mask holds it becomes READY (R402). -/
def State.setEvents (s : State) (c t : Nat) (w : Word) : State :=
  let s := s.setReg (tskPage c) (tskOff t 0x118) (s.reg (tskPage c) (tskOff t 0x118) ||| w)
  if s.taskState c t = 3 ∧ s.reg (tskPage c) (tskOff t 0x118) &&& tget (fun _ => 0) (s.core c).masks t ≠ 0 then
    s.setTaskState c t 1
  else s

def otherCores (c : Nat) : List Nat := (List.range 4).filter (· != c)

/-- An event bit reaches the FAULT_TASK of every other core. -/
def State.tellOthers (s : State) (c i : Nat) : State :=
  (otherCores c).foldl (fun s o => s.setEvents o (s.rfld (glcPage o) 0x40 4 4) (BitVec.ofNat 32 (2 ^ i))) s

/-- Events of a WDT page (Table 16-21). -/
def State.wdtEvent (s : State) (c e mid low : Nat) : State :=
  s.raise (wdtPage c) e (BitVec.ofNat 32 ((e + 1) * 2 ^ 24 + mid * 2 ^ 16 + low)) 0

/-- The package watchdog expires (R409). -/
def State.pkgExpire (s : State) : State :=
  if s.rbit (wdtPage 0) 0x40 0 then
    let cold := s.rbit (wdtPage 0) 0x40 1
    (s.wdtEvent 0 2 0 (b2n cold)).capReset (if cold then .cold else .warm) 5
  else s

/-- The core enters FAULT_HALT: 1 WINDOW, 2 NESTED, 3 WATCHDOG. -/
def State.faultHalt (s : State) (c cause : Nat) : State :=
  let t := (s.core c).task.getD 0
  let s := (((s.setRun c 3).setFld (glcPage c) 0x44 8 4 cause).setReg (glcPage c) 0x4C (s.cpc c)).setResv c none
  let s := s.setCore c { s.core c with haltAsk := false, stepping := false, bus := none }
  (s.tellOthers c 30).glcEvent c 0 cause t ((s.cpc c).setWidth 64)

/-- A core watchdog's count, reloaded; one that is not enabled, or frozen in a debug halt (R407), does not run.
(DEDUCED, log entry 75.) -/
def State.wdtLoad (s : State) (c : Nat) : Countdown :=
  let ctrl := wdtOff c 0x100
  let full := Countdown.start (s.reg (wdtPage c) (wdtOff c 0x104)).toNat s.cycle
  let frozen := (s.core c).wdt.since.isNone && s.rbit (wdtPage c) ctrl 1 && s.coreRun c == 2
  if !s.rbit (wdtPage c) ctrl 0 || frozen then full.stop s.cycle else full

/-- A core watchdog acts (R406): cause 1 TIMEOUT, 2 FAULT, 3 BAD_KEY; ENABLE governs its count alone.
(DEDUCED, log entry 75.) -/
def State.wdtFire (s : State) (c cause : Nat) : State :=
  let s := (s.bump (wdtPage c) (wdtOff c 0x114)).wdtEvent c 0 c cause
  let s := s.tellOthers c 29
  if s.rbit (wdtPage c) (wdtOff c 0x100) 2 then
    let s := s.setCore c { s.core c with wdt := Countdown.zero }
    if s.coreRun c = 3 then s
    else
      let s := s.faultHalt c 3
      if s.rbit (wdtPage 0) 0x40 2 then s.pkgExpire else s
  else s.setCore c { s.core c with wdt := s.wdtLoad c }

/-- A core fault: FAULT_HALT, its watchdog's expiry, and the package watchdog's where ON_FAULT asks for it. -/
def State.coreFault (s : State) (c cause : Nat) : State :=
  let s := (s.faultHalt c cause).wdtFire c 2
  if s.rbit (wdtPage 0) 0x40 2 then s.pkgExpire else s

/-! Spilling and filling (R380). -/

/-- The 80-byte record of a slot. -/
def slotRecord (w : WSlot) : List Byte :=
  (w.p.toList ++ w.w.toList ++ [w.link &&& ~~~3#32]).flatMap wordBytes ++ List.replicate 12 0

def slotOfRecord (l : List Byte) : WSlot :=
  let w := fun i => bytesWord ((l.drop (4 * i)).take 4)
  { WSlot.free with p := Vector.ofFn fun i : Fin 8 => w i.val, w := Vector.ofFn fun i : Fin 8 => w (8 + i.val)
                    link := w 16 &&& ~~~3#32 }

/-- Slots WSPILL may not choose: the current WIN and OUT, and in a trap the interrupted WIN. -/
def State.spillKept (s : State) (c : Nat) : List Nat :=
  let x := s.core c
  match x.task with
  | none => []
  | some t => (x.outOf t).toList ++ (x.curOf t).toList ++
      (if s.inTrap c then x.intr.toList else [])

/-- A task's view of memory is privileged: by its attribute, or in its trap handler (R392). -/
def State.viewPriv (s : State) (c t : Nat) : Bool := s.taskPriv c t || ((s.core c).task == some t && s.inTrap c)

/-- A task enters FAULT with cause WSTACK; its slots are freed but for those that its running handler still uses (R380,
Table 16-12). (DEDUCED, log entry 76.) -/
def State.taskFault (s : State) (c t : Nat) : State :=
  let x := s.core c
  let s := s.setCore c (x.freeTask t (if x.task = some t then s.spillKept c else []))
  let s := (s.setTaskState c t 4).setFld (tskPage c) (tskOff t 0x100) 4 4 1
  (s.setWsp c t (s.wtop c t)).glcEvent c 1 1 t 0

/-- Outcome of a spill: no slot qualified, the victim task and whether it faulted, or the status of a failed store. -/
inductive SpillOut where
  | none
  | done (t : Nat) (fault : Bool)
  | bus (status addr : Nat)
  deriving DecidableEq, Repr

/-- One WSPILL. -/
def State.spillOne (s : State) (c : Nat) : State × SpillOut :=
  let x := s.core c
  let keep := s.spillKept c
  let can := Core.indices.filter fun i => (x.slot i).valid && !keep.contains i
  match can with
  | [] => (s, .none)
  | i :: rest =>
    let old := rest.foldl (fun b j => if (x.slot j).age < (x.slot b).age then j else b) i
    let t := (x.slot old).task
    match x.bottomOf t with
    | none => (s, .none)
    | some v =>
      let a := s.wsp c t - 80
      let priv := s.viewPriv c t
      match s.mpu c t a 1 priv, s.mpu c t (a + 79) 1 priv with
      | some m, some _ =>
        if 80 ≤ s.wsp c t ∧ s.wlim c t ≤ a then
          -- a record may straddle two cache lines
          let n := 64 - a % 64
          let r := slotRecord (x.slot v)
          let y := s.coreWrite c a (r.take n) m
          let z := if y.2 ≠ stOK then y else if n < 80 then y.1.coreWrite c (a + n) ((r.drop n).take 64) m else y
          let z := if z.2 ≠ stOK ∨ 80 ≤ n + 64 then z else z.1.coreWrite c (a + n + 64) (r.drop (n + 64)) m
          if z.2 ≠ stOK then (z.1, .bus z.2 a)
          else
            let x := z.1.core c
            let x := Core.indices.foldl (fun x j =>
              if (x.slot j).valid && (x.slot j).below == some v then x.setSlot j { x.slot j with below := none } else x) x
            ((z.1.setCore c (x.setSlot v { x.slot v with valid := false })).setWsp c t a, .done t false)
        else (s.taskFault c t, .done t true)
      | _, _ => (s.taskFault c t, .done t true)

/-- A record of 80 bytes at a core address. -/
def State.readRecord (s : State) (c a : Nat) (m : MemAttr) : State × Nat × List Byte :=
  (List.range 20).foldl (fun (x : State × Nat × List Byte) i =>
    if x.2.1 ≠ stOK then x
    else
      let y := x.1.coreRead c (a + 4 * i) 4 m
      (y.1, y.2.1, x.2.2 ++ y.2.2)) (s, stOK, [])

/-- One WFILL of a task's record at its WSP into the lowest-numbered free slot: `out` for the task's OUT slot, else the
new bottom WIN. Answers the status of the read. -/
def State.fillOne (s : State) (c t : Nat) (out : Bool) : State × Nat :=
  match s.mpu c t (s.wsp c t) 0 (s.viewPriv c t) with
  | none => (s, stDenied)
  | some m =>
    let r := s.readRecord c (s.wsp c t) m
    if r.2.1 ≠ stOK then (r.1, r.2.1)
    else
      let s := r.1
      let x := s.core c
      match x.freeSlot with
      | none => (s, stDenied)
      | some f =>
        let bottom := x.bottomOf t
        let x := x.take f { slotOfRecord r.2.2 with task := t, out := out, below := none }
        let x := match bottom with
          | some b => x.setSlot b { x.slot b with below := some f }
          | none => x
        ((s.setCore c x).setWsp c t (s.wsp c t + 80), stOK)

/-! Task switches (R403, R404). -/

/-- Spills until F ≥ 3. A store that fails faults its task as a spill without room does. (DEDUCED, log entry 76.) -/
def State.spillFor (s : State) (c : Nat) : Nat → State
  | 0 => s
  | fuel + 1 =>
    if 3 ≤ (s.core c).freeCount then s
    else match s.spillOne c with
      | (s', .done _ _) => s'.spillFor c fuel
      | (s', .bus _ _) =>
        let x := s'.core c
        let old := (Core.indices.filter fun i => (x.slot i).valid).foldl
          (fun b j => if (x.slot j).age < (x.slot b).age then j else b) ((Core.indices.find? fun i => (x.slot i).valid).getD 0)
        (s'.taskFault c (x.slot old).task).spillFor c fuel
      | (s', .none) => s'

/-- The incoming task's windows are in the ring (R404); false where they could not be read. -/
def State.ensureWindows (s : State) (c t : Nat) : State × Bool :=
  if (s.core c).outOf t ≠ none then (s, true)
  else
    let s := s.spillFor c 16
    if s.wsp c t = s.wtop c t then
      let x := s.core c
      match x.freeSlot with
      | none => (s, false)
      | some i =>
        let x := x.take i { WSlot.free with task := t }
        match x.freeSlot with
        | none => (s, false)
        | some j => (s.setCore c (x.take j { WSlot.free with task := t, out := true, below := some i }), true)
    else
      let a := s.fillOne c t true
      if a.2 ≠ stOK then (a.1, false)
      else
        let b := a.1.fillOne c t false
        (b.1, b.2 == stOK)

/-- The running task leaves the core: PC and ST to its TSK registers, and its new state. -/
def State.suspend (s : State) (c n : Nat) : State :=
  let x := s.core c
  match x.task with
  | none => s
  | some t =>
    let s := (s.setReg (tskPage c) (tskOff t 0x104) x.pc).setReg (tskPage c) (tskOff t 0x108) (x.st &&& stMask)
    let s := (s.setTaskState c t n).setResv c none
    (s.setCore c { s.core c with task := none }).setBit (glcPage c) 0x44 16 true

/-- A READY task takes the core; one whose windows cannot be filled enters FAULT. (DEDUCED, log entry 76.) -/
def State.resumeTask (s : State) (c t : Nat) : State :=
  let w := s.ensureWindows c t
  if !w.2 then w.1.taskFault c t
  else
    let s := (w.1.setTaskState c t 2).bump (glcPage c) 0x78
    let s := (s.setFld (glcPage c) 0x44 4 4 t).setBit (glcPage c) 0x44 16 false
    s.setCore c { s.core c with task := some t, pc := s.reg (tskPage c) (tskOff t 0x104)
                                st := s.reg (tskPage c) (tskOff t 0x108) &&& stMask, intr := none, turnDue := false }

/-- The READY task of highest priority, first in rotation (R403). -/
def State.bestTask (s : State) (c : Nat) : Option Nat :=
  let l := (s.core c).order.filter fun t => s.taskState c t == 1
  l.foldl (fun b t => match b with
    | none => some t
    | some u => if s.taskPrio c u < s.taskPrio c t then some t else some u) none

/-- A task goes behind the others of its priority. -/
def State.rotate (s : State) (c t : Nat) : State :=
  s.setCore c { s.core c with order := (s.core c).order.filter (· != t) ++ [t] }

/-- The running task's turn ends (R403): it goes behind the others of its priority and leaves for one of them; in a trap or
a locked sequence the switch waits (R397, R399). (DEDUCED, log entry 76.) -/
def State.giveWay (s : State) (c : Nat) : State :=
  match (s.core c).task with
  | none => s
  | some t =>
    let s := s.rotate c t
    match s.bestTask c with
    | some u =>
      if s.taskPrio c t ≤ s.taskPrio c u then
        if s.inTrap c || (s.reserved c).isSome then s.setCore c { s.core c with turnDue := true } else s.suspend c 1
      else s
    | none => s

/-- What may happen at an instruction boundary (R401, R403, R469): a task that may no longer run leaves; a READY task of
higher priority takes over, or one of the same where a switch is due, outside traps and locked sequences. `fuel` bounds the
tasks tried when windows cannot be filled. -/
def State.schedule (s : State) (c : Nat) : Nat → State
  | 0 => s
  | fuel + 1 =>
    if s.coreRun c ≠ 1 then s
    else
      let x := s.core c
      match x.task with
      | some t =>
        if s.inTrap c || (s.reserved c).isSome then s
        else if s.taskState c t ≠ 2 then
          (((s.setCore c (x.freeTask t [])).setCore c { x.freeTask t [] with task := none }).setBit (glcPage c) 0x44 16 true).schedule c fuel
        else
          let due := x.turnDue
          let s := if due then s.setCore c { x with turnDue := false } else s
          match s.bestTask c with
          | some u =>
            if s.taskPrio c t < s.taskPrio c u ∨ (due = true ∧ s.taskPrio c t = s.taskPrio c u) then
              (s.suspend c 1).resumeTask c u
            else s
          | none => s
      | none => match s.bestTask c with
        | some u =>
          let s' := s.resumeTask c u
          if (s'.core c).task = none then s'.schedule c fuel else s'
        | none => s.setBit (glcPage c) 0x44 16 true

/-- See the log (DEDUCED, log entry 76). -/
def State.boundary (s : State) (c : Nat) : State :=
  if s.coreRun c ≠ 1 then s
  else
    if (s.core c).haltAsk && (s.reserved c).isNone then s.haltCore c 1 else s.schedule c 17

/-- A step ends with its instruction (R470). -/
def State.stepEnd (s : State) (c : Nat) : State :=
  if (s.core c).stepping && s.coreRun c == 1 && (s.core c).bus.isNone then s.haltCore c 3 else s

/-- Every core meets a boundary: after events from outside. -/
def State.allBoundaries (s : State) : State := (List.range 4).foldl (fun s c => s.boundary c) s

/-- A core with no task runs on once one is READY: its clock has stopped until an event (R403). -/
def State.wakeCores (s : State) : State :=
  (List.range 4).foldl (fun s c => if (s.core c).task.isNone then s.boundary c else s) s

/-! Traps (R398, R399). -/

/-- A trap with a cause code, detail, XADDR and XPC. -/
def State.trap (s : State) (c code detail : Nat) (xaddr xpc : Word) : State :=
  if s.inTrap c then s.coreFault c 2
  else
    let x := s.core c
    let t := x.task.getD 0
    let y := { x with xst := s.stRead c, xpc := xpc, xcause := BitVec.ofNat 32 (code + detail % 2 ^ 16 * 2 ^ 16), xaddr := xaddr
                      st := x.st ||| 0x10#32, bus := none, intr := x.curOf t }
    let y := { y.advance t 0 with pc := s.reg (glcPage c) 0x48 + BitVec.ofNat 32 (16 * code) }
    let s := (s.setCore c y).setResv c none
    if code = 7 then s.bump (glcPage c) 0x70 else if code = 8 then s.bump (glcPage c) 0x74 else s

/-! Starting and resetting cores (R400, R405). -/

/-- A task ends or is disabled (R381, R401): its slots are freed without a store, WSP := WTOP.
(DEDUCED, log entry 76.) -/
def State.taskOff (s : State) (c t : Nat) : State :=
  let s := s.setCore c ((s.core c).freeTask t [])
  let s := ((s.setTaskState c t 0).setBit (tskPage c) (tskOff t 0x100) 31 false)
  let s := s.setWsp c t (s.wtop c t)
  if (s.core c).task = some t then
    ((s.setCore c { s.core c with task := none, st := 0 }).setResv c none).setBit (glcPage c) 0x44 16 true
  else s

/-- HALT_ON_RESET stops a core before its first instruction after a cap reset (R471); core 0 in open states alone. -/
def State.haltsOnReset (s : State) (c : Nat) (rom first : Bool) : Bool :=
  s.rbit dbgPage (dbgOff c 0x100) 5 && s.board.vccDbg &&
    if c = 0 then rom && (s.fuses.state == 0 || decide (3 ≤ s.fuses.state)) else first

/-- Task 0 of a core starts at an address, privileged (R405); another task that runs leaves the core, and a core in a halt or
a fault stays there. `rom`: core 0 at reset runs the boot ROM, secure. (DEDUCED, log entry 60.) -/
def State.coreStart (s : State) (c : Nat) (entry : Word) (rom : Bool) : State :=
  let first := s.coreRun c == 0
  let s := match (s.core c).task with
    | some (_ + 1) => s.suspend c 1
    | _ => (s.setCore c { s.core c with task := none }).setResv c none
  let s := s.setCore c (if c = 0 then { s.core c with slots := (s.core c).slots.map fun w => { w with valid := false } }
    else (s.core c).freeTask 0 [])
  let s := s.setWsp c 0 (s.wtop c 0)
  let o := tskOff 0 0x100
  let w := (s.reg (tskPage c) o &&& 0x000F0200#32) ||| (if rom then 0x80000302#32 else 0x80000102#32)
  let s := s.setReg (tskPage c) o w
  let s := if s.coreRun c ≤ 1 then s.setRun c 1 else s
  let s := (s.ensureWindows c 0).1
  let s := (s.setFld (glcPage c) 0x44 4 4 0).setBit (glcPage c) 0x44 16 false
  let s := s.setCore c { s.core c with task := some 0, pc := entry, st := 0, bus := none, intr := none, turnDue := false }
  if s.coreRun c == 1 && s.haltsOnReset c rom first then s.haltCore c 3 else s

/-- A write of 1 to CORE_RESET (R400). -/
def State.coreReset (s : State) (c : Nat) : State :=
  let x := s.core c
  let s := s.setCore c { x with shared := Vector.replicate 8 0, slots := Vector.replicate 12 WSlot.free, dcache := []
                                icache := [], task := none, st := 0, bus := none, intr := none, turnDue := false
                                haltAsk := false }
  let s := (List.range 16).foldl (fun s t => s.taskOff c t) (s.setResv c none)
  let s := if s.coreRun c = 3 ∧ !s.sec.halt then (s.setRun c 1).setFld (glcPage c) 0x44 8 4 0 else s
  let s := s.setBit (glcPage c) 0x44 16 true
  if x.haltAsk ∧ s.coreRun c = 1 then s.haltCore c 1 else s

/-- Every core that runs stops for good: tamper HALT (R296). -/
def State.haltAllCores (s : State) : State :=
  (List.range 4).foldl (fun s c => if s.coreRun c = 1 then s.setRun c 2 else s) s

end Sys2Proof.Machine
end

