-- ==== Sys2Proof/Machine/Image.lean ====
section
/-! DEFINITION. Image streams (13_configuration, R304 to R309): the header and its checks, record formats, and the encoding
checks that the loader makes. -/

namespace Sys2Proof.Machine

def cfgPage : Page := ⟨.cfg, 0⟩

/-! Header (Table 13-1). -/

/-- A field of a byte string: `n` bytes from offset `o`, least significant first. -/
def num (l : List Byte) (o n : Nat) : Nat := bytesNat ((l.drop o).take n)

def hKind (h : List Byte) : Nat := num h 11 1
def hSlot (h : List Byte) : Nat := num h 12 1
def hVersion (h : List Byte) : Nat := num h 16 4
def hScope (h : List Byte) : BitVec 128 := BitVec.ofNat 128 (num h 24 16)
def hLen (h : List Byte) : Nat := num h 40 8
def hEph (h : List Byte) : List Byte := (h.drop 64).take 96
def hSigner (h : List Byte) : List Byte := (h.drop 160).take 96

/-- The first byte offset at which a header breaks Table 13-1. (DEDUCED, log entry 54.) -/
def headerFlaw (h : List Byte) : Option Nat :=
  let tests : List (Nat × Bool) :=
    [(0, num h 0 4 == 0x4954524B), (4, num h 4 2 == 1), (6, num h 6 2 == 352), (11, decide (hKind h ≤ 2)),
     (12, decide (hSlot h < 8)), (13, num h 13 1 == 0), (14, num h 14 2 % 2 == 1 && decide (num h 14 2 < 512)),
     (16, decide (hVersion h ≤ 64)), (20, num h 20 4 == 0), (24, hKind h == 1 || hScope h == 0),
     (40, decide (384 ≤ hLen h) && hLen h % 8 == 0), (60, num h 60 4 == 0), (64, hSlot h == 1 || num h 64 96 == 0)]
  if h.length ≠ 352 then some 0 else (tests.find? fun t => !t.2).map (·.1)

/-- Key slots and images that a life-cycle state admits (Table 12-6). -/
def stateAdmits (state slot : Nat) : Bool :=
  match state with
  | 0 => decide (slot ≤ 1)
  | 1 | 3 => true
  | 2 => slot != 0
  | _ => false

/-- Index of the ROLLBACK field of a KIND: FULL, GOLDEN, PARTIAL (Table 12-3). -/
def rollbackIdx (kind : Nat) : Nat := if kind = 0 then 0 else if kind = 2 then 1 else 2

def State.booted (s : State) : Bool := s.rbit cfgPage 0x44 31

/-- KEY_FAIL: the PUF reconstruction failed its check (R283). -/
def State.keyFail (s : State) : Bool := s.sec.keyFail

def regionsOf (m : BitVec 128) : List Nat := (List.range 128).filter fun r => m.getLsbD r

/-- A region a partial image may load: ACTIVE or CLEARED, awake and not under test (check 8, Table 14-6). -/
def State.regionLoadable (s : State) (r : Nat) : Bool :=
  (s.rgnState r == stActive || s.rgnState r == stCleared) && !s.underTest (rgnPage r) && s.gate (regionNode r) != gateAsleep

/-- Header checks in the order of Table 13-2: error code, detail and ERR_ADDR of the first that fails.
(DEDUCED, log entry 54.) -/
def State.headerCheck (s : State) (h : List Byte) : Option (Nat × Nat × Nat) :=
  let kind := hKind h
  let dies := num h 14 2
  let present := 1 + 2 * s.rfld (pkgPage 0) 0x44 0 8
  let missing := ((List.range 9).map fun d => if dies / 2 ^ d % 2 = 1 ∧ present / 2 ^ d % 2 = 0 then 2 ^ d else 0).sum
  let level := s.rfld (pkgPage 0) 0x48 8 8
  let n := rollbackIdx kind
  match headerFlaw h with
  | some o => some (0x01, o, 0)
  | none =>
    if num h 8 2 ≠ 0x8160 ∨ missing ≠ 0 then some (0x02, missing, 0)
    else if level < num h 10 1 then some (0x03, num h 10 1, level)
    else if !(s.signerOk (hSigner h) && Config.ecdsaOk (hSigner h) ((h.drop 256).take 96) (h.take 256)) then some (0x04, 0, 0)
    else if !stateAdmits s.fuses.state (hSlot h) || ((s.scanTaint || s.keyFail) && hSlot h != 0) then
      some (0x05, s.fuses.state, 0)
    else if (s.imageKey (hSlot h) (hEph h)).isNone then some (0x06, hSlot h, 0)
    else if s.fuses.state ≠ 0 ∧ hVersion h < s.fuses.rollbackOf n then some (0x07, hVersion h, s.fuses.rollbackOf n)
    else if kind = 1 then
      if !s.booted || hScope h == 0 then some (0x08, 0xFFFF, 0)
      else ((regionsOf (hScope h)).find? fun r => !s.regionLoadable r).map fun r => (0x08, r, 0)
    else if s.booted || s.loader.sluice then some (0x08, 0xFFFF, 0)
    else none

/-- The image key of a checked header. -/
def State.headerKey (s : State) (h : List Byte) : List Byte := (s.imageKey (hSlot h) (hEph h)).getD []

/-! Records (Tables 13-3, 13-4). -/

/-- The 16-byte header of a record, then its payload. -/
def Rec.bytes (r : Rec) : List Byte :=
  natBytes 1 r.type ++ natBytes 1 r.cond ++ [0, 0] ++ natBytes 4 r.data.length ++ natBytes 8 r.target.toNat ++ r.data

def Rec.node (r : Rec) : Nat := dfld r.target 40 8
def Rec.tile (r : Rec) : Nat := dfld r.target 48 6
def Rec.region (r : Rec) : Nat := nodeRegion r.node
def Rec.addr (r : Rec) : Nat := dfld r.target 0 48
def Rec.word (r : Rec) (o : Nat) : Word := BitVec.ofNat 32 (num r.data o 4)
def Rec.dword (r : Rec) (o : Nat) : DWord := BitVec.ofNat 64 (num r.data o 8)

/-- Bits of TARGET that a type uses. -/
def targetMask (type : Nat) : Nat :=
  match type with
  | 0x01 | 0x02 | 0x03 => 0x003FFF0000000000
  | 0x04 | 0x05 | 0x07 | 0x0F => 0xFF0000000000
  | 0x06 => 0x0001FF0000000000
  | 0x08 => 0xFFFFF
  | 0x09 | 0x0A => 0xFFFFFFFFFFF8
  | _ => 0

/-- Bytes of a COG record for a round length; LEN stays a multiple of 8. (DEDUCED, log entry 58.) -/
def cogLen (rounds : Nat) : Nat := (4 * rounds + 7) / 8 * 8

/-- LEN that a type allows. (DEDUCED, log entry 58.) -/
def lenOk (type len rounds : Nat) : Bool :=
  match type with
  | 0x01 => len == 16 * 392
  | 0x02 => len == 16 * 80
  | 0x03 => len == 8 + 8 * 64
  | 0x04 => len == 272
  | 0x05 => len == 48
  | 0x06 => len == cogLen rounds
  | 0x07 | 0x0A | 0x11 => len == 8
  | 0x08 => len != 0 && len % 32 == 0
  | 0x09 => len != 0
  | 0x0B => len == 24
  | 0x0C | 0x0D => len == 16
  | 0x0E => len == 32
  | 0x0F => len != 0
  | 0x10 => len != 0 && len % 16 == 0
  | 0x7F => len == 0
  | _ => false

/-- Homes of IOB pages. -/
def iobDie (node : Nat) : Option Nat := if node = 0x75 then some 0 else (List.range 9).find? fun d => d != 0 && homeNode d == node

/-- Bytes of a MEMORY or ZERO record's target. -/
def Rec.span (r : Rec) : Nat := if r.type = 0x0A then num r.data 0 8 else r.data.length

/-- A target of MEMORY and ZERO records (R308). -/
def spanOk (a n : Nat) : Bool :=
  match windowOf a n with
  | .hbm => !(decide (0x17FE000000 < a % 2 ^ 40 + n))
  | .bank _ | .tile _ _ | .regs => true
  | .sram => decide (a - sramBase + n ≤ 0xFC000)
  | _ => false

/-- A TXDEST entry keeps R168: its bits mean a BE destination, or none is set. -/
def txdestOk (w : Word) : Bool := (bit w 24 && decide (fld w 8 8 ≤ 0xF) && w &&& ~~~0x0103FFFF#32 == 0) || w == 0

/-- The payload of a record keeps its format, as far as the record alone shows. A LONGEST byte above 8 breaks it, so that
the stream fails with BAD_RECORD. (DESIGN CHOICE, log entry 102.) -/
def payloadOk (r : Rec) : Bool :=
  match r.type with
  | 0x02 => (List.range 16).all fun c => num r.data (80 * c + 77) 3 == 0 && decide (num r.data (80 * c + 76) 1 < 32)
      && decide (num r.data (80 * c + 72) 2 < 2048) && decide (num r.data (80 * c + 74) 2 < 2048)
  | 0x04 => num r.data 201 3 == 0 && decide (num r.data 200 1 ≤ 8) && r.word 204 &&& ~~~islMask == 0 &&
      (List.range 16).all fun q => txdestOk (r.word (208 + 4 * q))
  | 0x05 => (List.range 6).all fun k => r.word (8 * k) &&& ~~~0xF7#32 == 0 && decide (fld (r.word (8 * k)) 4 4 < 6)
      && r.word (8 * k + 4) &&& ~~~0xFC#32 == 0 && decide (fld (r.word (8 * k + 4)) 2 3 < 6)
  | 0x06 => nodeExists r.node
  | 0x07 => nodeExists r.node && num r.data 4 4 == 0 && (List.range 4).all fun p => decide (num r.data p 1 ≤ 3)
  | 0x08 => decide (r.addr + r.data.length / 32 ≤ 2 ^ 20)
  | 0x09 => spanOk r.addr r.data.length
  | 0x0A => num r.data 0 8 % 8 == 0 && spanOk r.addr (num r.data 0 8)
  | 0x0B => decide (16 ≤ num r.data 0 2 ∧ num r.data 0 2 ≤ 1024) && decide (100 ≤ num r.data 4 2 ∧ num r.data 4 2 ≤ 450) && decide (num r.data 2 1 < 4) && num r.data 3 1 == 0
      && num r.data 6 2 == 0 && num r.data 20 4 == 0 && (List.range 12).all fun l => decide (num r.data (8 + l) 1 ≤ 32)
  | 0x0D => num r.data 6 2 == 0 && r.word 0 &&& ~~~0x3FF#32 == 0
  | 0x0E => (List.range 4).all fun c => r.word (8 * c + 4) &&& ~~~1#32 == 0
  -- settings identifiers only (R414)
  | 0x10 => (List.range (r.data.length / 16)).all fun i => fld (r.word (16 * i)) 30 2 == 1
  | 0x0F => (iobDie r.node).isSome && (List.range (r.data.length / 8)).all fun i =>
      let w := r.dword (8 * i)
      let d := (iobDie r.node).getD 0
      if 0x80 ≤ pwPin w then decide (pwPin w < 0x88) && d != 0 else pinWordOk d (pwPin w) w
  | 0x11 => decide (64 ≤ num r.data 0 2 ∧ num r.data 0 2 ≤ 32767) && num r.data 2 6 == 0
  | _ => true

/-- A region node with a tile for a frame record; existing nodes for the others. -/
def targetOk (r : Rec) : Bool :=
  r.target.toNat &&& (2 ^ 64 - 1 - targetMask r.type) == 0 &&
  (match r.type with
   | 0x01 | 0x02 | 0x03 => isRegionNode r.node && decide (r.tile < 36)
   | 0x04 | 0x05 => isRegionNode r.node
   | _ => true)

/-- A record keeps the rules of R306 to R308 that concern it alone. -/
def recOk (r : Rec) (rounds : Nat) : Bool :=
  (r.cond == 0 || (r.type == 0x06 && decide (r.cond < 16))) && r.data.length % 8 == 0 && decide (r.data.length ≤ 0x1000000)
    && lenOk r.type r.data.length rounds && targetOk r && payloadOk r

/-- Two records for the same thing (R308). -/
def sameTarget (a b : Rec) : Bool :=
  a.type == b.type && a.cond == b.cond &&
  (match a.type with
   | 0x01 | 0x02 | 0x03 | 0x04 | 0x05 | 0x07 => a.node == b.node && a.tile == b.tile
   | 0x06 => a.node == b.node && dfld a.target 48 1 == dfld b.target 48 1
   | 0x08 => decide (a.addr < b.addr + b.data.length / 32) && decide (b.addr < a.addr + a.data.length / 32)
   | 0x0B | 0x0C | 0x0D | 0x0E | 0x11 => true
   | _ => false)

/-! Region-level encoding checks (R309). -/

/-- An error of a region: code, detail, ERR_ADDR. -/
abbrev RgnErr := Nat × Nat × Nat

def tileAddr (node tile : Nat) : Nat := node * 2 ^ 40 + tile * 2 ^ 34
def cellAddr (node tile cell : Nat) : Nat := tileAddr node tile + cell * 2 ^ 30

/-- Control word, and micro-instruction of context x slot i, of cell c of a CELL record. -/
def Rec.ctl (r : Rec) (c : Nat) : DWord := r.dword (392 * c)
def Rec.slot (r : Rec) (c x i : Nat) : BitVec 48 := BitVec.ofNat 48 (num r.data (392 * c + 8 + 6 * (8 * x + i)) 6)

/-- Cells, contexts and slots in order. -/
def allSlots : List (Nat × Nat × Nat) :=
  (List.range 16).flatMap fun c => (List.range 8).flatMap fun x => (List.range 8).map fun i => (c, x, i)

/-- A control word without reserved values (R72). -/
def ctlOk (w : DWord) : Bool := w.extractLsb' 47 17 == 0 && decide (steerOf w ≤ 4)

/-- `CELL_ENCODING` (R72, R87): the first refused cell, context, slot. Of a slot beyond LEN only the reserved bits are
looked at (R87, R100). -/
def cellErr (r : Rec) : Option RgnErr :=
  match (List.range 16).find? fun c => !ctlOk (r.ctl c) with
  | some c => some (0x0D, 0, cellAddr r.node r.tile c)
  | none =>
    (allSlots.find? fun y =>
      !(let f := fieldsOf (r.slot y.1 y.2.1 y.2.2)
        if y.2.2 < ctxLen (r.ctl y.1) y.2.1 then fieldsOk f.1 f.2 else reservedOk f.1 f.2)).map fun y =>
      (0x0D, 8 * y.2.1 + y.2.2, cellAddr r.node r.tile y.1)

/-- Switch context x of a TILE record. -/
def Rec.switch (r : Rec) (x : Nat) : BitVec 512 := BitVec.ofNat 512 (num r.data (8 + 64 * x) 64)

/-- Codes of a switch context (Tables 5-3, 5-4). -/
def switchOk (w : BitVec 512) : Bool :=
  w.extractLsb' 392 120 == 0 &&
  ((List.range 64).all fun i => decide ((w.extractLsb' (4 * i) 4).toNat ≤ 9)) &&
  (List.range 16).all fun j => decide ((w.extractLsb' (256 + 5 * j) 5).toNat ≤ 0x18)

/-- `SWITCH_ENCODING` of a TILE record (R94, R99). Where the tile control word is at fault no switch context is: the
detail is 0. (DESIGN CHOICE, log entry 102.) -/
def tileErr (r : Rec) : Option RgnErr :=
  let w := r.dword 0
  if w.extractLsb' 33 31 ≠ 0 ∨ w.extractLsb' 0 2 = 3#2 ∨ 9 < (w.extractLsb' 9 4).toNat then some (0x0E, 0, tileAddr r.node r.tile)
  else ((List.range 8).find? fun x => !switchOk (r.switch x)).map fun x => (0x0E, x, tileAddr r.node r.tile)

/-- `SWITCH_ENCODING` of a REGION record (R109, Tables 5-11 to 5-14). It concerns no tile and no switch context: both
read 0. (DESIGN CHOICE, log entry 102.) -/
def seqErr (r : Rec) : Option RgnErr :=
  let w := r.word 0
  let mode := fld w 0 2
  let k := if fld w 12 20 = 0 then 2 ^ 20 else fld w 12 20
  let port := fun o => r.word o &&& 0x70000000#32 == 0 && decide (fld (r.word o) 2 3 < 6)
  if mode = 3 ∨ (mode = 2 ∧ 65536 < k) ∨ k ≤ (r.word 4).toNat ∨ w &&& 0xC0C#32 ≠ 0 ∨ 65535 < (r.word 4).toNat
      ∨ !((List.range 16).all fun e => r.word (8 + 4 * e) &&& 0xFFF8F000#32 == 0)
      ∨ !((List.range 32).all fun p => port (72 + 4 * p)) then
    some (0x0E, 0, r.node * 2 ^ 40)
  else none

/-- Switch contexts a tile can be in together with sequencer context `q`: all for FOLLOW (R95). -/
def tileCtxs (w : DWord) (q : Nat) : List Nat :=
  match (w.extractLsb' 0 2).toNat with
  | 0 => [q]
  | 1 => [(w.extractLsb' 2 3).toNat]
  | _ => List.range 8

/-- Two tiles' taps on a line can be on together. -/
def tapsMeet (a b : Rec) (la lb : Nat) : Bool :=
  let on := fun (r : Rec) (l q : Nat) => (tileCtxs (r.dword 0) q).any fun x => (r.switch x).getLsbD (384 + l)
  (List.range 8).any fun q => on a la q && on b lb q

/-- `DRIVER_CONFLICT` on long lines (R95): the first pair of a region's staged tiles. -/
def tapErr (l : List Rec) (node : Nat) : Option RgnErr :=
  let tiles := l.filter fun r => r.type == 0x03 && r.node == node
  (tiles.flatMap fun a => tiles.flatMap fun b => (List.range 8).map fun t => (a, b, t)).findSome? fun x =>
    let same := if x.2.2 < 4 then x.1.tile / 6 == x.2.1.tile / 6 else x.1.tile % 6 == x.2.1.tile % 6
    if same && decide (x.1.tile < x.2.1.tile) && tapsMeet x.1 x.2.1 x.2.2 x.2.2 then
      some (0x0F, x.2.2, tileAddr node x.1.tile + x.2.1.tile * 2 ^ 28)
    else none

/-- Incoming lanes that a REGION record's receive ports and a BANK record's ports feed (R111, R242): side·32 + pos·4 + lane. -/
def fedLanes (l : List Rec) (node : Nat) : List Nat :=
  (l.filter fun r => r.node == node).flatMap fun r =>
    if r.type = 0x04 then
      ((List.range 16).filter fun p => bit (r.word (72 + 4 * p)) 7).map fun p => fld (r.word (72 + 4 * p)) 0 7
    else if r.type = 0x05 then
      ((List.range 6).filter fun k => bit (r.word (8 * k + 4)) 7).flatMap fun k =>
        let x := fld (r.word (8 * k + 4)) 2 5 * 4
        [x, x + 1]
    else []

/-- `DRIVER_CONFLICT` on boundary lanes (R111, R242): the line and the two tiles read 0.
(DESIGN CHOICE, log entry 102.) -/
def laneErr (l : List Rec) (node : Nat) : Option RgnErr :=
  let x := fedLanes l node
  if x.eraseDups.length = x.length then none else some (0x0F, 0, node * 2 ^ 40)

/-- Slots of a cell that can run and access tile memory. -/
def memSlots (r : Rec) (c : Nat) : List Fields :=
  (allSlots.filter fun y => y.1 == c && decide (y.2.2 < ctxLen (r.ctl c) y.2.1)
    && isLdSt (fieldsOf (r.slot c y.2.1 y.2.2)).1).map fun y => (fieldsOf (r.slot c y.2.1 y.2.2)).2

/-- Quarters a cell owns by a tile control word (R99). -/
def owned (w : DWord) (c : Nat) : List Nat :=
  (List.range 4).filter fun q => (w.extractLsb' (13 + 5 * q) 5).toNat == 16 + c

/-- A slot addresses through pointer m (R84): pointer address modes have SRCB bit 4; bit 1 names m1. -/
def usesPointer (f : Fields) (m : Nat) : Bool := f.srcb.getLsbD 4 && b2n (f.srcb.getLsbD 1) == m

/-- `QUARTER_OWNER` (R100) over a region's staged records. `final` takes a missing TILE or CELL_INIT record as zeros. -/
def quarterErr (l : List Rec) (node : Nat) (final : Bool) : Option RgnErr :=
  let find := fun t tile => l.find? fun r => r.type == t && r.node == node && r.tile == tile
  ((l.filter fun r => r.type == 0x01 && r.node == node).flatMap fun r => (List.range 16).map fun c => (r, c)).findSome? fun x =>
    let ms := memSlots x.1 x.2
    let tile := find 0x03 x.1.tile
    if ms.isEmpty || (tile.isNone && !final) then none
    else
      let own := owned ((tile.map fun r => r.dword 0).getD 0) x.2
      let init := fun m => ((find 0x02 x.1.tile).map fun r => num r.data (80 * x.2 + 72 + 2 * m) 2).getD 0
      let stray := final && (List.range 2).any fun m => (ms.any fun f => usesPointer f m) && !own.contains (init m / 512)
      if own.isEmpty || stray then some (0x10, 0, cellAddr node x.1.tile x.2) else none

/-- The region clock select of a REGION record: period in 1/1,000,000 of a ns cannot be exact, so it is kept as
source frequency in MHz and divider. -/
def recClock (r : Rec) : Nat × Nat := (srcMHz (fld (r.word 204) 0 3), divOf (fld (r.word 204) 8 6))

/-- `CHAIN_CLOCK` (R86). -/
def chainErr (r : Rec) : Option RgnErr :=
  let x := recClock r
  let n := num r.data 200 1
  if chainMHz n * x.2 < x.1 then some (0x14, n, r.node * 2 ^ 40) else none

/-- `AXIS_RATE` (R220): k / VMAX < t_R, VMAX in 2^−24 counts/µs, at the record's clock. -/
def axisErr (r : Rec) (vmax : Nat → Nat) : Option RgnErr :=
  let w := r.word 0
  let x := recClock r
  let a := fld w 8 2
  -- k·2^24 / VMAX µs against divider / MHz µs
  if fld w 0 2 = 2 ∧ fld w 12 20 * 2 ^ 24 * x.1 < x.2 * vmax a then some (0x13, a, r.node * 2 ^ 40) else none

end Sys2Proof.Machine
end

