-- ==== Sys2Proof/Machine/Loader.lean ====
section
/-! DEFINITION. The loader (13_configuration): boot selection, staging, whole-image checks, commit, activation and failure
(R309 to R325). -/

namespace Sys2Proof.Machine

def State.setLoader (s : State) (l : Loader) : State := { s with loader := l }

/-! `CFG.STAT` (Table 13-14). -/

def State.cfgBusy (s : State) : Bool := s.rbit cfgPage 0x44 21
def State.phase (s : State) : Nat := s.rfld cfgPage 0x44 18 3
def State.setPhase (s : State) (n : Nat) : State := s.setFld cfgPage 0x44 18 3 n
def State.loadSource (s : State) : Nat := s.rfld cfgPage 0x44 15 3
def State.attempt (s : State) : Nat := s.rfld cfgPage 0x44 22 2
def Loader.kind (l : Loader) : Nat := hKind l.hdr
def Loader.partialKind (l : Loader) : Bool := l.hdr != [] && l.kind == 1

/-- `CFG_ERR` with a code (Tables 13-15, 13-16). -/
def State.cfgErr (s : State) (code type detail addr : Nat) : State :=
  s.raise cfgPage 0 (BitVec.ofNat 32 (code * 2 ^ 24 + type % 256 * 2 ^ 16 + detail % 2 ^ 16)) (BitVec.ofNat 64 addr)

def State.cfgEvent (s : State) (e mid low : Nat) : State :=
  s.raise cfgPage e (BitVec.ofNat 32 (mid % 256 * 2 ^ 16 + low % 2 ^ 16)) 0

/-- Bits of a 128-bit mask in four registers. -/
def State.maskReg (s : State) (off : Nat) : BitVec 128 :=
  s.reg cfgPage (off + 12) ++ s.reg cfgPage (off + 8) ++ s.reg cfgPage (off + 4) ++ s.reg cfgPage off
def State.setMask (s : State) (off : Nat) (m : BitVec 128) : State :=
  (List.range 4).foldl (fun s i => s.setReg cfgPage (off + 4 * i) (m.extractLsb' (32 * i) 32)) s
def State.usable (s : State) : BitVec 128 := s.maskReg 0x60
def State.staged (s : State) : BitVec 128 := s.maskReg 0x70

/-! Clearing a region (R104, R323 stage 4). -/

/-- Pin and group words of a region are released as it is cleared (R437). (DESIGN CHOICE, log entry 19.) -/
def State.releasePins (s : State) (r : Nat) : State :=
  let d := regionSail r
  let s := s.regionPins r
  let s := (List.range 48).foldl (fun s p =>
    if pwRegion (s.pinWord d p) = r % 16 ∧ s.pinIsSet d p then (s.setReg64 (iobPage d) (pinOff p) 0).pinSetTo d p false
    else s) s
  (List.range 8).foldl (fun s g =>
    if dfld (s.grpWord d g) 52 4 = r % 16 ∧ gwMode (s.grpWord d g) ≠ 0 then
      (s.setReg64 (iobPage d) (grpOff g) 0).setGrp d g Grp.reset else s) s

/-- A committed load no longer activates a region (R104). -/
def State.dropCommitted (s : State) (r : Nat) : State :=
  if s.loader.tact.isSome then
    ({ s with loader := { s.loader with bad := s.loader.bad ++ [r] } } : State).setMask 0x70 (s.staged &&& ~~~(BitVec.ofNat 128 (2 ^ r)))
  else s

/-- With its gate CLOSED a region leaves ACTIVE: its ports unbind, its pins are braked, its configuration goes, one that
waits for T_act too. An UNUSABLE region stays so (R102). (DESIGN CHOICE, log entry 19.) -/
def State.clearRegion (s : State) (r : Nat) : State :=
  let s := { s with clearing := s.clearing &&& ~~~(BitVec.ofNat 128 (2 ^ r)) }
  let s := (List.range 32).foldl (fun s i => s.unbindStart (portAtt r i)) s
  (((s.releasePins r).discardRegion r (if s.rgnState r = stUnusable then stUnusable else stCleared)).clearBytes
    (regionNode r * 2 ^ 40 + 0x2000000) 0x48000).dropCommitted r

/-- A region is to be cleared: its gate closes first. -/
def State.clearStart (s : State) (r : Nat) : State :=
  if s.rgnState r = stOff ∨ s.rgnState r = stUnusable then s
  else
    let s := { s with clearing := s.clearing ||| BitVec.ofNat 128 (2 ^ r) }
    let s := s.writeClose (regionNode r) true
    if s.gate (regionNode r) = gateOpen ∨ s.gate (regionNode r) = gateClosing then s else s.clearRegion r

/-- No port of a region holds a queue. -/
def State.portsFree (s : State) (r : Nat) : Bool := (List.range 32).all fun i => !(s.att (portAtt r i)).bound

/-! Boot selection (R315 to R318). -/

/-- A manifest copy that its CRC admits (Table 13-6). (DEDUCED, log entry 56.) -/
def manifestOk (l : List Byte) : Bool :=
  let n := 48 + 32 * num l 10 1 + 4 * num l 11 1
  num l 0 4 == 0x464E414D && l.length == n + 4 && decide (num l n 4 = (crc32 (l.take n)).toNat)
    && decide (1 ≤ num l 10 1 ∧ num l 10 1 ≤ 15) && decide (num l 11 1 ≤ 32)

/-- The manifest in use: the copy with the higher SEQ modulo 2^32. (DEDUCED, log entry 56.) -/
def State.manifest (s : State) : Option (List Byte) :=
  let get := fun (i : Nat) => ((s.grn.current (BitVec.ofNat 32 i)).map s.entryData).filter manifestOk
  match get 1, get 2 with
  | some a, some b => if (BitVec.ofNat 32 (num b 4 4) - BitVec.ofNat 32 (num a 4 4)).toInt < 0 then some a else some b
  | some a, none => some a
  | none, x => x

/-- `CFG.STAT.SOURCE` of a manifest SOURCE. -/
def sourceCode (n : Nat) : Nat := if n ≤ 2 then 0 else if n = 3 then 1 else 2

/-- Without a manifest, the source of an attempt by the BOOTMODE strap (R315); mode 3 tries xSPI, then PCIe.
(DEDUCED, log entry 56.) -/
def strapSource (mode att : Nat) : Nat := if mode = 0 then 0 else if mode = 1 then 1 else if mode = 2 then 2 else if att = 0 then 0 else 1

/-- A load begins: BUSY, PHASE HEADER. -/
def State.loadStart (s : State) (source : Nat) (l : Loader) : State :=
  let s := (((s.setBit cfgPage 0x44 21 true).setPhase 1).setFld cfgPage 0x44 15 3 source).setReg cfgPage 0x58 0
  s.setLoader { l with ran := s.loader.ran, forward := s.loader.forward, chainOut := s.loader.chainOut, dead := s.loader.dead
                       bootAt := s.loader.bootAt, chainIn := s.loader.chainIn, ownLen := s.loader.ownLen }

/-- Port and flash address of stream byte `pos` (Table 13-5): striped, 4 KiB units alternate between the ports. -/
def flashPlace (source off pos : Nat) : Nat × Nat :=
  if source = 0 then (pos / 0x1000 % 2, off + pos / 0x2000 * 0x1000 + pos % 0x1000) else (source - 1, off + pos)

/-- Where a flash source reads its next byte. -/
def State.flashNext (s : State) : Option (Nat × Nat) :=
  s.loader.flash.map fun x => flashPlace x.1 x.2 (s.reg cfgPage 0x58).toNat

/-- A boot attempt's loader for an entry of the manifest at byte `o` (Table 13-6); only a flash source ends at LENGTH. -/
def entryLoader (m : List Byte) (o v : Nat) (gold : Bool) : Loader :=
  let src := num m (o + 16) 1
  { Loader.reset with
    boot := true, golden := gold, variant := v
    flash := if src ≤ 2 then some (src, num m (o + 20) 4) else none
    limit := if src ≤ 2 then some (num m (o + 24) 4) else none }

/-- The next attempt of the boot ROM (R318). Without a manifest the flash source starts at OFFSET 0 (R315).
(DESIGN CHOICE, log entry 99.) -/
def State.bootTry (s : State) : State :=
  let att := s.attempt
  let fail := (s.cfgErr 0x1C 0 att 0).setFld cfgPage 0x44 0 8 0x1C
  let stop := fail.setLoader { fail.loader with boot := false, golden := false }
  let go := fun (v src : Nat) (l : Loader) =>
    ((s.setFld cfgPage 0x44 22 2 (att + 1)).setFld cfgPage 0x44 24 4 v).loadStart src l
  if s.loader.golden then stop
  else match s.manifest with
    | none =>
      let src := strapSource s.board.bootMode att
      if att < 2 then go 0 src { Loader.reset with
          boot := true, flash := if src = 0 then some (if s.board.bootMode = 3 then 1 else 0, 0) else none }
      else stop
    | some m =>
      match if att < 2 then (List.range (num m 10 1)).find? fun v =>
          BitVec.ofNat 128 (num m (48 + 32 * v) 16) &&& ~~~s.usable == 0 else none with
      | some v => go v (sourceCode (num m (48 + 32 * v + 16) 1)) (entryLoader m (48 + 32 * v) v false)
      | none => go 0 (sourceCode (num m 32 1)) (entryLoader m 16 0 true)

/-! Failure (R310, R324). -/

/-- What a load wrote directly reads zero again. -/
def State.eraseDirect (s : State) : State := s.loader.direct.foldl (fun s x => s.clearBytes x.1 x.2) s

/-- Staged shadow planes go; LOADING regions are CLEARED again. (DEDUCED, log entry 61.) -/
def State.dropStaged (s : State) : State :=
  ((regionsOf s.staged).foldl (fun s r => if s.rgnState r = stLoading then s.discardRegion r stCleared else s) s).setMask 0x70 0

/-- The load in progress fails (Table 13-10). (DEDUCED, log entry 54; DEDUCED, log entry 61.) -/
def State.loadFail (s : State) (code type detail addr : Nat) : State :=
  if !s.cfgBusy then s
  else
    let l := s.loader
    let staged := 2 ≤ s.phase
    let s := s.eraseDirect.dropStaged
    let s := if l.partialKind && staged && code != 0x08 then (regionsOf (hScope l.hdr)).foldl (fun s r => s.clearStart r) s else s
    let s := s.setReg cfgPage 0x5C (BitVec.ofNat 32 (if type = 0 then 0 else l.off))
    let s := (((s.cfgErr code type detail addr).setFld cfgPage 0x44 0 8 code).bump cfgPage 0x8C)
    let s := (s.setBit cfgPage 0x44 21 false).setPhase 0
    let s := s.setLoader { l with hdr := [], text := [], off := 0, recs := [], ended := false, bad := [], direct := []
                                  waiting := false, tact := none, sluice := false, buf := []
                                  flash := none, limit := none, memAt := none }
    if l.boot then s.bootTry else s

/-! The header (R305). -/

/-- Every bank is cycled OFF and ON before a full load stages its first record (R313).
(DESIGN CHOICE, log entry 10; DEDUCED, log entry 60.) -/
def State.cycleBanks (s : State) : State :=
  let s := { s with mem := tdrop (fun a => isRegionNode (a / 2 ^ 40) && decide (0x1000000 ≤ a % 2 ^ 40 ∧ a % 2 ^ 40 < 0x1180000)) s.mem
                    banks := s.banks.map fun e => (e.1, { e.2 with wback := [], target := none, queued := none }) }
  (List.range 768).foldl (fun s b =>
    if s.rbit (bankPage b) 0x0C 4 || s.reg (bankPage b) 0x40 == 0 then s else s.setReg (bankPage b) 0x40 0) s

def State.headerIn (s : State) (h : List Byte) : State :=
  if !s.cfgBusy || s.phase != 1 then s
  else
    let bad := s.headerCheck h
    -- the own stream's header has passed check 4 (R316)
    let fwd := s.loadSource == 2 && !s.loader.forward && (match bad with
      | none => true
      | some e => decide (5 ≤ e.1))
    let s := if fwd then s.setLoader { s.loader with forward := true, ownLen := hLen h } else s
    match bad with
    | some e => s.loadFail e.1 0 e.2.1 e.2.2
    | none =>
      let s := (s.setLoader { s.loader with hdr := h, off := 352 }).setPhase 2
      if hKind h = 1 then s else s.cycleBanks

/-! Staging (R309, R322). -/

/-- The round length the stream goes by: that of its PACKAGE record, or the one in force. -/
def State.streamRounds (s : State) : Option Nat :=
  if s.loader.partialKind then some (s.cogs 0).len
  else (s.loader.recs.find? fun r => r.type == 0x0B).map fun r => num r.data 0 2

/-- Region that a record concerns as a frame, or as tile memory. -/
def Rec.plane (r : Rec) : Option Nat :=
  if r.type ≤ 5 then some r.region
  else if r.type = 0x09 ∨ r.type = 0x0A then match windowOf r.addr (max r.span 1) with
    | .tile g _ => some g
    | _ => none
  else none

/-- What takes a record outside the scope of a partial image: detail of the error (R322). -/
def scopeFlaw (m : BitVec 128) (r : Rec) : Option Nat :=
  let inScope := fun g => if m.getLsbD g then none else some g
  match r.type with
  | 0x01 | 0x02 | 0x03 | 0x04 | 0x05 => inScope r.region
  | 0x09 | 0x0A => match windowOf r.addr (max r.span 1) with
    | .tile g _ => inScope g
    | .bank b => inScope (b / 6)
    | _ => some 0xFFFF
  | 0x0F =>
    match (iobDie r.node).getD 0 with
    | 0 => some 0xFFFF
    | d => (List.range (r.data.length / 8)).findSome? fun i => inScope (16 * (d - 1) + dfld (r.dword (8 * i)) 52 4)
  | 0x06 | 0x08 | 0x11 | 0x7F => none
  | _ => some 0xFFFF

/-- Types that enter the staging store of 4 MiB; MEMORY and ZERO of partial images that target banks among them. -/
def storeBytes (part : Bool) (r : Rec) : Nat :=
  if r.type ≤ 5 ∨ r.type = 0x0F then 0
  else if r.type = 0x09 ∨ r.type = 0x0A then (if part && r.plane.isNone then 16 + r.data.length else 0)
  else 16 + r.data.length

def stageFull (part : Bool) (l : List Rec) : Bool :=
  decide (0x400000 < (l.map (storeBytes part)).sum) ||
  decide (65536 < ((l.filter fun r => r.type == 0x08).map fun r => r.data.length / 32).sum)

/-- The status with which the loader's write to a node or range fails, if it does (R325). -/
def State.stageStatus (s : State) (r : Rec) : Option Nat :=
  if r.type ≤ 7 ∨ r.type = 0x0F then
    if s.reachable 0x44 r.node then
      (if r.type ≤ 5 ∧ s.rgnState r.region = stOff then some stDestAsleep else none)
    else some stNodeAbsent
  else if r.type = 0x09 ∨ r.type = 0x0A then
    match windowOf r.addr (max r.span 1) with
    | .hbm => let st := s.memStatus 0x44 0x30 r.addr (max r.span 1) true; if st = stOK then none else some st
    | .tile g _ => if s.reachable 0x44 (regionNode g) then (if s.rgnState g = stOff then some stDestAsleep else none) else some stNodeAbsent
    | .bank b => if s.reachable 0x44 (regionNode (b / 6)) then (if s.bankOn b then none else some stDestAsleep) else some stNodeAbsent
    | .regs => if s.reachable 0x44 (r.addr / 2 ^ 40) then none else some stNodeAbsent
    | _ => none
  else none

/-- A MEMORY or ZERO record takes effect at its target: register pages take a WRITE packet for each word.
(DESIGN CHOICE, log entry 57.) -/
def State.applyMemory (s : State) (r : Rec) : State :=
  match windowOf r.addr (max r.span 1) with
  | .regs => (List.range (r.span / 4)).foldl (fun s i =>
      s.send (requestTo 0x44 0x30 2 0 0 (r.addr + 4 * i) 4 (wordBytes (if r.type = 0x0A then 0 else r.word (4 * i))))) s
  | _ => if r.type = 0x0A then (s.clearBytes r.addr r.span).breakResv r.addr r.span else s.writeMem r.addr r.data

/-- A WRITE of the loader to a register page is refused: STAGE_FAIL (Table 13-16). (DESIGN CHOICE, log entry 57.) -/
def State.stageResponse (s : State) (st : Nat) : State :=
  if st = stOK then s
  else match s.loader.recs.reverse.find? fun r => (r.type == 0x09 || r.type == 0x0A) && windowOf r.addr (max r.span 1) == .regs with
    | some r => s.loadFail 0x18 r.type st r.addr
    | none => s

/-- VMAX that holds once the staged records are committed. -/
def State.newVmax (s : State) (a : Nat) : Nat :=
  match s.loader.recs.find? fun r => r.type == 0x0C with
  | some r => (r.word (4 * a)).toNat
  | none => s.axVmax a

/-- Region-level errors that a staged record shows (R309). (DEDUCED, log entry 63.) -/
def State.recErr (s : State) (r : Rec) : Option RgnErr :=
  let l := s.loader.recs
  let first := fun (xs : List (Option RgnErr)) => xs.findSome? id
  match r.type with
  | 0x01 => first [cellErr r, quarterErr l r.node false]
  | 0x03 => first [tileErr r, tapErr l r.node, quarterErr l r.node false]
  | 0x04 => first [seqErr r, laneErr l r.node, axisErr r s.newVmax, chainErr r]
  | 0x05 => laneErr l r.node
  | _ => none

/-- A region's encoding error: it is rejected while the rest of a full image goes on; a partial load fails (Table 13-10). -/
def State.rejectRegion (s : State) (r : Nat) (type : Nat) (e : RgnErr) : State :=
  if s.loader.bad.contains r then s
  else if s.loader.partialKind then s.loadFail e.1 type e.2.1 e.2.2
  else
    let s := (s.cfgErr e.1 type e.2.1 e.2.2).setFld cfgPage 0x44 0 8 e.1
    let s := s.setLoader { s.loader with bad := s.loader.bad ++ [r] }
    let s := s.setMask 0x70 (s.staged &&& ~~~(BitVec.ofNat 128 (2 ^ r)))
    if s.rgnState r = stLoading then s.discardRegion r stCleared else s

/-- A region clock select that R332 refuses for RANGE or MAXFREQ: the record is rejected with BAD_RECORD. -/
def State.clockBad (s : State) (r : Rec) : Bool :=
  r.type == 0x04 && (match s.clockCause (regionSail r.region) (r.region % 16) (r.word 204) (num r.data 200 1) with
    | some c => c != 4
    | none => false)

/-- A record is staged (R306 to R309). -/
def State.recordIn (s : State) (r : Rec) : State :=
  let l := s.loader
  if !s.cfgBusy || s.phase != 2 || l.ended then s
  else
    let part := l.partialKind
    let addr := r.target.toNat
    let rounds := s.streamRounds
    let after := l.off + 16 + r.data.length
    if !recOk r (rounds.getD 0) || (r.type == 0x06 && rounds.isNone) || (l.recs.any fun q => sameTarget q r)
        || s.clockBad r || decide (hLen l.hdr < after + 32) then s.loadFail 0x09 r.type 0 addr
    else match if part then scopeFlaw (hScope l.hdr) r else none with
      | some d => s.loadFail 0x08 r.type d addr
      | none =>
        match s.stageStatus r with
        | some st => s.loadFail 0x18 r.type st addr
        | none =>
          if stageFull part (l.recs ++ [r]) then s.loadFail 0x0A r.type 0 0
          else
            let s := s.setLoader { l with recs := l.recs ++ [r], text := l.text ++ r.bytes, off := after }
            match r.plane with
            | some g =>
              let s := if l.bad.contains g then s else
                let s := s.setMask 0x70 (s.staged ||| BitVec.ofNat 128 (2 ^ g))
                if s.rgnState g = stCleared then s.setFld (rgnPage g) 0x40 0 3 stLoading else s
              match s.recErr r with
              | some e => s.rejectRegion g r.type e
              | none => s
            | none =>
              if (r.type = 0x09 ∨ r.type = 0x0A) ∧ !part then
                let regs := windowOf r.addr (max r.span 1) == .regs
                (s.applyMemory r).setLoader { s.loader with direct := s.loader.direct ++ (if regs then [] else [(r.addr, r.span)]) }
              else s

/-- A record that no type admits (R308). -/
def State.recordBad (s : State) (type : Nat) (target : DWord) : State :=
  if !s.cfgBusy || s.phase != 2 || s.loader.ended then s else s.loadFail 0x09 type 0 target.toNat

/-! Whole-image checks at END (R309). -/

/-- Records without those of rejected regions. -/
def Loader.good (l : Loader) : List Rec := l.recs.filter fun r => match r.plane with
  | some g => !l.bad.contains g
  | none => true

/-- Attachments that the staged records bind: queue, attachment, TARGET of the record (R173).
(DEDUCED, log entry 32.) -/
def bindings (l : List Rec) : List (Nat × Nat × Nat) :=
  l.flatMap fun r =>
    if r.type = 0x04 then
      ((List.range 32).filter fun p => bit (r.word (72 + 4 * p)) 31).map fun p =>
        (fld (r.word (72 + 4 * p)) 8 20, portAtt r.region p, r.target.toNat)
    else if r.type = 0x08 then
      (List.range (r.data.length / 32)).filterMap fun i =>
        let d := descOf ((r.data.drop (32 * i)).take 32)
        let n := d.node.toNat
        if !d.bound then none
        else match d.kind.toNat with
          | 0 => some (r.addr + i, portAtt (nodeRegion n) (d.port.toNat % 32), r.target.toNat)
          | 3 => none
          | k => match [0x55, 0x56, 0x65, 0x66].findIdx? (· == n) with
            | some q => some (r.addr + i, portAtt (0x100 + q) (d.port.toNat % 16 + (if k = 1 then 16 else 0)), r.target.toNat)
            | none => none
    else []

/-- A queue for two attachments, or an attachment for two queues. (DEDUCED, log entry 32.) -/
def bindErr (b : List (Nat × Nat × Nat)) : Option (Nat × Nat) :=
  b.mapIdx (fun i x => (i, x)) |>.findSome? fun x =>
    if (b.take x.1).any fun y => (y.1 == x.2.1) != (y.2.1 == x.2.2.1) then some (x.2.1, x.2.2.2) else none

/-- A bank port of a bank that the image does not give to the region (R242). -/
def bankErr (l : List Rec) : Option (Nat × Nat) :=
  (l.filter fun r => r.type == 0x05).findSome? fun r =>
    ((List.range 6).find? fun k => bit (r.word (8 * k + 4)) 7 && fld (r.word (8 * k)) 4 4 != 1).map fun k =>
      (bankOf r.region k, r.target.toNat)

/-- Pin and group words of a die: number, word, TARGET. -/
def iobWords (l : List Rec) (d : Nat) : List (Nat × DWord × Nat) :=
  (l.filter fun r => r.type == 0x0F && iobDie r.node == some d).flatMap fun r =>
    (List.range (r.data.length / 8)).map fun i => (pwPin (r.dword (8 * i)), r.dword (8 * i), r.target.toNat)

/-- The pin word of a pin as it will stand. -/
def State.newPin (s : State) (l : List Rec) (d p : Nat) : DWord :=
  match (iobWords l d).find? fun x => x.1 == p with
  | some x => x.2.1
  | none => s.pinWord d p

/-- A pin, pair or function claimed twice (R437). -/
def State.pinErr (s : State) (l : List Rec) (d : Nat) : Option (Nat × Nat) :=
  let w := iobWords l d
  let pin := s.newPin l d
  let grps := w.filter fun x => decide (0x80 ≤ x.1) && gwMode x.2.1 != 0
  let pinsOf := fun (x : Nat × DWord × Nat) => grpPins x.2.1 (pwLvds (pin (gwFirst x.2.1)))
  w.mapIdx (fun i x => (i, x)) |>.findSome? fun x =>
    let y := x.2
    let again := (w.take x.1).any fun z => z.1 == y.1
    let pair := d != 0 && decide (y.1 < 0x80) && y.1 % 2 == 1 && pwLvds (pin (y.1 - 1))
    let func := d == 0 && decide (2 ≤ pwFunc y.2.1) && (w.take x.1).any fun z => pwFunc z.2.1 == pwFunc y.2.1
    let group := decide (0x80 ≤ y.1) && gwMode y.2.1 != 0 && grps.any fun z =>
      z.1 != y.1 && (pinsOf z).any fun p => (pinsOf y).contains p
    if again || pair || func || group then some (y.1, y.2.2) else none

/-- A group word whose members do not fit it (R430). -/
def State.grpErr (s : State) (l : List Rec) (d : Nat) : Option Nat :=
  ((iobWords l d).find? fun x => decide (0x80 ≤ x.1) && d != 0 && !grpWordOk (s.newPin l d) (s.ioStamps d) x.2.1).map (·.2.2)

/-- Selected alternates (R317): link, SET, CAPW. (DEDUCED, log entry 58.) -/
def State.alternates (s : State) : List (Nat × Nat × Nat) :=
  match s.manifest with
  | none => []
  | some m =>
    let base := 48 + 32 * num m 10 1
    let alts := (List.range (num m 11 1)).map fun j => (num m (base + 4 * j + 1) 1, num m (base + 4 * j) 1, num m (base + 4 * j + 2) 1)
    (List.range 12).filterMap fun k =>
      let cw := s.rfld (fvlPage k (linkDies k).1) 0x4C 0 6
      if 32 ≤ cw then none
      else (alts.filter fun a => a.1 == k && decide (a.2.2 ≤ cw)).foldl (fun b a => match b with
        | none => some a
        | some x => if x.2.2 < a.2.2 then some a else some x) none

/-- The COG record that gives a bank of a router, if any: of the lowest selected SET, else the one with COND 0.
(DEDUCED, log entry 58.) -/
def cogRec (l : List Rec) (sets : List Nat) (n bank : Nat) (part : Bool) : Option Rec :=
  let m := l.filter fun r => r.type == 0x06 && r.node == n && (part || dfld r.target 48 1 == bank)
  let pick := fun k => m.find? fun r => r.cond == k
  ((List.range 16).filter fun k => k != 0 && sets.contains k).findSome? pick |>.or (pick 0)

/-- Banks of a router that the staged records concern: both in a full image, the standby bank in a partial one. -/
def State.imageBanks (s : State) (n : Nat) : List Nat := if s.loader.partialKind then [1 - s.cogActive n] else [0, 1]

/-- Entry k of a bank as it will stand once the staged records are committed. -/
def State.bankEntry (s : State) (sets : List Nat) (n bank k : Nat) : Word :=
  let part := s.loader.partialKind
  match cogRec s.loader.recs sets n bank part with
  | some r => if !part || bank != s.cogActive n then r.word (4 * k) else s.cogEntry n bank k
  | none => if part then s.cogEntry n bank k else 0

/-- Entry k of the tables that will be in force together: those of a bank number in a full image; in a partial one the
standby banks it writes, and the active banks of the other routers. -/
def State.newEntry (s : State) (sets : List Nat) (n bank k : Nat) : Word :=
  let part := s.loader.partialKind
  match cogRec s.loader.recs sets n bank part with
  | some r => r.word (4 * k)
  | none => if part then s.cogEntry n (s.cogActive n) k else 0

/-- Retry allowance of a crossing input as it will stand. -/
def State.newNr (s : State) (n p : Nat) : Nat :=
  match s.loader.recs.find? fun r => r.type == 0x07 && r.node == n with
  | some r => num r.data p 1
  | none => s.rfld (cogPage n) (0x60 + 4 * p) 0 2

/-- The send port p of a node is a BE port by the records, or as it stands. -/
def State.newBePort (s : State) (n p : Nat) : Bool :=
  isRegionNode n && (match s.loader.recs.find? fun r => r.type == 0x04 && r.node == n with
    | some r => bit (r.word (208 + 4 * p)) 24
    | none => bit (s.txDest (nodeRegion n) p) 24)

/-- An entry that R152 refuses. -/
def State.entryBad (s : State) (n : Nat) (w : Word) : Bool :=
  let sels := (List.range 5).map fun o => entrySel w o
  let gs := fun i => decide (1 ≤ i ∧ i ≤ 5)
  let names := sels.filter gs
  bit w 31 || (sels.any fun i => i == 6 || i == 7 || decide (12 ≤ i)) || (names.any fun i => !portExists n (i - 1))
    || names.eraseDups.length != names.length
    || ([1, 3].any fun o => entrySel w o == 1 || entrySel w o == 3) || ((List.range 4).any fun o => entrySel w o == o + 1)
    || entryInjV w != (sels.contains 5) || (entryEj w != 0 && !gs (entrySel w 4))
    || (entryInjV w && decide (entryInj w < 16) && s.newBePort n (entryInj w))

def allNodes : List Nat := (List.range 144).map fun i => mkNode (i % 12) (i / 12)

/-- `COG_ENCODING`: detail and ERR_ADDR. -/
def State.cogEncErr (s : State) (sets : List Nat) (rounds : Nat) : Option (Nat × Nat) :=
  let xing := (s.loader.recs.filter fun r => r.type == 0x07).find? fun r => (List.range 4).any fun p => num r.data p 1 == 3
  match xing with
  | some r => some (0, r.node * 2 ^ 40)
  | none =>
    let recs := s.loader.recs
    -- routers with a table of their own in the stream, and those whose send ports it changes
    let nodes := allNodes.filter fun n => recs.any fun r => (r.type == 0x06 || r.type == 0x04) && r.node == n
    (nodes.flatMap fun n => [(n, 0), (n, 1)]).findSome? fun x =>
      ((List.range rounds).find? fun k => s.entryBad x.1 (s.bankEntry sets x.1 x.2 k)).map fun k =>
        (k, x.1 * 2 ^ 40 + x.2 * 2 ^ 16)

/-- Cogs from an output register to the next router's, into its port p (R153). -/
def State.hopCogs (s : State) (m p : Nat) : Nat := 3 + (if (portXing m p).isSome then 22 + 64 * s.newNr m p else 0)

/-- `COG_BROKEN` (R154) at an entry: the second node and entry. -/
def State.chainBroken (s : State) (sets : List Nat) (rounds n bank k : Nat) : Option (Nat × Nat) :=
  let w := s.newEntry sets n bank k
  let gs := fun i => decide (1 ≤ i ∧ i ≤ 5)
  let back := fun p => (p + 2) % 4
  let onward := (List.range 4).findSome? fun o =>
    if !gs (entrySel w o) then none
    else match neighbour n (sideOf o) with
      | none => some (n, k)
      | some m =>
        let j := (k + s.hopCogs m (back o)) % rounds
        if (List.range 5).any fun q => entrySel (s.newEntry sets m bank j) q == back o + 1 then none else some (m, j)
  onward.or ((List.range 4).findSome? fun i =>
    if !(List.range 5).any fun o => entrySel w o == i + 1 then none
    else match neighbour n (sideOf i) with
      | none => some (n, k)
      | some m =>
        let j := (((k : Int) - s.hopCogs n i) % rounds).toNat
        if gs (entrySel (s.newEntry sets m bank j) (back i)) then none else some (m, j))

def State.cogBroken (s : State) (sets : List Nat) (rounds : Nat) : Option (Nat × Nat) :=
  if !s.loader.recs.any fun r => r.type == 0x06 then none
  else (allNodes.flatMap fun n => (s.imageBanks n).map fun b => (n, b)).findSome? fun x =>
    (List.range rounds).findSome? fun k => (s.chainBroken sets rounds x.1 x.2 k).map fun y =>
      (k, x.1 * 2 ^ 40 + y.1 * 2 ^ 32 + x.2 * 2 ^ 16 + y.2)

/-- Regions of the staged records that have a final encoding error. (DEDUCED, log entry 63.) -/
def State.endErrs (s : State) : List (Nat × RgnErr) :=
  let l := s.loader.recs
  (List.range 128).filterMap fun r =>
    let n := regionNode r
    let ax := (l.find? fun q => q.type == 0x04 && q.node == n).bind fun q => axisErr q s.newVmax
    ((quarterErr l n true).or ax).map fun e => (r, e)

/-- END (R308, R309). (DEDUCED, log entry 63.) -/
def State.endIn (s : State) (target : DWord) : State :=
  let l := s.loader
  if !s.cfgBusy || s.phase != 2 || l.ended then s
  else
    let bad := fun (s : State) => s.loadFail 0x09 0x7F 0 target.toNat
    if target ≠ 0 ∨ l.off + 32 ≠ hLen l.hdr ∨ (!l.partialKind ∧ s.streamRounds.isNone) then bad s
    else
      let e := (⟨0x7F, 0, 0, []⟩ : Rec)
      let s := s.setLoader { l with ended := true, text := l.text ++ e.bytes, off := l.off + 16 }
      let s := s.setPhase 3
      let s := s.endErrs.foldl (fun s x => s.rejectRegion x.1 0x7F x.2) s
      let g := s.loader.good
      let sets := if l.partialKind then [] else s.alternates.map (·.2.1)
      let rounds := s.streamRounds.getD 1
      match (List.range 9).findSome? fun d => s.grpErr g d with
      | some t => s.loadFail 0x09 0x0F 0 t
      | none =>
        match (bindErr (bindings g)).or ((bankErr g).or ((List.range 9).findSome? fun d => s.pinErr g d)) with
        | some x => s.loadFail 0x15 0x7F x.1 x.2
        | none =>
          match s.cogEncErr sets rounds with
          | some x => s.loadFail 0x11 0x06 x.1 x.2
          | none =>
            match s.cogBroken sets rounds with
            | some x => s.loadFail 0x12 0x06 x.1 x.2
            | none => s

/-! Commit (R312). -/

/-- A refusal at commit (R324). -/
def State.actRefused (s : State) (type st : Nat) : State := (s.bump cfgPage 0x94).cfgEvent 4 type st

/-- Regions that the load activates. (DEDUCED, log entry 61.) -/
def State.toActivate (s : State) : List Nat :=
  (regionsOf s.staged).filter fun r => !s.loader.bad.contains r && (s.rgnState r == stLoading || s.rgnState r == stCleared)

/-- Responses of the sensors under R297, by life-cycle state. -/
def tamperCfg (state : Nat) (w : Word) : Word :=
  if state = 1 then w &&& 0x3FF#32
  else if state = 2 then (if fld w 6 2 = 0 then putFld (w &&& 0x3FF#32) 6 2 1 else w &&& 0x3FF#32)
  else 0

/-- Step 1 (R312): tamper responses, secure-window banks, the lock of the SEC page; a task is secure just where the record
names it (R293).
(DEDUCED, log entry 60.) -/
def State.commitSecurity (s : State) : State :=
  let s := match s.loader.recs.find? fun r => r.type == 0x0D with
    | none => s
    | some r =>
      let s := s.setReg secPage 0x70 (tamperCfg s.fuses.state (r.word 0))
      let s := (List.range 16).foldl (fun (s : State) i =>
        if bit (r.word 4) i then
          let b := 96 * (i / 2) + i % 2
          ((s.setReg (bankPage b) 0x34 0x50).setBit (bankPage b) 0x48 0 true).setBit (bankPage b) 0x30 0 true
        else s) s
      s
  let task := ((s.loader.recs.find? fun r => r.type == 0x0D).map fun r => num r.data 8 8).getD 0
  let s := (List.range 4).foldl (fun (s : State) c => (List.range 16).foldl (fun (s : State) t =>
    s.setBit (tskPage c) (tskOff t 0x100) 9 (task / 2 ^ (16 * c + t) % 2 == 1)) s) s
  s.setBit secPage 0x30 0 true

/-- A link's state follows from C_w and SCHED (R273). -/
def State.schedLink (s : State) (l sched : Nat) : State :=
  let s := s.bothEnds l fun s d => s.setFld (fvlPage l d) 0x4C 8 6 sched
  let cw := s.rfld (fvlPage l (linkDies l).1) 0x4C 0 6
  if s.linkState l = lkUp ∧ cw < sched then s.setLinkState l lkDegraded
  else if s.linkState l = lkDegraded ∧ sched ≤ cw then s.setLinkState l lkUp
  else s

/-- Step 2: R from a round at least 64 ahead (R145), LEAT_PRIO, setpoint, SCHED with the alternates. -/
def State.commitPackage (s : State) : State :=
  match s.loader.recs.find? fun r => r.type == 0x0B with
  | none => s
  | some r =>
    -- one round number for every router
    let n := (List.range 9).foldl (fun n d => max n (s.cogs d).round.toNat) 0 + 64
    let s := (List.range 9).foldl (fun s d =>
      s.setCogs d { s.cogs d with newLen := some (num r.data 0 2, BitVec.ofNat 32 n) }) s
    let s := (List.range 4).foldl (fun s q => s.setFld (qmPage q) 0x40 4 2 (num r.data 2 1)) s
    let p := s.setpointWrite (BitVec.ofNat 32 (num r.data 4 2))
    let s := if p.2 = stOK then p.1 else p.1.actRefused 0x0B p.2
    let alts := s.alternates
    (List.range 12).foldl (fun s l => s.schedLink l (match alts.find? fun a => a.1 == l with
      | some a => a.2.2
      | none => num r.data (8 + l) 1)) s

/-- Step 3: NR, and cog-table banks. A full image sets every n_r (R160): that of a crossing it gives no record for is 0.
(DEDUCED, log entry 100.) -/
def State.commitCogs (s : State) : State :=
  let part := s.loader.partialKind
  let sets := if part then [] else s.alternates.map (·.2.1)
  let rounds := s.streamRounds.getD 0
  let recs := s.loader.recs
  let s := if part then s else allNodes.foldl (fun s n => (List.range 4).foldl (fun s p =>
    if (portXing n p).isSome then (s.setFld (cogPage n) (0x60 + 4 * p) 0 2 0).setFld (cogPage n) (0x60 + 4 * p) 8 8 22 else s) s) s
  let s := (recs.filter fun r => r.type == 0x07).foldl (fun s r => (List.range 4).foldl (fun s p =>
    let nr := num r.data p 1
    let s := s.setFld (cogPage r.node) (0x60 + 4 * p) 0 2 nr
    if (portXing r.node p).isSome then s.setFld (cogPage r.node) (0x60 + 4 * p) 8 8 (22 + 64 * nr) else s) s) s
  let put := fun (s : State) (n bank : Nat) (r : Rec) =>
    (List.range rounds).foldl (fun s k => s.setCogEntry n bank k (r.word (4 * k))) s
  allNodes.foldl (fun s n =>
    if part then match cogRec recs sets n 0 true with
      | some r => put s n (1 - s.cogActive n) r
      | none => s
    else
      let s := { s with cogTab := tdrop (fun k => k / 2048 == n) s.cogTab }
      [0, 1].foldl (fun s b => match cogRec recs sets n b false with
        | some r => put s n b r
        | none => s) s) s

def State.commitGovernor (s : State) : State :=
  match s.loader.recs.find? fun r => r.type == 0x0C with
  | none => s
  | some r => (List.range 4).foldl (fun s a => s.setReg govPage (axOff a 0x108) (r.word (4 * a))) s

/-- Step 5: descriptors by CONFIG (R199); a port's binding waits for activation. -/
def State.commitQueues (s : State) : State :=
  (s.loader.recs.filter fun r => r.type == 0x08).foldl (fun s r => (List.range (r.data.length / 32)).foldl (fun s i =>
    let raw := (r.data.drop (32 * i)).take 32
    let l := if (descOf raw).kind = 3#2 then raw else raw.take 30 ++ [raw.getD 30 0 &&& 0xFE#8] ++ raw.drop 31
    let x := s.svcConfig (r.addr + i) l
    if x.2.1 = stOK then x.1 else x.1.actRefused 0x08 x.2.1) s) s

/-- Step 6: owners and ports of banks. -/
def State.commitBanks (s : State) : State :=
  let act := s.toActivate
  (s.loader.good.filter fun r => r.type == 0x05).foldl (fun s r => (List.range 6).foldl (fun s k =>
    let b := bankOf r.region k
    let s := if s.loader.partialKind ∧ fld (r.word (8 * k)) 4 4 = 1 then s.bankClear b else s
    let x := s.bankOwnerWrite b (r.word (8 * k)) (act.contains r.region)
    let s := if x.2 = stOK then x.1 else x.1.actRefused 0x05 x.2
    s.setReg (bankPage b) 0x44 (r.word (8 * k + 4))) s) s

/-- Step 7: banks' contents from the staging store of a partial image. -/
def State.commitMemory (s : State) : State :=
  (s.loader.good.filter fun r => (r.type == 0x09 || r.type == 0x0A) && r.plane.isNone).foldl (fun s r => s.applyMemory r) s

/-- Step 8: granary settings. A record for tile memory joins the shadow plane. (DEDUCED, log entry 60.) -/
def State.commitRestore (s : State) : State :=
  (s.loader.recs.filter fun r => r.type == 0x10).foldl (fun s r => (List.range (r.data.length / 16)).foldl (fun s i =>
    let id := r.word (16 * i)
    let dest := num r.data (16 * i + 8) 8
    match s.grn.current id with
    | none => s.cfgErr 0x1B 0x10 0 id.toNat
    | some e =>
      let bs := (s.entryData e).take (num r.data (16 * i + 4) 4)
      match windowOf dest (max bs.length 1) with
      | .tile _ _ => s.setLoader { s.loader with recs := s.loader.recs ++ [⟨0x09, 0, BitVec.ofNat 64 dest, bs⟩] }
      | .regs => s.applyMemory ⟨0x09, 0, BitVec.ofNat 64 dest, bs⟩
      | _ =>
        let x := s.storeAll 0x44 0x30 dest bs 8
        if x.2 = stOK then x.1 else x.1.actRefused 0x10 x.2) s) s

/-- Step 10 for one record: a shadow plane becomes the configuration. (DEDUCED, log entry 60.) -/
def State.commitPlane (s : State) (r : Rec) : State :=
  let g := r.region
  let p := rgnPage g
  let k := tileKey g r.tile
  match r.type with
  | 0x01 => (List.range 16).foldl (fun s c =>
      let s := { s with cellCtl := tset cellCtlReset s.cellCtl (k * 16 + c) (r.ctl c) }
      (List.range 64).foldl (fun s i =>
        { s with slots := tset (fun _ => 0) s.slots ((k * 16 + c) * 64 + i) (r.slot c (i / 8) (i % 8)) }) s) s
  | 0x03 =>
    let s := { s with tileCtl := tset (fun _ => 0) s.tileCtl k (r.dword 0) }
    (List.range 8).foldl (fun s x => { s with switch := tset (fun _ => 0) s.switch (k * 8 + x) (r.switch x) }) s
  | 0x04 =>
    let s := ((s.setReg p 0x44 (r.word 0)).setReg p 0x48 (r.word 4)).setReg p 0x50 (BitVec.ofNat 32 (num r.data 200 1))
    let s := s.setFld p 0x40 4 4 (fld (r.word 0) 0 2)
    let s := (List.range 16).foldl (fun s e => s.setReg p (0x80 + 4 * e) (r.word (8 + 4 * e))) s
    let s := (List.range 32).foldl (fun s q => s.setReg p (0xC0 + 4 * q) (r.word (72 + 4 * q))) s
    let x := s.region g
    let s := s.setRegion g { x with txdest := (List.range 16).foldl (fun t q => tset (fun _ => 0) t q (r.word (208 + 4 * q))) [] }
    let d := regionSail g
    let y := s.islWrite d (g % 16) (r.word 204)
    if y.2 = stOK then y.1.clockSettle d (g % 16) else y.1.actRefused 0x04 y.2
  | _ => s

/-- The first multiple of 1 µs at least 50 µs ahead (R313). -/
def actTime (now : Nat) : Nat := (now + 50000 + 999) / 1000 * 1000

/-- The staged records are committed, and T_act is set (R312, R313). (DEDUCED, log entry 60.) -/
def State.commit (s : State) : State :=
  let part := s.loader.partialKind
  match s.loader.recs.findSome? fun r => (s.stageStatus r).map fun st => (r, st) with
  | some x => s.loadFail 0x18 x.1.type x.2 x.1.target.toNat
  | none =>
    let s := s.setPhase 4
    let s := if part then s else s.commitSecurity.commitPackage
    let s := s.commitCogs
    let s := if part then s else s.commitGovernor
    let s := s.commitQueues.commitBanks
    let s := if part then s.commitMemory else s.commitRestore
    let act := s.toActivate
    let s := act.foldl (fun s r => s.setFld (rgnPage r) 0x40 0 3 stLoading) s
    let s := (s.loader.good.filter fun r => r.type ≤ 4 && act.contains r.region).foldl (fun s r => s.commitPlane r) s
    (s.setLoader { s.loader with waiting := false, tact := some (actTime s.tbNs) }).setPhase 5

/-- Stages 4 and 5 of a partial load go on as soon as the scoped regions are cleared, their ports unbound and no swap is
armed at a router to be written (R323). -/
def State.loaderNext (s : State) : State :=
  let l := s.loader
  if s.cfgBusy && l.waiting then
    let rs := regionsOf (hScope l.hdr)
    let clear := rs.all fun r => !s.clearing.getLsbD r && s.portsFree r
    let armed := l.recs.any fun r => r.type == 0x06 && s.cogArmed r.node
    if clear && !armed then s.commit else s
  else s

/-- The tag arrives (R304, R310). -/
def State.tagIn (s : State) (tag : List Byte) : State :=
  let l := s.loader
  if !s.cfgBusy || s.phase != 3 || !l.ended then s
  else if (s.imageKey (hSlot l.hdr) (hEph l.hdr)).isNone then s.loadFail 0x16 0 0 0
  else
    if Config.imageTag (s.headerKey l.hdr) l.hdr l.text ≠ tag then s.loadFail 0x0B 0 0 0
    else if l.partialKind then
      let s := (s.setPhase 4).setLoader { s.loader with waiting := true }
      ((regionsOf (hScope l.hdr)).foldl (fun s r =>
        if s.rgnState r = stActive ∨ s.gate (regionNode r) ≠ gateClosed then s.clearStart r else s) s).loaderNext
    else s.commit

/-! The bytes of a stream (R304, R310, R315, R316). -/

/-- `n` bytes of the stream in progress arrive: `CFG.BYTES`, and the count of the chain input. -/
def State.countBytes (s : State) (n : Nat) : State :=
  let s := s.bumpBy cfgPage 0x58 n
  if s.loadSource = 2 then s.setLoader { s.loader with chainIn := s.loader.chainIn + n } else s

/-- A flash source has ended at LENGTH without the tag (R310). -/
def State.sourceEnd (s : State) : State :=
  let got := (s.reg cfgPage 0x58).toNat
  match s.loader.limit with
  | some n => if s.cfgBusy ∧ s.phase ≤ 3 ∧ n ≤ got then s.loadFail 0x0C 0 0 got else s
  | none => s

/-- Bytes that the source still has. -/
def State.bytesLeft (s : State) (n : Nat) : Nat :=
  match s.loader.limit with
  | some m => min n (m - (s.reg cfgPage 0x58).toNat)
  | none => n

/-- The arrival of a whole part of the stream, `n` bytes long, that `f` takes. -/
def State.takePart (s : State) (n : Nat) (f : State → State) : State :=
  if !s.cfgBusy || decide (3 < s.phase) then s
  else if s.bytesLeft n < n then (s.countBytes (s.bytesLeft n)).sourceEnd
  else (f (s.countBytes n)).sourceEnd

def State.recordArrives (s : State) (r : Rec) : State := s.takePart (16 + r.data.length) fun s => s.recordIn r

/-- Plaintext of stream bytes from offset `pos` (R304). -/
def State.decrypt (s : State) (pos : Nat) (l : List Byte) : List Byte :=
  let h := s.loader.hdr
  if hSlot h = 0 then l
  else l.mapIdx fun i b => b ^^^ Config.keystream (s.headerKey h) ((h.drop 48).take 12) (pos - 352 + i)

/-- The record at the front of the buffer, as far as it is whole (R306, R308). -/
def State.parseRecord (s : State) : Option State :=
  let l := s.loader
  if l.buf.length < 16 then none
  else
    let h := s.decrypt l.off (l.buf.take 16)
    let type := num h 0 1
    let len := num h 4 4
    let target := BitVec.ofNat 64 (num h 8 8)
    let take := fun n => s.setLoader { l with buf := l.buf.drop n }
    if num h 2 2 ≠ 0 ∨ 0x1000000 < len ∨ hLen l.hdr < l.off + 32 + len ∨ (type = 0x7F ∧ (len ≠ 0 ∨ num h 1 1 ≠ 0)) then
      some ((take 16).recordBad type target)
    else if type = 0x7F then some ((take 16).endIn target)
    else if l.buf.length < 16 + len then none
    else some ((take (16 + len)).recordIn ⟨type, num h 1 1, target, s.decrypt (l.off + 16) ((l.buf.drop 16).take len)⟩)

/-- The next part of the stream, once its bytes are there. -/
def State.parseOne (s : State) : Option State :=
  let l := s.loader
  let take := fun n => s.setLoader { l with buf := l.buf.drop n }
  if !s.cfgBusy then none
  else if s.phase = 1 then (if l.buf.length < 352 then none else some ((take 352).headerIn (l.buf.take 352)))
  else if s.phase = 2 then s.parseRecord
  else if s.phase = 3 then (if l.buf.length < 16 then none else some ((take 16).tagIn (l.buf.take 16)))
  else none

def State.parse : Nat → State → State
  | 0, s => s
  | n + 1, s => match s.parseOne with
    | some t => State.parse n t
    | none => s

/-- Stream bytes from the source of the load in progress. -/
def State.streamBytes (s : State) (bs : List Byte) : State :=
  if !s.cfgBusy || decide (3 < s.phase) then s
  else
    let n := s.bytesLeft bs.length
    let s := s.countBytes n
    let s := s.setLoader { s.loader with buf := s.loader.buf ++ bs.take n }
    (State.parse (s.loader.buf.length / 16 + 1) s).sourceEnd

/-- SRC MEMORY (R315): the loader reads the next bytes of the stream. Where a read fails no more bytes come.
(DESIGN CHOICE, log entry 57.) -/
def State.loaderFetch (s : State) : State :=
  match s.loader.memAt with
  | some (a, n) =>
    if !s.cfgBusy || decide (3 < s.phase) || n == 0 then s
    else
      let m := min n (min 2048 (0x1000 - a % 0x1000))
      let x := s.fetch 0x44 0x30 a m
      let s := x.1
      if x.2.1 = stOK then (s.setLoader { s.loader with memAt := some (a + m, n - m) }).streamBytes x.2.2
      else s.setLoader { s.loader with memAt := none }
  | none => s

/-- A byte on the chain input (R316): of the first stream while a chain load takes it; what follows that stream is
forwarded once its header has passed check 4. (DEDUCED, log entry 57.) -/
def State.chainByte (s : State) (b : Byte) : State :=
  let l := s.loader
  if l.forward && decide (l.ownLen ≤ l.chainIn) then s.setLoader { l with chainOut := some b, chainIn := l.chainIn + 1 }
  else if s.cfgBusy && s.loadSource == 2 && s.phase ≤ 3 && (s.reg cfgPage 0x58).toNat == l.chainIn then s.streamBytes [b]
  else if l.chainIn = 0 then s
  else s.setLoader { l with chainIn := l.chainIn + 1 }

/-! Activation (R69, R313, R314). -/

/-- A tile's cells take their initial values (R69). -/
def State.initCells (s : State) (g tile : Nat) (r : Option Rec) : State :=
  (List.range 16).foldl (fun s c =>
    let k := tileKey g tile * 16 + c
    let w := s.cellCtlWord k
    let n := fun o len => match r with
      | some r => num r.data (80 * c + o) len
      | none => 0
    let x := { Cell.reset with
      v := Vector.ofFn fun i : Fin 16 => BitVec.ofNat 32 (n (4 * i.val) 4)
      acc := BitVec.ofNat 64 (n 64 8), m0 := BitVec.ofNat 11 (n 72 2), m1 := BitVec.ofNat 11 (n 74 2)
      flags := BitVec.ofNat 5 (n 76 1), ctxNum := w.extractLsb' 43 3, ctxHold := w.getLsbD 46 }
    s.setCell k { x with flags := flagsIn x.flags }) s
where
  /-- Z, N, C, V, P from bit 4 down in a record (Table 13-4); Z lowest in a cell. -/
  flagsIn (f : BitVec 5) : BitVec 5 :=
    (List.range 5).foldl (fun (b : BitVec 5) i => if f.getLsbD (4 - i) then b ||| BitVec.ofNat 5 (2 ^ i) else b) 0

/-- Region cycle A of a loaded region: tile memory, cells, sequencer. -/
def State.activateRegion (s : State) (g : Nat) : State :=
  let l := s.loader.good
  let s := s.clearBytes (regionNode g * 2 ^ 40 + 0x2000000) 0x48000
  let s := (l.filter fun r => (r.type == 0x09 || r.type == 0x0A) && r.plane == some g).foldl (fun s r => s.applyMemory r) s
  let s := (List.range 36).foldl (fun s t =>
    s.initCells g t (l.find? fun r => r.type == 0x02 && r.region == g && r.tile == t)) s
  let x := s.delivered (regionSail g) (s.seqAxis g)
  s.startRegion g x.valid x.pos

/-- Bindings take effect (R173, R174); the ports of a region that is not ACTIVE stay closed (Table 5-7). -/
def State.bindAll (s : State) : State :=
  (bindings s.loader.good).eraseDups.foldl (fun s b =>
    let k := b.2.1
    if k / 32 < 128 && !s.rgnActive (k / 32) then s
    else if (s.att k).bound && (s.att k).queue == b.1 then s
    else
      let node := attNode k
      let kind := if k / 32 < 128 then 0 else if attIdx k < 16 then 2 else 1
      let s := s.bind k b.1 node kind (if kind = 0 then attIdx k else attIdx k % 16)
      if (s.att k).bound then s else s.actRefused (if kind = 0 then 0x04 else 0x08) stDenied) s

/-- Pin and group words come into force (R314) with the initial levels of the GPIO outputs (Table 18-1, INIT); those of a
rejected or cleared region do not. -/
def State.applyIob (s : State) : State :=
  (List.range 9).foldl (fun s d => (iobWords s.loader.good d).foldl (fun s x =>
    if d ≠ 0 ∧ s.loader.bad.contains (16 * (d - 1) + dfld x.2.1 52 4) then s
    else if 0x80 ≤ x.1 then s.setReg64 (iobPage d) (grpOff (x.1 - 0x80)) (x.2.1 &&& grpMask)
    else ((s.setReg64 (iobPage d) (pinOff x.1) x.2.1).pinSetTo d x.1 true).setBit (iobPage d)
      (if x.1 < 32 then 0x50 else 0x5C) (x.1 % 32) (x.2.1.getLsbD 0)) s) s

/-- A core may start: powered, and not held in reset by self-test (R455). -/
def State.coreUsable (s : State) (c : Nat) : Bool := !s.power.off.getLsbD c && !s.rbit (bistPage 0) 0x4C c

/-- Step 4 after region cycle A (R313, R405): at boot core 0 without START leaves the boot ROM and is OFF. (DEDUCED, log entry 60.) -/
def State.startCores (s : State) : State :=
  if s.sec.halt then s else
  match s.loader.recs.find? fun r => r.type == 0x0E with
  | none => if s.booted then s else (s.taskOff 0 0).setRun 0 0
  | some r => (List.range 4).foldl (fun s c =>
      if bit (r.word (8 * c + 4)) 0 then
        if s.coreUsable c then s.coreStart c (r.word (8 * c)) false else s.actRefused 0x0E stDestAsleep
      else if c = 0 ∧ !s.booted then (s.taskOff 0 0).setRun 0 0 else s) s

/-- The granary record of a stack's training results (R414): its rate, then the lanes it repaired.
(DESIGN CHOICE, log entry 83.) -/
def hbmRecord (k : Nat) : Word := BitVec.ofNat 32 (0x80000000 + k)

/-- New training results are committed after user run begins (R253). -/
def State.storeTraining (s : State) : State :=
  (List.range 4).foldl (fun s k =>
    if s.rbit (hbmPage k) 0x40 4 && s.rbit (hbmPage k) 0x40 0 then
      s.grnSubmit .device (hbmRecord k) false (natBytes 4 (s.rfld (hbmPage k) 0x40 6 2) ++ wordBytes (s.reg (hbmPage k) 0x54))
    else s) s

/-- What a full or golden image sets besides (R313, R318, R372). (DEDUCED, log entry 59.) -/
def State.bootDone (s : State) : State :=
  let l := s.loader
  let gold := l.golden || l.kind == 2
  let us := (s.cycle - l.bootAt) / 1600
  let h := Config.sha384 l.hdr
  let s := s.setReg cfgPage 0x80 (BitVec.ofNat 32 (hVersion l.hdr % 128 + l.kind * 2 ^ 8 + l.variant % 16 * 2 ^ 12))
  let s := (s.setReg cfgPage 0x84 (BitVec.ofNat 32 (min us (2 ^ 32 - 1)))).setFld cfgPage 0x44 24 4 l.variant
  let s := (s.setReg twnPage 0x78 (h.extractLsb' 0 32)).setReg twnPage 0x7C (h.extractLsb' 32 32)
  let s := s.setBit cfgPage 0x44 30 gold
  (if gold then s.cfgEvent 3 0 s.attempt else s).cfgEvent 2 l.variant (us / 1000)

/-- T_act is reached (R313, R323). (DEDUCED, log entry 61.) -/
def State.activate (s : State) : State :=
  match s.loader.tact with
  | none => s
  | some _ =>
    let l := s.loader
    let part := l.partialKind
    -- a region cleared since the commit has lost its configuration (R104)
    let act := s.toActivate.filter fun r => s.rgnState r == stLoading
    let s := s.applyIob
    let s := act.foldl (fun s r => s.activateRegion r) s
    let s := s.bindAll
    let s := act.foldl (fun s r => s.writeClose (regionNode r) false) s
    let s := if part then s else
      let s := (List.range 4).foldl (fun s q => s.setBit (qmPage q) 0x40 0 true) s
      -- a die whose new round length is still to come is enabled when it comes (R145)
      (allNodes.foldl (fun s n => if (s.cogs (nodeDie n)).newLen.isSome then s else s.cogCtrlWrite n 1) s).startCores.storeTraining
    let s := (List.range 8).foldl (fun s t => s.trigRetest t) s
    let s := (s.setMask 0x70 0).bump cfgPage 0x88
    let s := ((s.setBit cfgPage 0x44 21 false).setPhase 0).setBit cfgPage 0x44 31 true
    let s := s.cfgEvent 1 l.kind act.length
    let s := if part then s else s.bootDone
    let ahead := match l.recs.find? fun r => r.type == 0x11 with
      | some r => num r.data 0 2
      | none => 64
    let s := if part then ((l.recs.filter fun r => r.type == 0x06).map Rec.node).eraseDups.foldl (fun s n =>
        (s.cogSwapWrite n (BitVec.ofNat 32 (2 ^ 31 + ((s.cogs (nodeDie n)).round.toNat + ahead) % 65536))).1) s else s
    s.setLoader { Loader.reset with
      ran := tset (fun _ => none) l.ran l.kind (some (hVersion l.hdr)), forward := l.forward, chainOut := l.chainOut
      dead := l.dead, bootAt := l.bootAt, chainIn := l.chainIn, ownLen := l.ownLen }

/-- Version of the running image by ROLLBACK index (R288). -/
def State.ranVersion (s : State) (n : Nat) : Option Nat := tget (fun _ => none) s.loader.ran (if n = 0 then 0 else if n = 1 then 2 else 1)

/-! Requests (R320, R321, R325). -/

/-- A load request while one is in progress (R320). (DEDUCED, log entry 55.) -/
def State.loadBusy (s : State) (source : Nat) : State := (s.setBit cfgPage 0x0C 6 true).cfgErr 0x1A 0 source 0

/-- A write to `CFG.CTRL` (Table 13-13). (DEDUCED, log entry 55.) -/
def State.cfgCtrl (s : State) (w : Word) : State :=
  let src := fld w 0 2
  let s := s.setReg cfgPage 0x40 (w &&& 3#32)
  let s := if bit w 30 then s.loadFail 0x19 0 1 0 else s
  if !bit w 31 || s.loader.dead || 2 ≤ src then s
  else
    let source := if src = 0 then 4 else 1
    if s.cfgBusy then s.loadBusy source
    else s.loadStart source { Loader.reset with
      memAt := if src = 0 then some ((s.reg cfgPage 0x48).toNat + s.rfld cfgPage 0x4C 0 16 * 2 ^ 32, (s.reg cfgPage 0x50).toNat)
        else none }

/-- A word at the sluice (Table 13-9). (DEDUCED, log entry 57.) -/
def State.sluiceWord (s : State) (w : SWord) : State :=
  let drop := s.bump cfgPage 0x90
  if SWord.isIdle w then s
  else if s.loader.dead then drop
  else if s.cfgBusy && !s.loader.sluice then
    if SWord.tag w &&& 0x1F#6 == 0x1B#6 && SWord.data w == 0 then drop.loadBusy 3 else drop
  else if SWord.kind w == 3#2 then
    match (SWord.arg w).toNat with
    | 3 =>
      if SWord.data w = 0 then
        let s := s.loadFail 0x19 0 3 0
        s.loadStart 3 { Loader.reset with sluice := true }
      else drop
    | 1 | 2 => if s.cfgBusy then s.loadFail 0x19 0 3 0 else drop
    | _ => drop
  else if SWord.kind w == 0#2 || SWord.kind w == 1#2 then
    if s.cfgBusy && decide (s.phase ≤ 3) then s.streamBytes (wordBytes (SWord.data w)) else drop
  else drop

/-! The commands. A record command stands for the arrival of that record from the source of the load in progress. -/

def execImageHeader (h : List Byte) (s : State) : Host.Outcome State Fault Refusal := .next (s.takePart h.length fun s => s.headerIn h)

def execRecordCell (cond : BitVec 8) (target : DWord) (data : List Byte) (s : State) : Host.Outcome State Fault Refusal :=
  .next (s.recordArrives ⟨0x01, cond.toNat, target, data⟩)

def execRecordCellInit (cond : BitVec 8) (target : DWord) (data : List Byte) (s : State) :
    Host.Outcome State Fault Refusal :=
  .next (s.recordArrives ⟨0x02, cond.toNat, target, data⟩)

def execRecordTile (cond : BitVec 8) (target : DWord) (data : List Byte) (s : State) : Host.Outcome State Fault Refusal :=
  .next (s.recordArrives ⟨0x03, cond.toNat, target, data⟩)

def execRecordRegion (cond : BitVec 8) (target : DWord) (data : List Byte) (s : State) :
    Host.Outcome State Fault Refusal :=
  .next (s.recordArrives ⟨0x04, cond.toNat, target, data⟩)

def execRecordBank (cond : BitVec 8) (target : DWord) (data : List Byte) (s : State) : Host.Outcome State Fault Refusal :=
  .next (s.recordArrives ⟨0x05, cond.toNat, target, data⟩)

def execRecordCog (cond : BitVec 8) (target : DWord) (data : List Byte) (s : State) : Host.Outcome State Fault Refusal :=
  .next (s.recordArrives ⟨0x06, cond.toNat, target, data⟩)

def execRecordXing (cond : BitVec 8) (target : DWord) (data : List Byte) (s : State) : Host.Outcome State Fault Refusal :=
  .next (s.recordArrives ⟨0x07, cond.toNat, target, data⟩)

def execRecordQueue (cond : BitVec 8) (target : DWord) (data : List Byte) (s : State) : Host.Outcome State Fault Refusal :=
  .next (s.recordArrives ⟨0x08, cond.toNat, target, data⟩)

def execRecordMemory (cond : BitVec 8) (target : DWord) (data : List Byte) (s : State) :
    Host.Outcome State Fault Refusal :=
  .next (s.recordArrives ⟨0x09, cond.toNat, target, data⟩)

def execRecordZero (cond : BitVec 8) (target : DWord) (data : List Byte) (s : State) : Host.Outcome State Fault Refusal :=
  .next (s.recordArrives ⟨0x0A, cond.toNat, target, data⟩)

def execRecordPackage (cond : BitVec 8) (target : DWord) (data : List Byte) (s : State) :
    Host.Outcome State Fault Refusal :=
  .next (s.recordArrives ⟨0x0B, cond.toNat, target, data⟩)

def execRecordGovernor (cond : BitVec 8) (target : DWord) (data : List Byte) (s : State) :
    Host.Outcome State Fault Refusal :=
  .next (s.recordArrives ⟨0x0C, cond.toNat, target, data⟩)

def execRecordSecurity (cond : BitVec 8) (target : DWord) (data : List Byte) (s : State) :
    Host.Outcome State Fault Refusal :=
  .next (s.recordArrives ⟨0x0D, cond.toNat, target, data⟩)

def execRecordCore (cond : BitVec 8) (target : DWord) (data : List Byte) (s : State) : Host.Outcome State Fault Refusal :=
  .next (s.recordArrives ⟨0x0E, cond.toNat, target, data⟩)

def execRecordIob (cond : BitVec 8) (target : DWord) (data : List Byte) (s : State) : Host.Outcome State Fault Refusal :=
  .next (s.recordArrives ⟨0x0F, cond.toNat, target, data⟩)

def execRecordRestore (cond : BitVec 8) (target : DWord) (data : List Byte) (s : State) :
    Host.Outcome State Fault Refusal :=
  .next (s.recordArrives ⟨0x10, cond.toNat, target, data⟩)

def execRecordCogSwap (cond : BitVec 8) (target : DWord) (data : List Byte) (s : State) :
    Host.Outcome State Fault Refusal :=
  .next (s.recordArrives ⟨0x11, cond.toNat, target, data⟩)

/-- A record of a reserved TYPE, or with nonzero reserved bytes in its header. -/
def execRecordReserved (type : BitVec 8) (target : DWord) (s : State) : Host.Outcome State Fault Refusal :=
  .next (s.takePart 16 fun s => s.recordBad type.toNat target)

def execRecordEnd (target : DWord) (s : State) : Host.Outcome State Fault Refusal :=
  .next (s.takePart 16 fun s => s.endIn target)

/-- See the log (DESIGN CHOICE, log entry 1). -/
def execImageTag (tag : List Byte) (s : State) : Host.Outcome State Fault Refusal := .next (s.takePart tag.length fun s => s.tagIn tag)

/-- No byte for CFG.TIMEOUT, or the manifest's LENGTH is reached without the tag (R310). -/
def execStreamTimeout (s : State) : Host.Outcome State Fault Refusal :=
  .next (if s.phase ≤ 3 then s.loadFail 0x0C 0 0 (s.reg cfgPage 0x58).toNat else s)

/-- See the log (DESIGN CHOICE, log entry 1). -/
def execLoadActivate (s : State) : Host.Outcome State Fault Refusal := .next s.activate

/-- A write to `CFG.CTRL` with GO = 1. -/
def execCfgGo (src : BitVec 2) (s : State) : Host.Outcome State Fault Refusal :=
  .next ((s.cfgCtrl (0x80000000#32 ||| src.setWidth 32)).reply stOK [])

/-- A write to `CFG.CTRL` with ABORT = 1 that keeps SRC. -/
def execCfgAbort (s : State) : Host.Outcome State Fault Refusal :=
  .next ((s.cfgCtrl (0x40000000#32 ||| s.reg cfgPage 0x40)).reply stOK [])

def execSluiceWord (w : SWord) (s : State) : Host.Outcome State Fault Refusal := .next (s.sluiceWord w)

/-- An xSPI read error at a flash offset, or a lost chain clock (Table 13-16). -/
def execSourceReadError (chain : Bool) (off : Word) (s : State) : Host.Outcome State Fault Refusal :=
  .next (if s.loadSource = (if chain then 2 else 0) ∧ s.phase ≤ 3 then
      s.loadFail 0x17 0 (if chain then 3 else 1) (if chain then 0 else off.toNat)
    else s)

/-- See the log (DEDUCED, log entry 57). -/
def execChainByteArrive (b : Byte) (s : State) : Host.Outcome State Fault Refusal :=
  .next (s.chainByte b)

end Sys2Proof.Machine
end

