-- ==== Sys2Proof/Machine/Bist.lean ====
section
/-! DEFINITION. Self-test at boot and online (19_test_and_debug, R452 to R460). What a signature shows is an operand of the
end of a test. -/

namespace Sys2Proof.Machine

/-- Units of Table 19-1 by type: 1 region, 2 bank, 3 sail router, 4 core, 5 DMA, 6 trace buffer, 7 cap fabric; test power
in 0.1 W. -/
def testPower (type : Nat) : Nat :=
  match type with
  | 1 => 32 | 2 => 2 | 3 => 1 | 4 => 8 | 5 => 2 | 6 => 1 | 7 => 20 | _ => 0

/-- The entry of a failure record (R456). -/
def unitEntry (u : TestUnit) : Word := BitVec.ofNat 32 (u.type % 16 * 2 ^ 28 + u.die % 16 * 2 ^ 24 + u.index % 2 ^ 24)
def entryUnit (w : Word) : TestUnit := ⟨fld w 28 4, fld w 24 4, fld w 0 24⟩

/-- Entries that name a unit of Table 19-1. -/
def unitOk (u : TestUnit) : Bool :=
  match u.type with
  | 1 | 3 => decide (1 ≤ u.die ∧ u.die ≤ 8 ∧ u.index < 16)
  | 2 => decide (1 ≤ u.die ∧ u.die ≤ 8 ∧ u.index < 96)
  | 4 => decide (u.die = 0 ∧ 1 ≤ u.index ∧ u.index ≤ 3)
  | 5 | 6 | 7 => decide (u.die = 0 ∧ u.index = 0)
  | _ => false

def State.setBist (s : State) (b : Bist) : State := { s with bist := b }

/-- Boot depth: of the manifest, OFF where there is none. (DEDUCED, log entry 84.) -/
def State.bootDepth (s : State) : Nat := match s.manifest with
  | some m => min (num m 8 1) 2
  | none => 0

def State.bistDone (s : State) : Bool := s.rbit cfgPage 0x44 28

/-- Test power of the units under test (R454). -/
def Bist.power (b : Bist) : Nat := (b.running.map fun x => testPower x.1.type).sum

/-! The failure record (R456). -/

def failId : Word := 0x80000300#32

/-- The entries that the granary holds. (DESIGN CHOICE, log entry 83.) -/
def State.storedFails (s : State) : List Word :=
  match s.grn.current failId with
  | some e =>
    let l := s.entryData e
    (List.range (min (num l 0 4) ((l.length - 4) / 4))).map fun i => BitVec.ofNat 32 (num l (4 + 4 * i) 4)
  | none => []

/-- See the log (DESIGN CHOICE, log entry 83). -/
def State.saveFails (s : State) : State :=
  s.grnSubmit .device failId false (wordBytes (BitVec.ofNat 32 s.bist.failed.length) ++ s.bist.failed.flatMap wordBytes)

/-! Marks of a unit (R459, R455). -/

/-- A region that failed is UNUSABLE at once. -/
def State.rgnFailed (s : State) (r : Nat) : State :=
  let s := (s.discardRegion r stUnusable).setBit (bistPage (regionSail r)) 0x40 (r % 16) true
  s.setMask 0x60 (s.usable &&& ~~~(BitVec.ofNat 128 (2 ^ r)))

/-- A sail whose router failed is held in reset, its links in RESET. (DEDUCED, log entry 43.) -/
def State.sailFailed (s : State) (d : Nat) : State :=
  let s := s.isolateSail d
  let s := (dieLinks d).foldl (fun s l => (s.setLinkState l lkReset).setLink l { s.link l with step := 0 }) s
  ({ s with released := tset (fun _ => 0) s.released d 0 } : State).setBit (rstPage 0) 0x50 (d - 1) true

/-- What Table 19-2 does to a unit that failed; `boot`: the unit failed at boot. -/
def State.markUnit (s : State) (u : TestUnit) (boot : Bool) : State :=
  match u.type with
  | 1 => (s.rgnFailed (unitRegion u)).setBit (unitPage u) 0x0C 4 true
  | 2 =>
    let b := unitBank u
    let s := (s.bankClear b).setBit (bankPage b) 0x0C 4 true
    let s := ((s.setFld (bankPage b) 0x40 8 2 2).setBit (bankPage b) 0x40 16 false).setBank b
      { s.bank b with target := none, queued := none }
    let s := s.setBit (bistPage u.die) (0x50 + 4 * (u.index / 32)) (u.index % 32) true
    if boot then s.rgnFailed (b / 6) else s
  | 3 => ((s.setBit (bistPage u.die) 0x48 u.index true).setBit (unitPage u) 0x0C 4 true).sailFailed u.die
  | 4 => ((s.setBit (bistPage 0) 0x4C u.index true).setBit (unitPage u) 0x0C 4 true).setRun u.index 0
  | 5 => (s.setBit (bistPage 0) 0x4C 4 true).setBit (unitPage u) 0x0C 4 true
  | 6 => (s.setBit (bistPage 0) 0x4C 5 true).setBit (unitPage u) 0x0C 4 true
  | _ =>
    let s := (s.setBit (bistPage 0) 0x4C 0 true).bistEvent 2 0 0
    let s := ((s.setFld cfgPage 0x44 22 2 0).cfgErr 0x1C 0 0 0).setFld cfgPage 0x44 0 8 0x1C
    s.setLoader { s.loader with boot := false, golden := false, dead := true }

/-- A unit fails: counted, BIST_FAIL, marked and kept for the record. (DEDUCED, log entry 84.) -/
def State.unitFails (s : State) (u : TestUnit) (boot : Bool) : State :=
  let s := (s.bump (bistPage 0) 0x54).bistEvent 1 (u.die * 16 + u.type) u.index
  let s := s.setBist { s.bist with fails := s.bist.fails + 1 }
  let s := s.markUnit u boot
  if s.bist.failed.contains (unitEntry u) then s
  else
    let s := s.setBist { s.bist with failed := s.bist.failed ++ [unitEntry u] }
    if boot then s else s.saveFails

/-- A unit is initialised again when its test ends (R453). -/
def State.unitInit (s : State) (u : TestUnit) : State :=
  match u.type with
  | 1 =>
    let r := unitRegion u
    (s.discardRegion r (if s.rgnState r = stUnusable then stUnusable else stCleared)).clearBytes
      (regionNode r * 2 ^ 40 + 0x2000000) 0x48000
  | 2 => s.bankClear (unitBank u)
  | 3 =>
    let n := regionNode (unitRegion u)
    { s with cogTab := tdrop (fun k => k / 2048 == n) s.cogTab }
  | 4 => s.setCore u.index Core.reset
  | _ => s

/-! HBM training at boot (R253), step 3 of Table 13-7. -/

/-- Step 3 is open for a stack: link training and the scan of the device records have ended, self-test has not begun, and
the stack is neither in service nor FAILED. (DEDUCED, log entry 84.) -/
def State.hbmTraining (s : State) (k : Nat) : Bool :=
  s.training.done && s.grn.scanned.getLsbD 2 && !s.rbit cfgPage 0x44 28 && s.rfld (bistPage 0) 0x48 0 2 == 0
    && !s.rbit (hbmPage k) 0x40 0 && !s.rbit (hbmPage k) 0x40 3

/-- Restore and verification end: a channel that fails, or a stack of which the granary holds no results, starts full
training; `rate` is that at which it verified. -/
def State.hbmRestored (s : State) (k rate : Nat) (failing : BitVec 16) : State :=
  if !s.hbmTraining k then s
  else match s.grn.current (hbmRecord k) with
    | some e =>
      if failing = 0 then
        let p := hbmPage k
        (s.setReg p 0x54 (s.reg p 0x54 ||| BitVec.ofNat 32 (num (s.entryData e) 4 2))).hbmTrained k rate 0
      else s.setBit (hbmPage k) 0x40 4 true
    | none => s.setBit (hbmPage k) 0x40 4 true

/-- Full training ends, with the lanes it repaired. -/
def State.hbmFullTrained (s : State) (k rate : Nat) (failing repaired : BitVec 16) : State :=
  let p := hbmPage k
  if !s.hbmTraining k then s
  else ((s.setBit p 0x40 4 true).setReg p 0x54 (s.reg p 0x54 ||| repaired.setWidth 32)).hbmTrained k rate failing

def execHbmRestoreDone (k : Fin 4) (rate : Fin 4) (failing : BitVec 16) (s : State) : Host.Outcome State Fault Refusal :=
  .next (s.hbmRestored k.val rate.val failing)

/-- See the log (DESIGN CHOICE, log entry 9). -/
def execHbmTrainDone (k : Fin 4) (rate : Fin 4) (failing repaired : BitVec 16) (s : State) :
    Host.Outcome State Fault Refusal :=
  .next (s.hbmFullTrained k.val rate.val failing repaired)

/-- Step 3 has ended: every stack of a sail that is not isolated is in service or FAILED (R319). -/
def State.hbmReady (s : State) : Bool :=
  (List.range 4).all fun k => s.isIsolated (stackSail k) || s.rbit (hbmPage k) 0x40 0 || s.rbit (hbmPage k) 0x40 3

/-! Boot (R454). -/

/-- Units of an engine in the order of its phases: the cap's; a sail's 16 routers, 16 regions and 96 banks. -/
def bootUnit (d i : Nat) : Option TestUnit :=
  if d = 0 then
    (match i with
     | 0 => some ⟨7, 0, 0⟩ | 1 => some ⟨4, 0, 1⟩ | 2 => some ⟨4, 0, 2⟩ | 3 => some ⟨4, 0, 3⟩ | 4 => some ⟨5, 0, 0⟩
     | 5 => some ⟨6, 0, 0⟩ | _ => none)
  else if i < 16 then some ⟨3, d, i⟩
  else if i < 32 then some ⟨1, d, i - 16⟩
  else if i < 128 then some ⟨2, d, i - 32⟩
  else none

/-- Units of a type that an engine tests together. (DEDUCED, log entry 84.) -/
def together (type : Nat) : Nat := match type with
  | 1 => 4 | 2 => 24 | _ => 16

/-- An engine takes part in the boot test: its sail is not isolated. -/
def State.engineUsed (s : State) (d : Nat) : Bool := d == 0 || !s.isIsolated d

def State.nextUnit (s : State) (d : Nat) : Nat := tget (fun _ => 0) s.bist.nextIdx d

/-- A test starts: `online` keeps how its failure is treated. -/
def State.startUnit (s : State) (u : TestUnit) (online : Bool) : State :=
  (s.showTest u true).setBist { s.bist with running := s.bist.running ++ [(u, online)] }

/-- The boot test begins with its first unit: depth shown, failures of shallower tests carried on. -/
def State.bootBegin (s : State) : State :=
  let depth := s.bootDepth
  if s.rfld (bistPage 0) 0x48 0 2 ≠ 0 ∨ depth = 0 then s
  else
    let s := s.setFld (bistPage 0) 0x48 0 2 depth
    s.setBist { Bist.reset with began := s.cycle, failed := if depth = 2 then [] else s.storedFails }

/-- An engine may start its next unit: link and HBM training have ended (R319), units of an earlier phase are done, fewer than the phase's
number run, and 160 W allow it. (DEDUCED, log entry 84.) -/
def State.bootStart (s : State) (d : Nat) : State :=
  if s.bistDone || s.sec.halt || !s.training.done || !s.hbmReady || !s.engineUsed d || s.bootDepth == 0 || s.loader.dead then s
  else
    let s := s.bootBegin
    match bootUnit d (s.nextUnit d) with
    | none => s
    | some u =>
      let mine := s.bist.running.filter fun x => x.1.die == d
      let ok := d == 0 || (mine.all (fun x => x.1.type == u.type) && decide (mine.length < together u.type))
      if ok ∧ s.bist.power + testPower u.type ≤ 1600 then
        (s.startUnit u false).setBist { (s.startUnit u false).bist with
          nextIdx := tset (fun _ => 0) s.bist.nextIdx d (s.nextUnit d + 1) }
      else s

/-- A unit's test ends; `pass`: its signature is the expected one (R453). -/
def State.endUnit (s : State) (u : TestUnit) (pass : Bool) : State :=
  match s.bist.running.find? fun x => x.1 == u with
  | none => s
  | some (_, online) =>
    let s := s.setBist { s.bist with running := s.bist.running.filter fun x => x.1 != u }
    let s := ((s.showTest u false).unitInit u).bump (bistPage 0) 0x50
    let s := if online then s.setFld (bistPage 0) 0x48 8 8 (s.rfld (bistPage 0) 0x48 8 8 - 1) else s
    let s := if pass then s else s.unitFails u (!online)
    if u.type = 2 then s.bankPwrDone (unitBank u) else s

/-- Regions of usable sails that are not UNUSABLE (R318). -/
def State.usableMask (s : State) : BitVec 128 :=
  (List.range 128).foldl (fun (m : BitVec 128) r =>
    if s.rbit (pkgPage 0) 0x44 (7 + regionSail r) && s.rgnState r != stUnusable then m ||| BitVec.ofNat 128 (2 ^ r) else m) 0

/-- A sail is usable (Table 1-9): all its links trained, its routers passed, not isolated. -/
def State.sailUsable (s : State) (d : Nat) : Bool :=
  s.training.answered.getLsbD d && !s.isIsolated d && s.reg (bistPage d) 0x48 == 0
    && (dieLinks d).all fun l => s.linkState l != lkReset && s.linkState l != lkTraining && s.linkState l != lkDown

/-- The boot-kind blocks but GRN and HLTH (Table 20-1). -/
def bootPages : List Page :=
  [⟨.qm, 0⟩, ⟨.qm, 1⟩, ⟨.qm, 2⟩, ⟨.qm, 3⟩, ⟨.iob, 0⟩, ⟨.glc, 1⟩, ⟨.glc, 2⟩, ⟨.glc, 3⟩, ⟨.tsk, 1⟩, ⟨.tsk, 2⟩, ⟨.tsk, 3⟩,
   ⟨.wdt, 1⟩, ⟨.gov, 0⟩, ⟨.enc, 0⟩, ⟨.twn, 0⟩]

/-- BIST has failed a page's block; a core's pages fail together. -/
def State.failedBlock (s : State) (p : Page) : Bool := s.rbit (if p.blk = .tsk then ⟨.glc, p.inst⟩ else p) 0x0C 4

/-- The boot ROM releases every boot-kind block that has not failed (R483). -/
def State.releaseBlocks (s : State) : State :=
  bootPages.foldl (fun s p => if s.failedBlock p then s else s.enablePage p) s

/-- The boot test ends: recorded units are marked, PKG.DIES.USABLE and CFG.USABLE set, and the image is chosen (R27, R318,
R319, R456). (DEDUCED, log entry 84.) -/
def State.bootEnd (s : State) : State :=
  let depth := s.bootDepth
  let waits := depth != 0 && (List.range 9).any fun d => s.engineUsed d && (bootUnit d (s.nextUnit d)).isSome
  if s.bistDone || !s.training.done || !s.hbmReady || waits || s.bist.running != [] || s.loader.dead then s
  else
    let s := if depth = 0 then s.setBist { s.bist with failed := s.storedFails, began := s.cycle } else s
    let s := if depth = 2 then s
      else (((s.bist.failed.map entryUnit).filter unitOk).foldl (fun s u =>
        if s.storedFails.contains (unitEntry u) then (s.bistEvent 1 (u.die * 16 + u.type) u.index).markUnit u true else s) s)
    let s := if s.bist.failed = s.storedFails then s else s.saveFails
    let s := (List.range 8).foldl (fun s i => s.setBit (pkgPage 0) 0x44 (8 + i) (s.sailUsable (i + 1))) s
    let s := (s.setMask 0x60 s.usableMask).setBit cfgPage 0x44 28 true
    let time := min ((s.cycle - s.bist.began) / 160000) 0xFFFF
    let s := if depth = 0 then s else s.setFld (bistPage 0) 0x48 16 16 time
    let s := (s.bistEvent 0 depth s.bist.fails).setBist { s.bist with nextIdx := [] }
    if s.loader.dead then s else s.releaseBlocks.bootTry

/-! Online (R457, R458). -/

/-- A region the loader has marked busy (R323). -/
def State.loaderHolds (s : State) (r : Nat) : Bool :=
  s.cfgBusy && s.loader.hdr != [] && (!s.loader.partialKind || (hScope s.loader.hdr).getLsbD r)

/-- Unit i of a sail's rotation: regions, then banks. -/
def onlineUnit (d i : Nat) : TestUnit := if i < 16 then ⟨1, d, i⟩ else ⟨2, d, i - 16⟩

/-- A request of the power manager concerns a region (R343). -/
def State.pwrConcerns (s : State) (r : Nat) : Bool :=
  match s.power.req with
  | some q => q.kind == 0 && 16 * (q.die - 1) + q.index == r
  | none => false

/-- A region whose power request is not done is no more eligible: it could fail its test while it is drained (R102). -/
def State.eligible (s : State) (u : TestUnit) : Bool :=
  if u.type = 1 then
    let r := unitRegion u
    s.rgnState r == stCleared && s.gate (regionNode r) != gateAsleep && !s.staged.getLsbD r && !s.loaderHolds r
      && !s.clearing.getLsbD r && !s.pwrConcerns r
  else
    let b := unitBank u
    s.bankKind b == 0 && s.bankOn b && !s.bankSecure b && !s.bankPending b && !s.rbit (bankPage b) 0x0C 4

/-- A sail engine's INTERVAL has passed since its previous start. -/
def State.onlineTick (s : State) (d : Nat) : State :=
  if !s.booted || s.sec.halt || !s.rbit (bistPage 0) 0x40 0 || s.isIsolated d || s.bist.running.any (fun x => x.1.die == d) then s
  else
    match ((List.range 112).map fun i => (s.nextUnit d + i) % 112).find? fun i => s.eligible (onlineUnit d i) with
    | none => s
    | some i =>
      let u := onlineUnit d i
      if s.bist.power + testPower u.type ≤ s.rfld (bistPage 0) 0x44 0 12 then
        let s := (s.startUnit u true).setFld (bistPage 0) 0x48 8 8 (s.rfld (bistPage 0) 0x48 8 8 + 1)
        s.setBist { s.bist with nextIdx := tset (fun _ => 0) s.bist.nextIdx d ((i + 1) % 112) }
      else s

/-! The commands. -/

def execBistUnitStart (d : Fin 9) (s : State) : Host.Outcome State Fault Refusal := .next (s.bootStart d.val)

/-- See the log (DESIGN CHOICE, log entry 9). -/
def execBistUnitEnd (type : Fin 8) (d : Fin 9) (index : Fin 96) (pass : Bool) (s : State) :
    Host.Outcome State Fault Refusal :=
  .next (s.endUnit ⟨type.val, d.val, index.val⟩ pass)

def execBootBistEnd (s : State) : Host.Outcome State Fault Refusal := .next s.bootEnd

def execBistOnlineTick (sail : Fin 8) (s : State) : Host.Outcome State Fault Refusal := .next (s.onlineTick (sail.val + 1))

end Sys2Proof.Machine
end

