-- ==== Sys2Proof/Machine/Outer.lean ====
section
/-! DEFINITION. Transceivers, MACs, the PCIe controller's own part, host DMA and the serial controllers (R438 to R451). -/

namespace Sys2Proof.Machine

def xcvPage (i : Nat) : Page := ⟨.xcv, i⟩
def pciePage : Page := ⟨.pcie, 0⟩
def ethPage : Page := ⟨.eth, 0⟩
def uartPage : Page := ⟨.uart, 0⟩
def spiPage : Page := ⟨.spi, 0⟩
def iicPage : Page := ⟨.iic, 0⟩

def State.setOuter (s : State) (x : Outer) : State := { s with outer := x }

/-- A block whose ENABLE can hold it in reset is released (R483). -/
def State.released1 (s : State) (p : Page) : Bool := s.rbit p 0x08 0

/-- A refused claim (R437): CONFLICT and the page's refusal event. -/
def State.conflict (s : State) (p : Page) : State := s.setBit p 0x0C 6 true

/-! Transceiver lanes (R439, R440). A lane is page·16 + local index. -/

def laneOff (l off : Nat) : Nat := off + 0x20 * (l % 16)
def laneMode (s : State) (l : Nat) : Nat := s.rfld (xcvPage (l / 16)) (laneOff l 0x100) 0 3
def laneOwner (s : State) (l : Nat) : Nat := s.rfld (xcvPage (l / 16)) (laneOff l 0x108) 4 2
def State.setLaneOwner (s : State) (l o : Nat) : State := s.setFld (xcvPage (l / 16)) (laneOff l 0x108) 4 2 o
def State.lane (s : State) (l : Nat) : Lane := tget (fun _ => Lane.reset) s.outer.lanes l
def State.setLane (s : State) (l : Nat) (x : Lane) : State :=
  s.setOuter { s.outer with lanes := tset (fun _ => Lane.reset) s.outer.lanes l x }

/-- `LANE_REFUSED` (R437). (DESIGN CHOICE, log entry 90.) -/
def State.laneRefused (s : State) (l owner : Nat) : State :=
  (s.conflict (xcvPage (l / 16))).raise (xcvPage (l / 16)) 0 (BitVec.ofNat 32 (0x01000000 + l % 16 * 2 ^ 16 + owner)) 0

/-- Owner that a mode makes: 0 none, 1 RAW, 2 ETH. -/
def modeOwner (m : Nat) : Nat := if m = 1 then 1 else if m = 2 ∨ m = 3 then 2 else 0

/-- A write to `XCV.CTRL[l]`: OFF releases the lane, another mode claims it (R437, R439). (DESIGN CHOICE, log entry 90.) -/
def State.xcvCtrl (s : State) (l : Nat) (w : Word) : State × Nat :=
  let m := fld w 0 3
  let own := laneOwner s l
  let put := fun (s : State) => s.setReg (xcvPage (l / 16)) (laneOff l 0x100) (w &&& 0x0FFF0007#32)
  if m = 0 then
    (if own = 3 then (s.laneRefused l own, stDenied) else (((put s).setLaneOwner l 0).setLane l Lane.reset, stOK))
  else if 4 ≤ m ∨ ((m = 2 ∨ m = 3) ∧ (l < 16 ∨ 24 ≤ l)) then (s, stDenied)
  else if own ≠ 0 ∧ own ≠ modeOwner m then (s.laneRefused l own, stDenied)
  else (((put s).setLaneOwner l (modeOwner m)).setBit (xcvPage (l / 16)) 0x0C 6 false, stOK)

/-- A RAW lane receives a word (R440). -/
def State.rawRx (s : State) (l : Nat) (w : Word) : State :=
  if laneMode s l ≠ 1 ∨ !s.released1 (xcvPage (l / 16)) then s
  else
    let x := s.lane l
    let n := s.rfld (xcvPage (l / 16)) (laneOff l 0x100) 16 12
    let n := if n = 0 then 4096 else n
    let last := decide (n ≤ x.cnt + 1)
    let y := { x with cnt := if last then 0 else x.cnt + 1 }
    if Config.xcvDepth ≤ x.rx.length then (s.setLane l y).bump (xcvPage (l / 16)) (laneOff l 0x110)
    else s.setLane l { y with rx := x.rx ++ [mkWord (if last then 0x20#6 else 0#6) w] }

/-- A word reaches a RAW lane's GS sink: DATA and DATA-CTX are transmitted (R440). -/
def State.rawTx (s : State) (l : Nat) (w : SWord) : State :=
  if SWord.kind w = 0#2 ∨ SWord.kind w = 1#2 then s.setLane l { s.lane l with tx := SWord.data w } else s

/-! MACs (R440, R444). -/

def ethOff (m off : Nat) : Nat := off + 0x40 * m
def State.mac (s : State) (m : Nat) : Mac := tget (fun _ => Mac.reset) s.outer.macs m
def State.setMac (s : State) (m : Nat) (x : Mac) : State :=
  s.setOuter { s.outer with macs := tset (fun _ => Mac.reset) s.outer.macs m x }

/-- A MAC works: enabled, released, and its lane in an Ethernet mode. -/
def State.macOn (s : State) (m : Nat) : Bool :=
  s.released1 ethPage && s.rbit ethPage (ethOff m 0x100) 0 && (laneMode s (16 + m) == 2 || laneMode s (16 + m) == 3)

/-- `ETH.TS_CORR`, signed 16 bits at `lo`. -/
def State.tsCorr (s : State) (m lo : Nat) : Int := (BitVec.ofNat 16 (s.rfld ethPage (ethOff m 0x118) lo 16)).toInt
/-- A timestamp corrected (R444). -/
def State.ethStamp (s : State) (m lo : Nat) : DWord := BitVec.ofInt 64 ((s.tbNs : Int) + s.tsCorr m lo)

/-- MAXLEN. -/
def State.maxLen (s : State) (m : Nat) : Nat := s.rfld ethPage (ethOff m 0x100) 16 14

/-- The stream words of a frame: byte 4i + j in bits 8j of word i; ARG of the END word holds its valid bytes minus 1. -/
def frameWords (l : List Byte) : List SWord :=
  let n := (l.length + 3) / 4
  (List.range n).map fun i =>
    let d := bytesWord ((l.drop (4 * i)).take 4)
    if i + 1 = n then mkWord (0x20#6 ||| BitVec.ofNat 6 ((l.length - 1) % 4)) d else mkWord 0 d

/-- The bytes of a packet of stream words. -/
def wordsFrame (ws : List SWord) : List Byte :=
  match ws.getLast? with
  | none => []
  | some e => (ws.flatMap fun w => wordBytes (SWord.data w)).take (4 * (ws.length - 1) + (SWord.arg e).toNat % 4 + 1)

/-- The address filter (R444): own address, broadcast, multicast by enable. (DEDUCED, log entry 88.) -/
def State.macAdmits (s : State) (m : Nat) (l : List Byte) : Bool :=
  let dest := l.take 6
  let own := wordBytes (s.reg ethPage (ethOff m 0x104)) ++ (wordBytes (s.reg ethPage (ethOff m 0x108))).take 2
  if dest = List.replicate 6 0xFF#8 then s.rbit ethPage (ethOff m 0x100) 4
  else if (dest.getD 0 0).getLsbD 0 then s.rbit ethPage (ethOff m 0x100) 5
  else dest == own

/-- PAUSE: MAC control, opcode 1. -/
def isPause (l : List Byte) : Bool := (l.drop 12).take 4 == [0x88, 0x08, 0x00, 0x01]

/-- A frame without its FCS, and whether the FCS was right (R440, R444). (DEDUCED, log entry 88.) -/
def State.macRx (s : State) (m : Nat) (l : List Byte) (fcsOk : Bool) : State :=
  let drop := s.bump ethPage (ethOff m 0x124)
  if !s.macOn m then s
  else if !fcsOk then s.bump ethPage (ethOff m 0x120)
  else if l.length + 4 < 64 ∨ 9216 < l.length + 4 ∨ s.maxLen m < l.length + 4 ∨ isPause l then drop
  else if !s.macAdmits m l then s
  else
    let t := s.ethStamp m 0
    let ts := if s.rbit ethPage (ethOff m 0x100) 3 then
        [mkWord 0x04#6 (t.extractLsb' 0 32), mkWord 0x04#6 (t.extractLsb' 32 32)] else []
    let ws := ts ++ frameWords l
    let x := s.mac m
    if 4096 < x.rx.length + ws.length then drop
    else (s.setMac m { x with rx := x.rx ++ ws }).bump ethPage (ethOff m 0x11C)

/-- A word reaches a MAC's GS sink (R440). Words other than DATA, DATA-CTX and POISON are no part of a frame.
(DEDUCED, log entry 88.) -/
def State.macTx (s : State) (m : Nat) (w : SWord) : State :=
  if !s.macOn m ∨ SWord.isIdle w then s
  else
    let x := s.mac m
    let held := (x.tx.map List.length).sum
    let bad := x.bad || SWord.isPoison w || decide (4096 ≤ held + x.cur.length)
    let cur := if bad then [] else if SWord.kind w = 0#2 ∨ SWord.kind w = 1#2 then x.cur ++ [w] else x.cur
    if !SWord.isEnd w then s.setMac m { x with cur := cur, bad := bad }
    else if bad ∨ min 9216 (s.maxLen m) < (wordsFrame cur).length + 4 then
      (s.setMac m { x with cur := [], bad := false }).bump ethPage (ethOff m 0x12C)
    else s.setMac m { x with cur := [], bad := false, tx := x.tx ++ [cur] }

/-- A whole frame leaves with its FCS, padded to the minimum (R440). -/
def State.frameTx (s : State) (m : Nat) : State :=
  let x := s.mac m
  match x.tx with
  | [] => s
  | ws :: rest =>
    if !s.macOn m then s
    else
      let l := wordsFrame ws
      let l := l ++ List.replicate (60 - l.length) 0#8
      let s := (s.setMac m { x with tx := rest }).bump ethPage (ethOff m 0x128)
      let s := s.setOuter { s.outer with ethOut := tset (fun _ => []) s.outer.ethOut m (l ++ wordBytes (crc32 l)) }
      if ((SWord.arg (ws.headD 0)).getLsbD 2) then
        let t := s.ethStamp m 16
        (s.setReg ethPage (ethOff m 0x110) (t.extractLsb' 0 32)).setReg ethPage (ethOff m 0x114) (t.extractLsb' 32 32)
      else s

/-! PCIe (R441, R442). -/

def State.pcieLink (s : State) : Bool := s.rbit pciePage 0x44 0

/-- Lanes of a width code: 2 x4, 3 x8, 4 x16. (DEDUCED, log entry 89.) -/
def widthLanes (w : Nat) : Nat := if w = 2 then 4 else if w = 3 then 8 else if w = 4 then 16 else 0

/-- The PCIe controller lets its lanes go. -/
def State.pcieLetGo (s : State) : State :=
  let s := (List.range s.outer.pcieLanes).foldl (fun s l => if laneOwner s l = 3 then s.setLaneOwner l 0 else s) s
  s.setOuter { s.outer with pcieLanes := 0 }

/-- The link trains at a rate and a width (R439, R441): it claims lanes 0 upwards, as wide as unclaimed lanes allow.
(DEDUCED, log entry 89.) -/
def State.pcieUp (s : State) (gen width : Nat) : State :=
  if !s.released1 pciePage ∨ !s.rbit pciePage 0x40 0 ∨ s.pcieLink ∨ min gen (s.rfld pciePage 0x40 1 3) = 0 then s
  else
    let gen := min gen (s.rfld pciePage 0x40 1 3)
    let width := min width (s.rfld pciePage 0x40 4 3)
    let taken := (List.range (widthLanes width)).find? fun l => laneOwner s l == 1
    let s := match taken with
      | some l => (s.conflict pciePage).laneRefused l 1
      | none => s
    let free := taken.getD 16
    match [4, 3, 2].find? fun w => decide (w ≤ width ∧ widthLanes w ≤ free) with
    | none => s
    | some w =>
      let s := (List.range (widthLanes w)).foldl (fun s l => s.setLaneOwner l 3) s
      let s := if taken.isNone then s.setBit pciePage 0x0C 6 false else s
      let s := s.setOuter { s.outer with pcieLanes := widthLanes w }
      (s.setReg pciePage 0x44 (BitVec.ofNat 32 (1 + gen * 2 + w * 16))).raise pciePage 1
        (BitVec.ofNat 32 (0x02000000 + gen * 2 ^ 16 + w)) 0

/-- The link goes down (R447): a stream over BAR2 fails with SOURCE. -/
def State.pcieDown (s : State) : State :=
  if !s.pcieLink then s
  else
    let s := (s.pcieLetGo.setReg pciePage 0x44 0).raise pciePage 1 0x02000000#32 0
    if s.cfgBusy ∧ s.loadSource = 1 ∧ s.phase ≤ 3 then s.loadFail 0x17 0 2 0 else s

/-- A write to BAR2 (R442): its bytes are the next of the stream. -/
def State.bar2Write (s : State) (bs : List Byte) : State :=
  if s.pcieLink ∧ s.loadSource = 1 then s.streamBytes bs else s

/-- A MESSAGE for MSI-X (R442). A vector raised while the link is down waits in the PBA. (DEDUCED, log entry 89.) -/
def State.msixMessage (s : State) (msg : Nat) (masked : Bool) : State :=
  let k := msg % 2048
  if masked ∨ !s.pcieLink then s.setOuter { s.outer with pba := tset (fun _ => false) s.outer.pba k true }
  else s.setOuter { s.outer with msi := some k }

/-! Host DMA (R443). -/

def hdmaOff (c off : Nat) : Nat := off + 0x20 * c
def State.hdmaBusy (s : State) (c : Nat) : Bool := s.rbit pciePage (hdmaOff c 0x118) 31
def State.hdmaPkg (s : State) (c : Nat) : Nat :=
  (s.reg pciePage (hdmaOff c 0x108)).toNat + s.rfld pciePage (hdmaOff c 0x10C) 0 16 * 2 ^ 32
def State.hdmaHost (s : State) (c : Nat) : Nat :=
  (s.reg pciePage (hdmaOff c 0x100)).toNat + (s.reg pciePage (hdmaOff c 0x104)).toNat * 2 ^ 32
def State.hdmaLen (s : State) (c : Nat) : Nat := (s.reg pciePage (hdmaOff c 0x110)).toNat
def State.hdmaDone (s : State) (c : Nat) : Nat := tget (fun _ => 0) s.outer.hdma c

/-- A channel ends: STATUS 0 OK, 1 ERROR at a byte offset. -/
def State.hdmaEnd (s : State) (c status off : Nat) : State :=
  let s := s.setOuter { s.outer with hdma := tset (fun _ => 0) s.outer.hdma c 0 }
  ((s.setReg pciePage (hdmaOff c 0x118) (BitVec.ofNat 32 status)).setReg pciePage (hdmaOff c 0x11C)
    (BitVec.ofNat 32 off)).raise pciePage 0 (BitVec.ofNat 32 (0x01000000 + c * 2 ^ 16 + status)) 0

/-- BE port of the PCIe block's own transfers. (DEDUCED, log entry 89.) -/
def hdmaPort : Nat := 0x30

/-- Bytes of a package range read in transfers as R255 cuts them: those read, and whether all were. -/
def State.hdmaRead (s : State) (a n : Nat) : Nat → List Byte → State × List Byte × Bool
  | 0, l => (s, l, true)
  | fuel + 1, l =>
    if n ≤ l.length then (s, l, true)
    else
      let at_ := a + l.length
      let r := s.fetch 0x54 hdmaPort at_ (min (n - l.length) (min 2048 (0x1000 - at_ % 0x1000)))
      if r.2.1 = stOK then r.1.hdmaRead a n fuel (l ++ r.2.2) else (r.1, l, false)

/-- Bytes stored likewise: how many were, and whether all. -/
def State.hdmaStore (s : State) (a : Nat) (bs : List Byte) : Nat → Nat → State × Nat × Bool
  | 0, n => (s, n, true)
  | fuel + 1, n =>
    if bs.length ≤ n then (s, n, true)
    else
      let m := min (bs.length - n) (min 2048 (0x1000 - (a + n) % 0x1000))
      let r := s.store 0x54 hdmaPort (a + n) ((bs.drop n).take m) false
      if r.2 = stOK then r.1.hdmaStore a bs fuel (n + m) else (r.1, n, false)

/-- GO: a copy to the host is made at once, a copy from the host waits for completions.
(DESIGN CHOICE, log entry 10; DEDUCED, log entry 89.) -/
def State.hdmaGo (s : State) (c : Nat) : State :=
  if s.hdmaBusy c ∨ !s.released1 pciePage then s
  else
    let n := s.hdmaLen c
    let s := (s.setReg pciePage (hdmaOff c 0x118) 0x80000000#32).setReg pciePage (hdmaOff c 0x11C) 0
    let s := s.setOuter { s.outer with hdma := tset (fun _ => 0) s.outer.hdma c 0 }
    if n = 0 ∨ 0x1000000 < n ∨ n % 4 ≠ 0 then s.hdmaEnd c 1 0
    else if s.rbit pciePage (hdmaOff c 0x114) 1 ∧ s.pcieLink then
      let r := s.hdmaRead (s.hdmaPkg c) n (n / 1024 + 4) []
      let s := r.1.setOuter { r.1.outer with hostOut := some (s.hdmaHost c, r.2.1) }
      if r.2.2 then s.hdmaEnd c 0 0 else s.hdmaEnd c 1 r.2.1.length
    else s

/-- A host completion brings bytes. -/
def State.hdmaCompletion (s : State) (c : Nat) (bs : List Byte) : State :=
  if !s.hdmaBusy c ∨ s.rbit pciePage (hdmaOff c 0x114) 1 then s
  else
    let off := s.hdmaDone c
    let bs := bs.take (s.hdmaLen c - off)
    let x := s.hdmaStore (s.hdmaPkg c + off) bs (bs.length / 1024 + 4) 0
    if !x.2.2 then x.1.hdmaEnd c 1 (off + x.2.1)
    else if s.hdmaLen c ≤ off + bs.length then x.1.hdmaEnd c 0 0
    else x.1.setOuter { x.1.outer with hdma := tset (fun _ => 0) x.1.outer.hdma c (off + bs.length) }

/-- A completion never comes, or comes with a bad status. -/
def State.hdmaFail (s : State) (c : Nat) (timeout : Bool) : State :=
  if s.hdmaBusy c then (if timeout then s.bump pciePage 0x58 else s).hdmaEnd c 1 (s.hdmaDone c) else s

/-! Serial controllers (R446, R450): numbers 0 to 3 UART, 4 to 9 SPI, 10 to 13 IIC. -/

def serPage (k : Nat) : Page := if k < 4 then uartPage else if k < 10 then spiPage else iicPage
def serInst (k : Nat) : Nat := if k < 4 then k else if k < 10 then k - 4 else k - 10
def serOff (k off : Nat) : Nat := 0x100 + 0x40 * serInst k + off
/-- See the log (DEDUCED, log entry 87). -/
def serDepth (k : Nat) : Nat := if k < 4 then 64 else if k < 8 then 256 else if k < 10 then 4096 else 32
def State.serial (s : State) (k : Nat) : Serial := tget (fun _ => Serial.reset) s.outer.serials k
def State.setSerial (s : State) (k : Nat) (x : Serial) : State :=
  s.setOuter { s.outer with serials := tset (fun _ => Serial.reset) s.outer.serials k x }
def State.serOn (s : State) (k : Nat) : Bool := s.released1 (serPage k) && s.rbit (serPage k) (serOff k 0) 0

/-- Events `SER_OVERRUN` 0 and `SER_FAULT` 1. -/
def State.serEvent (s : State) (k e low : Nat) : State :=
  s.raise (serPage k) e (BitVec.ofNat 32 ((e + 1) * 2 ^ 24 + serInst k * 2 ^ 16 + low % 2 ^ 16)) 0

/-- The DATA register: a write appends to the TX FIFO, a full FIFO keeps what it holds. (DEDUCED, log entry 87.) -/
def State.serPut (s : State) (k : Nat) (b : Byte) : State :=
  let x := s.serial k
  if s.released1 (serPage k) ∧ x.tx.length < serDepth k then s.setSerial k { x with tx := x.tx ++ [b] } else s

/-- A read of DATA pops the RX FIFO, 0 where it is empty; under QUIET nothing is popped. -/
def State.serPop (s : State) (k : Nat) (quiet : Bool) : State × Word :=
  match (s.serial k).rx with
  | [] => (s, 0)
  | b :: rest => (if quiet then s else s.setSerial k { s.serial k with rx := rest }, b.setWidth 32)

/-- A byte arrives (R446). -/
def State.serRx (s : State) (k : Nat) (b : Byte) (frameErr : Bool) : State :=
  if !s.serOn k then s
  else
    let x := s.serial k
    let s := if k < 4 ∧ frameErr then s.setBit uartPage (serOff k 0x0C) 17 true else s
    if x.rx.length < serDepth k then s.setSerial k { x with rx := x.rx ++ [b] }
    else (if k < 4 then s.setBit uartPage (serOff k 0x0C) 16 true else s).serEvent k 0 0

/-- A UART sends the oldest byte of its TX FIFO. -/
def State.uartSend (s : State) (k : Nat) : State :=
  let x := s.serial k
  if s.serOn k then s.setSerial k { x with tx := x.tx.drop 1 } else s

/-- A write to `SPI.XFER` (R450); ports 4 and 5 answer after BOOTED (R445). (DEDUCED, log entry 87.) -/
def State.spiXfer (s : State) (i : Nat) (w : Word) : State :=
  let k := 4 + i
  let o := serOff k 4
  if !s.released1 spiPage ∨ s.rbit spiPage o 30 then s
  else
    let s := s.setReg spiPage o (w &&& 0x1FFF#32)
    if bit w 31 ∧ s.serOn k ∧ (i < 4 ∨ s.booted) then s.setBit spiPage o 30 true else s

/-- A write to `IIC.CMD`; `lost`: arbitration is lost as the transaction starts. (DEDUCED, log entry 87.) -/
def State.iicCmd (s : State) (i : Nat) (w : Word) (lost : Bool) : State :=
  let k := 10 + i
  if !s.released1 iicPage ∨ s.rbit iicPage (serOff k 0x0C) 0 then s
  else
    let s := s.setReg iicPage (serOff k 4) (w &&& 0x201FF7FF#32)
    if bit w 31 ∧ s.serOn k then
      (if lost then (s.setReg iicPage (serOff k 0x0C) 4).serEvent k 1 4 else s.setReg iicPage (serOff k 0x0C) 1)
    else s

/-- A transfer ends: its bytes have left the TX FIFO. -/
def State.serDone (s : State) (k : Nat) (nack lost : Bool) : State :=
  let x := s.serial k
  if 4 ≤ k ∧ k < 10 then
    (if s.rbit spiPage (serOff k 4) 30 then
      (s.setSerial k { x with tx := x.tx.drop (s.rfld spiPage (serOff k 4) 0 13) }).setBit spiPage (serOff k 4) 30 false
    else s)
  else if 10 ≤ k ∧ s.rbit iicPage (serOff k 0x0C) 0 then
    let n := if s.rbit iicPage (serOff k 4) 10 ∨ lost then 0 else s.rfld iicPage (serOff k 4) 12 9
    let st := b2n nack * 2 + b2n lost * 4
    let s := (s.setSerial k { x with tx := x.tx.drop n }).setReg iicPage (serOff k 0x0C) (BitVec.ofNat 32 st)
    if lost then s.serEvent k 1 st else s
  else s

/-! The commands. -/

def execXcvRawRx (l : Fin 32) (w : Word) (s : State) : Host.Outcome State Fault Refusal := .next (s.rawRx l.val w)

def execEthFrameRx (m : Fin 8) (frame : List Byte) (fcsOk : Bool) (s : State) : Host.Outcome State Fault Refusal :=
  .next (s.macRx m.val frame fcsOk)

def execEthFrameTx (m : Fin 8) (s : State) : Host.Outcome State Fault Refusal := .next (s.frameTx m.val)

def execEthLinkChange (m : Fin 8) (lock link : Bool) (s : State) : Host.Outcome State Fault Refusal :=
  .next ((s.setReg ethPage (ethOff m.val 0x10C) (BitVec.ofNat 32 (b2n lock + 2 * b2n link))).raise ethPage 0
    (BitVec.ofNat 32 (0x01000000 + m.val * 2 ^ 16 + b2n link)) 0)

def execPcieBar2Write (bs : List Byte) (s : State) : Host.Outcome State Fault Refusal := .next (s.bar2Write bs)

def execMsixMessage (msg : BitVec 11) (masked : Bool) (s : State) : Host.Outcome State Fault Refusal :=
  .next (s.msixMessage msg.toNat masked)

/-- Width code 2 x4, 3 x8, 4 x16. -/
def execPcieLinkChange (up : Bool) (gen : Fin 6) (width : Fin 5) (s : State) : Host.Outcome State Fault Refusal :=
  .next (if up then s.pcieUp gen.val width.val else s.pcieDown)

def execHdmaGo (c : Fin 4) (s : State) : Host.Outcome State Fault Refusal := .next ((s.hdmaGo c.val).reply stOK [])

def execHdmaTimeout (c : Fin 4) (timeout : Bool) (s : State) : Host.Outcome State Fault Refusal :=
  .next (s.hdmaFail c.val timeout)

def execHostCompletionRx (c : Fin 4) (bs : List Byte) (s : State) : Host.Outcome State Fault Refusal :=
  .next (s.hdmaCompletion c.val bs)

def execUartDataWrite (k : Fin 4) (b : Byte) (s : State) : Host.Outcome State Fault Refusal :=
  .next ((s.serPut k.val b).reply stOK [])

def execUartDataRead (k : Fin 4) (quiet : Bool) (s : State) : Host.Outcome State Fault Refusal :=
  let x := s.serPop k.val quiet
  .next (x.1.reply stOK [x.2])

def execSerialRxByte (k : Fin 14) (b : Byte) (frameErr : Bool) (s : State) : Host.Outcome State Fault Refusal :=
  .next (s.serRx k.val b frameErr)

def execSpiGo (i : Fin 6) (n : BitVec 13) (s : State) : Host.Outcome State Fault Refusal :=
  .next ((s.spiXfer i.val (0x80000000#32 ||| n.setWidth 32)).reply stOK [])

def execIicGo (i : Fin 4) (w : Word) (lost : Bool) (s : State) : Host.Outcome State Fault Refusal :=
  .next ((s.iicCmd i.val (0x80000000#32 ||| w) lost).reply stOK [])

def execSerialTransferDone (k : Fin 14) (nack lost : Bool) (s : State) : Host.Outcome State Fault Refusal :=
  .next (s.serDone k.val nack lost)

end Sys2Proof.Machine
end

