-- ==== Sys2Proof/Machine/System.lean ====
section
/-! DEFINITION. Resets and their release (R330, R331, R335 to R337, R492), the commands of the SEC engine that reach
beyond it (R290 to R299), power failure (R420) and power domains (R342 to R344). -/

namespace Sys2Proof.Machine

/-! Reset release (R337). -/

/-- POR is released and RESET_N is high (R492). (DESIGN CHOICE, log entry 70.) -/
def State.powerGood (s : State) : Bool := !s.board.por && !s.board.resetLow

/-- Cap nodes whose blocks lie in an island that steps 1 and 2 release (R337): CFG and SEC, core 0, the core SRAM, the
power manager and the debug port. (DEDUCED, log entry 67.) -/
def firstNodes : List Nat := [0x44, 0x45, 0x47, 0x74, 0x77]

/-- The cap's PLLs have locked (step 2): its first islands run, the gates of their nodes open, the device keys are
derived, the blocks of step 1 are enabled and core 0 runs the boot ROM. (DEDUCED, log entry 67.) -/
def State.capUp (s : State) : State :=
  let s := { s with released := tset (fun _ => 0) s.released 0 3 }
  let s := firstNodes.foldl (fun s n => s.openNode n) s
  let s := (s.setBit grnPage 0x08 0 true).setBit hlthPage 0x08 0 true
  s.deriveKeys.coreStart 0 0xFFFF0000#32 true

/-- A PLL of a die locks to REF (R330). (DEDUCED, log entry 64.) -/
def State.pllLock (s : State) (d pll : Nat) : State :=
  if !s.powerGood then s
  else
    let s := (s.setBit (clkPage d) 0x40 0 true).setBit (clkPage d) 0x40 (4 + pll) true
    if d = 0 ∧ s.releasedTo 0 = 0 ∧ s.rfld (clkPage 0) 0x40 4 4 = 15 then s.capUp else s

/-- A sail's S_CTRL is released and samples its strap; a valid strap releases S_NET and the link sites (step 3).
(DESIGN CHOICE, log entry 70.) -/
def State.sailCtrlRelease (s : State) (d strap : Nat) : State :=
  if s.releasedTo 0 ≠ 3 ∨ s.releasedTo d ≠ 0 ∨ s.training.done then s
  else
    let s := { s with board := { s.board with straps := tset (fun _ => 0) s.board.straps d strap } }
    if strap = 0 ∨ 8 < strap then s
    else ({ s with released := tset (fun _ => 0) s.released d 2 } : State).setBit (rstPage 0) 0x50 (d - 1) false

/-- Step 5: the region islands of every sail that is not isolated, and forwarding. -/
def State.regionRelease (s : State) : State :=
  if !s.training.done then s
  else { s with released := (List.range 8).foldl (fun t i =>
      if tget (fun _ => 0) t (i + 1) = 2 ∧ !s.isIsolated (i + 1) then tset (fun _ => 0) t (i + 1) 3 else t) s.released }

/-- A sail PLL loses lock (R331): its islands stop, and the sail takes a SAIL reset.
(DEDUCED, log entry 53; DEDUCED, log entry 64.) -/
def State.pllUnlock (s : State) (d pll : Nat) : State :=
  let p := clkPage d
  let s := ((s.setBit p 0x40 (4 + pll) false).bump p 0x44).raise p 0 (BitVec.ofNat 32 (0x01000000 + pll * 2 ^ 16)) 0
  let s := (List.range 18).foldl (fun (s : State) i =>
    if s.rfld p (islStat i) 0 3 = 4 + pll then (s.setBit p (islStat i) 30 true).setBit p (islStat i) 31 false else s) s
  if s.isIsolated d || s.releasedTo d != 3 then s else s.sailReset d 7

/-- A SAIL reset is requested (R347). (DEDUCED, log entry 69.) -/
def State.sailRequest (s : State) (d : Nat) : State :=
  if s.isIsolated d || s.releasedTo d != 3 then s else s.sailReset d 6

/-- A sail leaves its SAIL reset (R336), after the wipe of its secure window (R249). -/
def State.sailLeave (s : State) (d : Nat) : State :=
  if s.training.done && s.rbit (rstPage 0) 0x50 (d - 1) && !s.isIsolated d && s.releasedTo d == 0
      && [0, 1].all (fun i => !(s.bank (96 * (d - 1) + i)).wiping) then s.sailRelease d
  else s

/-! Life-cycle transitions (R292 steps 5 and 6). -/

/-- Once no secure-window bank is being wiped, a transition that waits blows its fuses; where they verify, a cap reset of
the whole package follows. (DESIGN CHOICE, log entry 10; DESIGN CHOICE, log entry 47.) -/
def State.lcFinish (s : State) : State :=
  match s.sec.lcJob with
  | none => s
  | some j =>
    if secureBanks.any fun b => (s.bank b).wiping then s
    else
      let s := s.setSec { s.sec with lcJob := none }
      let clean := match j.hash with
        | some h => s.fuses.ownerHash 0 &&& ~~~h == 0
        | none => true
      let words := match j.hash with
        | some h => hashWords 0 h
        | none => []
      let x := s.fuseProgram (j.fuseOk && clean) (words ++ [(0, BitVec.ofNat 64 (2 ^ j.bit))])
      let s := x.1.cmdEnd j.op x.2
      if x.2 = srOK then s.capReset .cold 4 else s

/-- A tamper response before step 5 abandons the transition (R301). -/
def State.lcAbandon (s : State) : State :=
  match s.sec.lcJob with
  | some j => (s.setSec { s.sec with lcJob := none }).cmdEnd j.op srBadState
  | none => s

/-- A command of Table 12-5. -/
def State.secCommand (s : State) (op : Nat) (secure fuseOk : Bool) : State :=
  (s.secGo op secure fuseOk s.ranVersion).lcFinish

/-! Tamper (R295 to R297). -/

/-- Response of a sensor: 0 LOG, 1 WIPE, 2 HALT. (DEDUCED, log entry 51.) -/
def State.tamperResponse (s : State) (sensor : Nat) (under : Bool) : Nat :=
  let cfg := s.rfld secPage 0x70 (2 * sensor) 2
  if s.fuses.state = 0 ∨ 3 ≤ s.fuses.state ∨ (sensor = 0 ∧ under ∧ s.powerFail) then 0
  else if s.fuses.state = 2 ∧ sensor = 3 then max cfg 1
  else min cfg 2

/-- WIPE (Table 12-8, R301): a life-cycle transition is abandoned, and any load before activation fails with KEY_LOST (R325); `sensor` is the bit it names. -/
def State.tamperWipe (s : State) (sensor : Nat) : State :=
  let s := s.lcAbandon.zeroise.wipeSecure
  if s.cfgBusy then s.loadFail 0x16 0 sensor 0 else s

/-- HALT (Table 12-8): every pin braked, region clocks stopped, every core halted, tests abandoned.
(DEDUCED, log entry 69.) -/
def State.tamperHalt (s : State) (sensor : Nat) : State :=
  let s := ((s.tamperWipe sensor).brakePins).ownFail 0
  let s := ((s.setSec { s.sec with halt := true }).setBit (pwrPage 0) 0x44 18 true).haltAllCores.abandonTests fun _ => true
  (List.range 128).foldl (fun s r => s.setBit (clkPage (regionSail r)) (islStat (r % 16)) 30 true) s

/-- Sensors trip together: the strongest response is carried out, FIRST records the lowest bit.
(DEDUCED, log entry 51.) -/
def State.tamper (s : State) (sensors : BitVec 5) (under : Bool) : State :=
  match (List.range 5).filter fun b => sensors.getLsbD b with
  | [] => s
  | low :: rest =>
    let resp := (low :: rest).foldl (fun m b => max m (s.tamperResponse b under)) 0
    -- the lowest sensor that asks for the response
    let sensor := ((low :: rest).find? fun b => s.tamperResponse b under == resp).getD low
    let log := s.reg secPage 0x78
    let log := if fld log 0 5 = 0 then putFld log 0 5 (2 ^ low) else log
    let s := s.setReg secPage 0x78 (putFld (putFld log 8 2 resp) 16 16 (satAdd 16 (fld log 16 16) 1))
    let s := s.secEvent 0 low resp
    if resp = 0 then s else if resp = 1 then s.tamperWipe sensor else s.tamperHalt sensor

/-- The sensors now tripped; those that were not tripped before trip. (DEDUCED, log entry 51.) -/
def State.tamperTrip (s : State) (sensors : BitVec 5) (under : Bool) : State :=
  let old := BitVec.ofNat 5 (s.rfld secPage 0x74 0 5)
  (s.setFld secPage 0x74 0 5 sensors.toNat).tamper (sensors &&& ~~~old) under

/-- The DEBUG sensor trips (R295 bit 4). -/
def State.tripDebug (s : State) : State := s.tamper 0x10#5 false

/-! Debug unlock (R298). -/

/-- A failed unlock. (DEDUCED, log entry 48.) -/
def State.unlockFails (s : State) (level : Nat) (fuseOk : Bool) : State :=
  let f := s.fuses
  let s := if f.state = 2 then (s.fuseProgram fuseOk [(24, thermometer (min 64 (65 - f.unlockLeft)))]).1 else s
  let s := s.setSec { s.sec with failedAt := some s.cycle }
  (s.secEvent 4 level s.fuses.unlockLeft).tripDebug

/-- GO with a LEVEL in `SEC.UNLOCK`: only the debug master and the TAP are admitted. (DEDUCED, log entry 48.) -/
def State.debugUnlock (s : State) (level : Nat) (admitted fuseOk : Bool) : State :=
  if !admitted then s.reply stDenied []
  else
    let s := (s.setFld secPage 0x84 0 2 level).reply stOK []
    let early := match s.sec.failedAt with
      | some c => decide (s.cycle < c + 1600000000)
      | none => false
    if early || (s.fuses.state != 1 && s.fuses.state != 2) then s
    else
      let b := s.cmdBlock (s.rfld secPage 0x88 0 20)
      let bad := (s.cmdRefusal (0x100 + level) [1, 2] true false b).isSome || level == 0 || level == 3 || s.fuses.unlockLeft == 0
      let s := s.nonceDrop
      if bad then s.unlockFails level fuseOk
      else (s.setFld secPage 0x40 12 2 level).secEvent 5 level 0

/-! Power failure (R420). -/

def State.powerFails (s : State) (vhold : BitVec 8) : State :=
  let s := (s.grnPowerFail vhold).ownFail 0
  if s.cfgBusy then s.loadFail 0x19 0 2 0 else s

/-! Power domains (R342 to R344). -/

def prGsReserved : Nat := 1
def prBusy : Nat := 2
def prUnderTest : Nat := 3
def prSecure : Nat := 4
def prInvalid : Nat := 5
def prIsolated : Nat := 6

/-- A request is refused (Tables 14-12, 14-14). -/
def State.domRefuse (s : State) (res index : Nat) : State :=
  (s.setFld (pwrPage 0) 0x54 0 4 res).raise (pwrPage 0) 3 (BitVec.ofNat 32 (0x04000000 + res * 2 ^ 16 + index)) 0

/-- The request names a domain of Table 14-13. -/
def domExists (die kind index : Nat) : Bool :=
  match kind with
  | 0 => decide (1 ≤ die ∧ die ≤ 8 ∧ index < 16)
  | 1 => decide (1 ≤ die ∧ die ≤ 8 ∧ index < 96)
  | 2 => decide (die = 0 ∧ 1 ≤ index ∧ index ≤ 3)
  | 3 | 4 => decide (die = 0)
  | _ => false

/-- Bit of `Power.off` of a cap domain: 1 to 3 cores, 4 DMA, 5 TRC. -/
def offBit (kind index : Nat) : Nat := if kind = 2 then index else kind + 1

/-- A router's schedule ejects GS flits to a receive port of its region, in the active bank or in an armed standby bank
(R343 step 1); EJ from 0x10 on names a group of the home node (R150). -/
def State.gsReserved (s : State) (n : Nat) : Bool :=
  s.cogTab.any fun e =>
    e.1 / 2048 == n && (e.1 / 1024 % 2 == s.cogActive n || s.cogArmed n) && decide (1 ≤ entrySel e.2 4 ∧ entrySel e.2 4 ≤ 5 ∧ entryEj e.2 < 16)

/-- The unit of a domain is under test. -/
def State.domTested (s : State) (die kind index : Nat) : Bool :=
  match kind with
  | 0 => s.underTest (rgnPage (16 * (die - 1) + index))
  | 2 => s.underTest (glcPage index)
  | 3 => s.underTest dmaPage
  | 4 => s.underTest ⟨.trc, 0⟩
  | _ => false

/-- A request for a domain: OP 0 WAKE, 1 SLEEP, 2 RETAIN; the first two are BUSY while another runs (R344). Bank requests go to `BANK.PWR.REQ`.
(DEDUCED, log entry 68.) -/
def State.domGo (s : State) (op die kind index : Nat) (force : Bool) : State :=
  let r := 16 * (die - 1) + index
  let b := 96 * (die - 1) + index
  if op ≤ 1 ∧ s.rbit (pwrPage 0) 0x54 31 then s.domRefuse prBusy index
  else if 3 ≤ op ∨ !domExists die kind index ∨ (op = 2 ∧ kind ≠ 1) then s.domRefuse prInvalid index
  else if s.isIsolated die then s.domRefuse prIsolated index
  else if kind = 1 then
    let x := s.bankPwrReq b (if op = 0 then 0 else if op = 1 then 2 else 1)
    if x.2 = stOK then x.1.setFld (pwrPage 0) 0x54 0 4 0 else s.domRefuse prSecure index
  else if kind = 0 ∧ s.rgnState r = stUnusable then s.domRefuse prInvalid index
  else if op = 1 ∧ kind = 0 ∧ !force ∧ s.gsReserved (regionNode r) then s.domRefuse prGsReserved index
  else if op = 1 ∧ kind = 0 ∧ (s.rgnState r = stLoading ∨ s.staged.getLsbD r ∨ s.loaderHolds r) then s.domRefuse prBusy index
  else if op = 1 ∧ s.domTested die kind index then s.domRefuse prUnderTest index
  else
    let s := (s.setBit (pwrPage 0) 0x54 31 true).setFld (pwrPage 0) 0x54 0 4 0
    let s := { s with power := { s.power with req := some { op := op, die := die, kind := kind, index := index, asleep := false } } }
    if op = 1 ∧ kind = 0 ∧ s.rgnState r ≠ stOff then s.writeClose (regionNode r) true
    else if op = 1 ∧ kind = 3 ∧ s.gate 0x76 = gateOpen then s.setGate 0x76 gateClosing else s

/-- Admitted packets still in progress at L are cut off, and the gate goes ASLEEP (R343 steps 3 and 4). -/
def State.gateToSleep (s : State) (n : Nat) : State :=
  let s := if s.gate n = gateClosing then s.forceClose n else s
  s.gateSleep n

/-- The drain of a SLEEP ends: its gate goes ASLEEP and a region leaves ACTIVE. (DEDUCED, log entry 68.) -/
def State.sleepDrained (s : State) : State :=
  match s.power.req with
  | some q =>
    if q.op ≠ 1 ∨ q.asleep then s
    else
      let r := 16 * (q.die - 1) + q.index
      let s := { s with power := { s.power with req := some { q with asleep := true } } }
      if q.kind = 0 then
        let s := s.gateToSleep (regionNode r)
        if s.rgnState r = stOff then s else s.clearRegion r
      else if q.kind = 3 then s.gateToSleep 0x76
      else if q.kind = 2 ∧ s.coreRun q.index = 1 then s.setRun q.index 0
      else s
  | none => s

/-- Registers of a page from 0x040 upwards return to their reset values. -/
def State.resetPage (s : State) (p : Page) : State :=
  s.resetRegs fun c i o => c == blkCode p.blk && i == p.inst && decide (0x40 ≤ o)

/-- The trace buffer is emptied and released (R473). -/
def State.trcRelease (s : State) : State := (s.setReg ⟨.trc, 0⟩ 0x34 0).setReg ⟨.trc, 0⟩ 0x40 0

/-- A cap domain loses what it held, or its block comes up reset (R344). -/
def State.domReset (s : State) (kind index : Nat) : State :=
  match kind with
  | 2 => (((s.setCore index Core.reset).setResv index none).resetPage (glcPage index)).resetPage (tskPage index)
  | 3 => ({ s with dmas := [] } : State).resetPage dmaPage
  | _ => ({ s with trace := [] } : State).trcRelease.resetPage ⟨.trc, 0⟩

/-- Power is removed or restored (R343 step 5, R344). (DEDUCED, log entry 68.) -/
def State.pwrDone (s : State) : State :=
  match s.power.req with
  | none => s
  | some q =>
    if q.op = 1 ∧ !q.asleep then s
    else
      let r := 16 * (q.die - 1) + q.index
      let s := if q.kind = 0 then
          (if s.rgnState r = stUnusable then s else if q.op = 1 then s.setFld (rgnPage r) 0x40 0 3 stOff
           else if s.rgnState r = stOff then (s.setFld (rgnPage r) 0x40 0 3 stCleared).gateWake (regionNode r) else s)
        else
          let k := offBit q.kind q.index
          if q.op = 1 ∨ s.power.off.getLsbD k then
            let s := s.domReset q.kind q.index
            let s := if q.op = 1 ∨ q.kind ≠ 3 then s else s.gateWake 0x76
            let m := BitVec.ofNat 6 (2 ^ k)
            { s with power := { s.power with off := if q.op = 1 then s.power.off ||| m else s.power.off &&& ~~~m } }
          else s
      let s := { s with power := { s.power with req := none } }
      (s.setBit (pwrPage 0) 0x54 31 false).raise (pwrPage 0) 2
        (BitVec.ofNat 32 (0x03000000 + (q.die * 16 + q.kind) * 2 ^ 16 + q.index * 4 + q.op)) 0

/-- A write to `PWR.DOM_REQ` (Table 14-13). -/
def State.domWrite (s : State) (w : Word) : State :=
  let s := s.setReg (pwrPage 0) 0x50 (w &&& 0x7F00F07F#32)
  if bit w 31 then s.domGo (fld w 28 2) (fld w 24 4) (fld w 12 4) (fld w 0 7) (bit w 30) else s

/-- A GO request as a register word. -/
def domWord (op die kind index : Nat) (force : Bool) : Word :=
  BitVec.ofNat 32 (2 ^ 31 + b2n force * 2 ^ 30 + op % 4 * 2 ^ 28 + die % 16 * 2 ^ 24 + kind % 16 * 2 ^ 12 + index % 128)

/-! The commands. -/

/-- A supply falls below its threshold (R492): power-on reset of all dies. -/
def execPorAssert (s : State) : Host.Outcome State Fault Refusal :=
  let s := s.capReset .por 0
  .next { s with board := { s.board with por := true } }

/-- The boot's origin (R492), where POR is released and RESET_N high. (DEDUCED, log entry 59.) -/
def State.bootOrigin (s : State) : State :=
  if s.powerGood then s.setLoader { s.loader with bootAt := s.cycle } else s

/-- POR is released; straps and BRKSEL are sampled. (DESIGN CHOICE, log entry 98.) -/
def execPorRelease (bootMode : BitVec 2) (twinId : Bool) (brksel : BitVec 9) (s : State) :
    Host.Outcome State Fault Refusal :=
  .next (if s.board.por then
      ({ s with board := { s.board with por := false, bootMode := bootMode.toNat, twinId := twinId, brksel := brksel } } :
        State).bootOrigin
    else s)

def execResetNLow (s : State) : Host.Outcome State Fault Refusal :=
  let s := if s.board.por then s else s.capReset .cold 1
  .next { s with board := { s.board with resetLow := true } }

def execResetNRelease (s : State) : Host.Outcome State Fault Refusal :=
  .next ({ s with board := { s.board with resetLow := false } } : State).bootOrigin

def execRstWarm (s : State) : Host.Outcome State Fault Refusal := .next ((s.capReset .warm 3).reply stOK [])
def execRstCold (s : State) : Host.Outcome State Fault Refusal := .next ((s.capReset .cold 2).reply stOK [])

def execRstSail (sail : Fin 8) (s : State) : Host.Outcome State Fault Refusal :=
  .next ((s.sailRequest (sail.val + 1)).reply stOK [])

def execSailResetRelease (sail : Fin 8) (s : State) : Host.Outcome State Fault Refusal := .next (s.sailLeave (sail.val + 1))

def execPllLock (d : Fin 9) (pll : Fin 4) (s : State) : Host.Outcome State Fault Refusal := .next (s.pllLock d.val pll.val)

def execSailCtrlRelease (sail : Fin 8) (strap : Fin 16) (s : State) : Host.Outcome State Fault Refusal :=
  .next (s.sailCtrlRelease (sail.val + 1) strap.val)

def execRegionIslandRelease (s : State) : Host.Outcome State Fault Refusal := .next s.regionRelease

def execPllUnlock (sail : Fin 8) (pll : Fin 4) (s : State) : Host.Outcome State Fault Refusal :=
  .next (s.pllUnlock (sail.val + 1) pll.val)

def execSecTakeOwnership (secure fuseOk : Bool) (s : State) : Host.Outcome State Fault Refusal :=
  .next (s.secCommand 0x01 secure fuseOk)
def execSecAddOwnerKey (secure fuseOk : Bool) (s : State) : Host.Outcome State Fault Refusal :=
  .next (s.secCommand 0x02 secure fuseOk)
def execSecRevokeOwnerKey (secure fuseOk : Bool) (s : State) : Host.Outcome State Fault Refusal :=
  .next (s.secCommand 0x03 secure fuseOk)
def execSecToField (secure fuseOk : Bool) (s : State) : Host.Outcome State Fault Refusal :=
  .next (s.secCommand 0x04 secure fuseOk)
def execSecToReturn (secure fuseOk : Bool) (s : State) : Host.Outcome State Fault Refusal :=
  .next (s.secCommand 0x05 secure fuseOk)
def execSecToVoid (secure fuseOk : Bool) (s : State) : Host.Outcome State Fault Refusal :=
  .next (s.secCommand 0x06 secure fuseOk)
def execSecAdvanceRollback (secure fuseOk : Bool) (s : State) : Host.Outcome State Fault Refusal :=
  .next (s.secCommand 0x07 secure fuseOk)
def execSecInstallKey (secure : Bool) (s : State) : Host.Outcome State Fault Refusal :=
  .next (s.secCommand 0x08 secure true)
def execSecDeleteKey (secure : Bool) (s : State) : Host.Outcome State Fault Refusal :=
  .next (s.secCommand 0x09 secure true)
def execSecGetDik (secure : Bool) (s : State) : Host.Outcome State Fault Refusal :=
  .next (s.secCommand 0x0A secure true)

/-- `sensors` are those tripped now; `under`: VOLT has tripped for an undervoltage. -/
def execTamperTrip (sensors : BitVec 5) (under : Bool) (s : State) : Host.Outcome State Fault Refusal :=
  .next (s.tamperTrip sensors under)

def execDebugUnlock (level : BitVec 2) (admitted fuseOk : Bool) (s : State) : Host.Outcome State Fault Refusal :=
  .next (s.debugUnlock level.toNat admitted fuseOk)

/-- See the log (DESIGN CHOICE, log entry 98). -/
def execPowerfail (vhold : BitVec 8) (s : State) : Host.Outcome State Fault Refusal := .next (s.powerFails vhold)

def execPwrWake (die : Fin 9) (kind : Fin 5) (index : BitVec 7) (s : State) : Host.Outcome State Fault Refusal :=
  .next ((s.domWrite (domWord 0 die.val kind.val index.toNat false)).reply stOK [])

def execPwrSleep (die : Fin 9) (kind : Fin 5) (index : BitVec 7) (force : Bool) (s : State) :
    Host.Outcome State Fault Refusal :=
  .next ((s.domWrite (domWord 1 die.val kind.val index.toNat force)).reply stOK [])

def execPwrRetain (die : Fin 9) (kind : Fin 5) (index : BitVec 7) (s : State) : Host.Outcome State Fault Refusal :=
  .next ((s.domWrite (domWord 2 die.val kind.val index.toNat false)).reply stOK [])

/-- A reserved OP, or a KIND above 4. -/
def execPwrInvalid (op : BitVec 2) (die kind : BitVec 4) (index : BitVec 7) (s : State) : Host.Outcome State Fault Refusal :=
  .next (if op = 3 ∨ 5 ≤ kind.toNat then (s.domWrite (domWord op.toNat die.toNat kind.toNat index.toNat false)).reply stOK []
    else s)

def execSleepDrainEnd (s : State) : Host.Outcome State Fault Refusal := .next s.sleepDrained

def execPwrDone (s : State) : Host.Outcome State Fault Refusal := .next s.pwrDone

end Sys2Proof.Machine
end

