-- ==== Sys2Proof/Machine/Debug.lean ====
section
/-! DEFINITION. The TAP, the debug domain, run control of the cores and the trace buffer (R461 to R477). The debug
master's accesses stand in Bus.lean. -/

namespace Sys2Proof.Machine

def trcPage : Page := ⟨.trc, 0⟩
def State.setDebug (s : State) (x : Debug) : State := { s with dbg := x }

/-- Events of the DBG page (Table 19-13). -/
def State.dbgEvent (s : State) (e mid low : Nat) : State :=
  s.raise dbgPage e (BitVec.ofNat 32 ((e + 1) * 2 ^ 24 + mid % 256 * 2 ^ 16 + low % 2 ^ 16)) 0

/-! The TAP (R461 to R465). -/

/-- The instruction in a die's TAP; IDCODE after its reset. -/
def State.tapIr (s : State) (d : Nat) : Nat := tget (fun _ => 0x02) s.dbg.ir d

def isScan (code : Nat) : Bool := code == 0x00 || code == 0x20 || code == 0x21

/-- BLANK, RETURN or VOID. -/
def State.lcOpen (s : State) : Bool := s.fuses.state == 0 || s.fuses.state == 3 || s.fuses.state == 4
def State.unlockLevel (s : State) : Nat := s.rfld secPage 0x40 12 2
/-- "Open" (R462). -/
def State.tapOpen (s : State) : Bool := s.lcOpen || s.unlockLevel == 1 || s.unlockLevel == 2
def State.scanOpen (s : State) : Bool := s.lcOpen || s.unlockLevel == 2

/-- The condition of an instruction on a die (Table 19-5). -/
def State.tapAdmits (s : State) (d code : Nat) : Bool :=
  match code with
  | 0x01 | 0x02 | 0xFF => true
  | 0x00 | 0x20 | 0x21 => s.scanOpen
  | 0x10 => d == 0 && s.tapOpen
  | 0x11 => d == 0
  | 0x30 => d == 0 && (s.fuses.state == 0 || s.fuses.state == 1)
  | _ => false

/-- The IDCODE of a die (R461): stepping A0, part, manufacturer, 1. -/
def idcode (d : Nat) : Word := 0#4 ++ (if d = 0 then 0x8160#16 else 0x8168#16) ++ 0x2B7#11 ++ 1#1

/-- The DBGACC data register as Capture-DR loads it (Table 19-6). -/
def Debug.captured (x : Debug) : BitVec 87 := BitVec.ofBool x.busy ++ x.dstatus ++ x.op ++ x.data ++ x.addr

/-- OP, address and data of an Update-DR of DBGACC (Table 19-6). -/
def dbgFields (r : BitVec 87) : BitVec 2 × BitVec 48 × Word :=
  (r.extractLsb' 80 2, r.extractLsb' 0 48, r.extractLsb' 48 32)

/-- The FUSE data register as Capture-DR loads it (R464): programming ends in its command, so BUSY reads 0. -/
def Debug.fuseCaptured (x : Debug) : BitVec 16 := BitVec.ofNat 16 (x.fuse % 16)

/-- Bank, brake value and GO of an Update-DR of FUSE (R464). -/
def fuseFields (r : BitVec 16) : BitVec 6 × BitVec 2 × Bool := (r.extractLsb' 0 6, r.extractLsb' 8 2, r.getLsbD 15)

/-- Some die has a scan instruction. -/
def State.scanActive (s : State) : Bool := (List.range 9).any fun d => isScan (s.tapIr d)

/-- Scan may run: a scan instruction is loaded and every secure window has been wiped (R299). -/
def State.scanEnabled (s : State) : Bool := s.scanActive && secureBanks.all fun b => !(s.bank b).wiping

/-- The steps before a scan instruction takes effect (R299, R463). (DESIGN CHOICE, log entry 99.) -/
def State.scanTaints (s : State) : State :=
  let s := ((s.brakePins.ownFail 0).zeroise.wipeSecure).setBit secPage 0x40 8 true
  s.secEvent 7 0 0

/-- Scan ends in a COLD reset of every die but the debug domain (R463). (DEDUCED, log entry 92.) -/
def State.scanLeave (s : State) : State := (s.setBit dbgPage 0x40 20 false).capReset .cold 2

/-- `DBG.STAT.SCAN_ACTIVE`: a scan instruction takes effect once the wipe has ended (R299). -/
def State.scanSettle (s : State) : State := s.setBit dbgPage 0x40 20 s.scanEnabled

/-- A wipe ends (R249): a life-cycle transition may go on (R292), and scan take effect (R299). -/
def execSecureWipeDone (b : Fin 768) (s : State) : Host.Outcome State Fault Refusal :=
  let s := (s.bankWiped b.val).lcFinish
  .next (if s.scanActive then s.scanSettle else s)

/-- An instruction is loaded, or BYPASS in its place. (DESIGN CHOICE, log entry 99.) -/
def State.tapLoad (s : State) (d code : Nat) : State :=
  if !s.board.vccDbg then s
  else
    let ok := s.tapAdmits d code
    let ir := if ok then code else 0xFF
    let was := s.scanActive
    let s := if ok then s else (s.dbgEvent 1 code stDenied).tripDebug
    let s := if isScan ir && !was then s.scanTaints else s
    let s := s.setDebug { s.dbg with ir := tset (fun _ => 0x02) s.dbg.ir d ir }
    if was && !s.scanActive then s.scanLeave else s.scanSettle

/-- Dies in the scan chain (R461), as the TAP's reset finds them. (DEDUCED, log entry 92.) -/
def State.chainNow (s : State) : Nat :=
  ((List.range 9).map fun d => b2n (decide (2 ≤ s.releasedTo d) && !s.isIsolated d) * 2 ^ d).sum

/-- The debug domain is reset (R465): TAP, debug master, DBG page. What its settings held halted runs on.
(PRESUMED, log entry 91; DEDUCED, log entry 92.) -/
def State.debugReset (s : State) : State :=
  let was := s.scanActive
  let s := (List.range 4).foldl (fun s c => s.resumeCore c false) s
  let s := (s.resetRegs fun c _ _ => c == 0x21).setDebug Debug.reset
  let s := s.setFld dbgPage 0x40 4 9 s.chainNow
  if was then s.scanLeave else s.allBoundaries

/-- Update-DR of FUSE with GO (R464, R286, R435): a bank's brake fuse is programmed; bits only go to 1.
(DEDUCED, log entry 52.) -/
def State.fuseUpdate (s : State) (bank value : Nat) (go fuseOk : Bool) : State :=
  if s.tapIr 0 ≠ 0x30 ∨ !go ∨ !s.board.vccDbg then s
  else
    let k := (if bank < 32 then bank / 4 + 1 else 0) * 4 + bank % 4
    let f := s.fuses
    let new := tget (fun _ => 0) f.brake k ||| (value % 4)
    let res := if 36 ≤ bank then srBadArg else if s.scanTaint then srTainted
      else if s.fuses.state ≠ 0 ∧ s.fuses.state ≠ 1 then srBadState
      else if s.powerFail then srPower
      else if fuseOk ∧ new = value % 4 then srOK else srFuseFail
    let s := if res = srOK ∨ (res = srFuseFail ∧ fuseOk) then
        s.setFuses { f with brake := tset (fun _ => 0) f.brake k new } else s
    s.setDebug { s.dbg with fuse := res }

/-! Run control (R469 to R471). The DBG page takes writes of the debug master alone (R467). -/

/-- The debug master may act: the part is open and VCC_DBG present. -/
def State.dbgActs (s : State) : Bool := s.tapOpen && s.board.vccDbg

/-- A write to `DBG.CORE_CTRL[c]` (Table 19-11). -/
def State.coreCtrl (s : State) (c : Nat) (w : Word) : State :=
  let s := s.setReg dbgPage (dbgOff c 0x100) (w &&& 0x30#32)
  let s := if bit w 0 then s.askHalt c else s
  let s := if bit w 1 then (s.resumeCore c false).boundary c else s
  if bit w 2 then s.resumeCore c true else s

/-- A write to `DBG.HALT_ALL`. -/
def State.haltAll (s : State) (w : Word) : State :=
  (List.range 4).foldl (fun s c =>
    let s := if bit w c then s.askHalt c else s
    if bit w (8 + c) then (s.resumeCore c false).boundary c else s) s

/-- ST as MTSR and `CREG_DATA` write it: Z, N, C, V (R383). -/
def State.stWrite (s : State) (c : Nat) (w : Word) : State := s.setCst c ((s.cst c &&& ~~~15#32) ||| (w &&& 15#32))

/-- LINK of the current window (R378). -/
def State.linkOf (s : State) (c : Nat) : Word :=
  let x := s.core c
  match x.curOf (x.task.getD 0) with
  | some i => (x.slot i).link
  | none => 0

def State.setLinkOf (s : State) (c : Nat) (w : Word) : State :=
  let x := s.core c
  match x.curOf (x.task.getD 0) with
  | some i => s.setCore c (x.setSlot i { x.slot i with link := w &&& ~~~3#32 })
  | none => s

/-- The register that `CREG_SEL` names (R470). -/
def State.cregRead (s : State) (c code : Nat) : Word :=
  let x := s.core c
  match code with
  | 32 => x.pc
  | 33 => s.stRead c
  | 34 => x.xpc
  | 35 => x.xst
  | 36 => s.linkOf c
  | _ => s.creg c (BitVec.ofNat 5 code)

def State.cregWrite (s : State) (c code : Nat) (w : Word) : State :=
  let x := s.core c
  match code with
  | 32 => s.setCpc c w
  | 33 => s.stWrite c w
  | 34 => s.setCore c { x with xpc := w }
  | 35 => s.setCore c { x with xst := w }
  | 36 => s.setLinkOf c w
  | _ => s.setCreg c (BitVec.ofNat 5 code) w

/-- An access through `DBG.CREG_DATA[c]`: refused while the core runs and for a reserved code. -/
def State.cregAccess (s : State) (c : Nat) (w : Option Word) : State × Nat × Word :=
  let code := s.rfld dbgPage (dbgOff c 0x108) 0 6
  if s.coreRun c = 1 ∨ s.coreRun c = 0 ∨ 36 < code then (s, stDenied, 0)
  else match w with
    | some v => if s.coreRun c = 2 then (s.cregWrite c code v, stOK, 0) else (s, stDenied, 0)
    | none => (s, stOK, s.cregRead c code)

/-! The trace buffer (R472 to R474). -/

def State.trcOwner (s : State) : Option Nat :=
  let w := s.reg trcPage 0x34
  if bit w 31 then some (w.toNat % 2 ^ 14) else none

/-- SRC_PORT and SRC_NODE as `OWNER` holds them. -/
def ownerCode (node port : Nat) : Nat := port % 64 * 256 + node % 256

/-- The trace buffer serves: enabled block, powered, not failed. -/
def State.trcServes (s : State) : Bool := s.released1 trcPage && !s.power.off.getLsbD 5 && !s.rbit (bistPage 0) 0x4C 5

/-- `TRC_REFUSED` (R473). -/
def State.trcRefused (s : State) (node port : Nat) : State × Nat :=
  ((s.conflict trcPage).raise trcPage 1 (BitVec.ofNat 32 (0x02000000 + port % 256 * 2 ^ 16 + node)) 0, stDenied)

/-- A write to `TRC.CLAIM`. -/
def State.trcClaim (s : State) (node port : Nat) (claim : Bool) : State × Nat :=
  if claim then
    match s.trcOwner with
    | some _ => s.trcRefused node port
    | none =>
      if s.trcServes then
        (((s.setReg trcPage 0x34 (BitVec.ofNat 32 (2 ^ 31 + ownerCode node port))).setReg trcPage 0x40 1).setBit trcPage
          0x0C 6 false, stOK)
      else s.trcRefused node port
  else if s.trcOwner = some (ownerCode node port) then (s.trcRelease, stOK)
  else if s.trcOwner = none then (s, stOK) else s.trcRefused node port

/-- A place of the buffer holds a record. (DEDUCED, log entry 93.) -/
def State.traceHeld (s : State) (i : Nat) : Bool := tget (fun _ => []) s.trace i != []

/-- A write to `TRC.CTRL` or `TRC.RADDR`: the owner's alone. A full buffer that is put into STOP raises TRC_FULL.
(DEDUCED, log entry 93.) -/
def State.trcOwned (s : State) (node port off : Nat) (w : Word) : State × Nat :=
  if s.trcOwner = some (ownerCode node port) then
    let stops := fun (s : State) => (s.reg trcPage 0x44).toNat == 3 && s.traceHeld (s.rfld trcPage 0x48 0 16)
    let t := s.setReg trcPage off w
    (if stops t && !stops s then t.raise trcPage 0 0x01000000#32 0 else t, stOK)
  else s.trcRefused node port

/-- A record arrives (R472): WRAP overwrites the oldest, STOP keeps what it holds. (DEDUCED, log entry 93.) -/
def State.traceIn (s : State) (rec_ : List Byte) : State :=
  let p := trcPage
  let i := s.rfld p 0x48 0 16
  let stop := s.rbit p 0x44 1
  let full := s.traceHeld i
  if !s.trcServes || !s.rbit p 0x44 0 || s.trcOwner == none || (stop && full) then s.bump p 0x70
  else
    let s := ({ s with trace := tset (fun _ => []) s.trace i (rec_.take 32) } : State).bump p 0x74
    let s := s.setFld p 0x48 0 16 ((i + 1) % 65536)
    let s := if full then s.setBit p 0x48 31 true else s
    if stop && s.traceHeld ((i + 1) % 65536) then s.raise p 0 0x01000000#32 0 else s

/-- Word w of the record at RADDR; word 7 advances RADDR but under QUIET. (DEDUCED, log entry 93.) -/
def State.trcRead (s : State) (w : Nat) (quiet : Bool) : State × Word :=
  let a := s.rfld trcPage 0x4C 0 16
  let v := bytesWord (((tget (fun _ => []) s.trace a).drop (4 * w)).take 4)
  (if w = 7 ∧ !quiet then s.setFld trcPage 0x4C 0 16 ((a + 1) % 65536) else s, v)

/-! The commands. -/

def execTapInstructionLoad (d : Fin 9) (code : BitVec 8) (s : State) : Host.Outcome State Fault Refusal :=
  .next (s.tapLoad d.val code.toNat)

def execFuseDrUpdate (bank : BitVec 6) (value : BitVec 2) (go fuseOk : Bool) (s : State) :
    Host.Outcome State Fault Refusal :=
  .next (s.fuseUpdate bank.toNat value.toNat go fuseOk)

def execTrstNAssert (s : State) : Host.Outcome State Fault Refusal := .next s.debugReset

/-- VCC_DBG is removed (R465, R501): halted cores run on, the DBG endpoint sleeps; a scan ends as R463 says. -/
def execVccDbgLoss (s : State) : Host.Outcome State Fault Refusal :=
  let was := s.scanActive
  let s := (List.range 4).foldl (fun s c => s.resumeCore c false) s
  let s := ({ s with board := { s.board with vccDbg := false } } : State).setDebug Debug.reset
  .next (if was then s.scanLeave.gateSleep 0x77 else (s.gateSleep 0x77).allBoundaries)

/-- VCC_DBG rises: the debug domain's own power-on reset. -/
def execVccDbgRise (s : State) : Host.Outcome State Fault Refusal :=
  .next (if s.board.vccDbg then s
    else (({ s with board := { s.board with vccDbg := true } } : State).gateWake 0x77).debugReset)

def execDbgHalt (c : Fin 4) (s : State) : Host.Outcome State Fault Refusal :=
  .next (if s.dbgActs then (s.coreCtrl c.val (s.reg dbgPage (dbgOff c.val 0x100) ||| 1#32)).reply stOK []
    else s.reply stDenied [])

def execDbgResume (c : Fin 4) (s : State) : Host.Outcome State Fault Refusal :=
  .next (if s.dbgActs then (s.coreCtrl c.val (s.reg dbgPage (dbgOff c.val 0x100) ||| 2#32)).reply stOK []
    else s.reply stDenied [])

def execDbgStep (c : Fin 4) (s : State) : Host.Outcome State Fault Refusal :=
  .next (if s.dbgActs then (s.coreCtrl c.val (s.reg dbgPage (dbgOff c.val 0x100) ||| 4#32)).reply stOK []
    else s.reply stDenied [])

def execDbgHaltAll (halt resume : BitVec 4) (s : State) : Host.Outcome State Fault Refusal :=
  .next (if s.dbgActs then (s.haltAll (BitVec.ofNat 32 (halt.toNat + resume.toNat * 256))).reply stOK []
    else s.reply stDenied [])

def execDbgCregAccess (c : Fin 4) (w : Option Word) (s : State) : Host.Outcome State Fault Refusal :=
  let x := s.cregAccess c.val w
  .next (if s.dbgActs then x.1.reply x.2.1 (if w.isNone && x.2.1 == stOK then [x.2.2] else []) else s.reply stDenied [])

def execTrcClaim (node : BitVec 8) (port : BitVec 6) (s : State) : Host.Outcome State Fault Refusal :=
  let x := s.trcClaim node.toNat port.toNat true
  .next (x.1.reply x.2 [])

def execTrcRelease (node : BitVec 8) (port : BitVec 6) (s : State) : Host.Outcome State Fault Refusal :=
  let x := s.trcClaim node.toNat port.toNat false
  .next (x.1.reply x.2 [])

def execTraceRecordRx (rec_ : Vector Byte 32) (s : State) : Host.Outcome State Fault Refusal :=
  .next (s.traceIn rec_.toList)

/-- See the log (DEDUCED, log entry 93). -/
def execTrcRdataRead (quiet : Bool) (s : State) : Host.Outcome State Fault Refusal :=
  let x := s.trcRead 7 quiet
  let peeked := quiet && s.traceHeld (s.rfld trcPage 0x4C 0 16)
  .next ((if peeked then x.1.setBit dbgPage 0x40 0 true else x.1).reply stOK [x.2])

end Sys2Proof.Machine
end

