-- ==== Sys2Proof/Machine/CoreTasks.lean ====
section
/-! DEFINITION. Tasks, timers, events and watchdogs of the Glaette cores as their registers and the passage of time drive
them (R400 to R409). -/

namespace Sys2Proof.Machine

/-! Tasks (R401, R402, R412). -/

/-- A write to `TSK.CTRL[t]` (Table 16-18). PRIV changes only while the task is DISABLED; ENABLE := 0 on the running task
takes effect at the next instruction boundary; FCAUSE is cleared with it. (DEDUCED, log entry 76.) -/
def State.tskCtrlWrite (s : State) (c t : Nat) (w : Word) : State :=
  let p := tskPage c
  let o := tskOff t 0x100
  let st := s.taskState c t
  let s := s.setFld p o 16 4 (fld w 16 4)
  let s := if st = 0 then s.setBit p o 8 (bit w 8) else s
  if bit w 31 then (if st = 0 then (s.setBit p o 31 true).setTaskState c t 1 else s)
  else if st = 0 then s
  else if (s.core c).task = some t then
    (((s.setFld p o 4 4 0).setTaskState c t 0).setBit p o 31 false).setWsp c t (s.wtop c t)
  else (s.setFld p o 4 4 0).taskOff c t

/-- A write to `TSK.EVPEND[t]`: each 1 sets an event. -/
def State.evpendWrite (s : State) (c t : Nat) (w : Word) : State := s.setEvents c t w

def State.setTimer (s : State) (c t : Nat) (x : Countdown) : State :=
  s.setCore c { s.core c with timers := tset (fun _ => Countdown.zero) (s.core c).timers t x }

def State.timer (s : State) (c t : Nat) : Countdown := tget (fun _ => Countdown.zero) (s.core c).timers t

/-- A write to `TSK.TIMER[t]`: 0 stops it. -/
def State.timerWrite (s : State) (c t : Nat) (w : Word) : State :=
  s.setTimer c t (if w = 0 then Countdown.zero else Countdown.start w.toNat s.cycle)

/-- A running timer reaches 0. -/
def State.timerExpire (s : State) (c t : Nat) : State :=
  if (s.timer c t).since.isSome then (s.setTimer c t Countdown.zero).setEvents c t 0x80000000#32 else s

/-- The running task's slice ends (R403). -/
def State.sliceExpire (s : State) (c : Nat) : State :=
  if s.rfld (tskPage c) 0x40 0 16 = 0 ∨ s.coreRun c ≠ 1 then s else s.giveWay c

/-- A MESSAGE to DEST_PORT 0x22 of a cores' node (R402): `second` names node 0x46. -/
def State.eventMessage (s : State) (second : Bool) (msg : Word) : State :=
  s.setEvents (2 * b2n second + fld msg 12 1) (fld msg 8 4) (BitVec.ofNat 32 (2 ^ fld msg 0 5))

/-- A write of PC, ST, WSP, WTOP or WLIM: refused unless the task is DISABLED (R412). ST keeps the bits that Table 16-3
stores, WSP is a multiple of 16. -/
def State.tskFieldWrite (s : State) (c t off : Nat) (w : Word) : State × Nat :=
  if s.taskState c t ≠ 0 then (s, stDenied)
  else
    let v := if off = 0x108 then w &&& stMask else if off = 0x10C then w &&& ~~~15#32 else w
    (s.setReg (tskPage c) (tskOff t off) v, stOK)

/-- `TSK.ST[t]` as read: the running task's ST lives in the core. -/
def State.tskStRead (s : State) (c t : Nat) : Word :=
  if (s.core c).task = some t then s.stRead c
  else s.reg (tskPage c) (tskOff t 0x108) ||| BitVec.ofNat 32 (b2n (s.taskPriv c t) * 2 ^ 6 + b2n (s.taskSecure c t) * 2 ^ 5)

/-- `TSK.PC[t]` as read. -/
def State.tskPcRead (s : State) (c t : Nat) : Word :=
  if (s.core c).task = some t then s.cpc c else s.reg (tskPage c) (tskOff t 0x104)

/-- `GLC.STAT` as read (Table 16-14). -/
def State.glcStat (s : State) (c : Nat) : Word := putFld (s.reg (glcPage c) 0x44) 12 4 (s.core c).freeCount

/-- An initiator's core, when it is a core. -/
def coreOf (node port : Nat) : Option Nat :=
  if (node = 0x45 ∨ node = 0x46) ∧ (port = 0x30 ∨ port = 0x31 ∨ port = 0x38 ∨ port = 0x39) then
    some ((node - 0x45) * 2 + port % 2)
  else none

/-- The debug master's return ports (R466). -/
def isDebug (node port : Nat) : Bool := node == 0x77 && (port == 0x3E || port == 0x3F)

/-- A write of 1 to `GLC.CTRL.CORE_RESET`: another core's or the debug master's (R400). (DEDUCED, log entry 81.) -/
def State.coreResetBy (s : State) (c node port : Nat) : State :=
  if isDebug node port || (match coreOf node port with | some o => o != c | none => false) then s.coreReset c else s

/-! Watchdogs (R406 to R409, R413). -/

/-- The key of the watchdogs. -/
def wdtKey : Word := 0xA5C3#32

/-- A write to `WDT.CTRL[c]`: ENABLE starts or stops the count; a debug halt under HALT_FREEZE keeps it frozen. -/
def State.wdtCtrlWrite (s : State) (c : Nat) (w : Word) : State :=
  let p := wdtPage c
  let was := s.rbit p (wdtOff c 0x100) 0
  let s := s.setReg p (wdtOff c 0x100) (w &&& 7#32)
  let x := s.core c
  let full := Countdown.start (s.reg p (wdtOff c 0x104)).toNat s.cycle
  let cur := if bit w 0 then (if was then x.wdt else full) else x.wdt.stop s.cycle
  let frozen := bit w 1 && s.coreRun c == 2
  s.setCore c { x with wdt := if !bit w 0 || frozen then cur.stop s.cycle else cur.go s.cycle }

/-- A write to `WDT.KICK[c]`. -/
def State.wdtKick (s : State) (c : Nat) (w : Word) : State :=
  if w = wdtKey then s.setCore c { s.core c with wdt := s.wdtLoad c } else s.wdtFire c 3

/-- A core watchdog reaches 0. (DEDUCED, log entry 75.) -/
def State.wdtExpire (s : State) (c : Nat) : State := if (s.core c).wdt.since.isSome then s.wdtFire c 1 else s

/-- A SYNC word at GS sink 0x10 of node 0x45 (R408). -/
def State.fabWord (s : State) (w : SWord) : State :=
  if SWord.isIdle w then s
  else if SWord.kind w == 3#2 && SWord.arg w == 3#3 then
    (if s.rbit (wdtPage 0) 0x50 0 then { s with fabWdt := Countdown.start (s.reg (wdtPage 0) 0x54).toNat s.cycle } else s)
  else s.bump (wdtPage 0) 0x5C

def State.fabCtrlWrite (s : State) (w : Word) : State :=
  let was := s.rbit (wdtPage 0) 0x50 0
  let s := s.setReg (wdtPage 0) 0x50 (w &&& 3#32)
  if bit w 0 then (if was then s else { s with fabWdt := Countdown.start (s.reg (wdtPage 0) 0x54).toNat s.cycle })
  else { s with fabWdt := s.fabWdt.stop s.cycle }

/-- The fabric watchdog expires; with BRAKE every sail user I/O brakes and OWN falls.
(DEDUCED, log entry 69; DEDUCED, log entry 75.) -/
def State.fabExpire (s : State) : State :=
  if s.fabWdt.since.isNone then s
  else
    let brake := s.rbit (wdtPage 0) 0x50 1
    let s := ({ s with fabWdt := Countdown.zero } : State).wdtEvent 0 1 0 (b2n brake)
    if brake then s.brakeSails.ownFail 0 else s

def State.pkgCtrlWrite (s : State) (w : Word) : State :=
  let was := s.rbit (wdtPage 0) 0x40 0
  let s := s.setReg (wdtPage 0) 0x40 (w &&& 7#32)
  if bit w 0 then (if was then s else { s with pkgWdt := Countdown.start (s.reg (wdtPage 0) 0x44).toNat s.cycle })
  else { s with pkgWdt := s.pkgWdt.stop s.cycle }

/-- A write to `WDT.PKG_KICK`: the key reloads. -/
def State.pkgKick (s : State) (w : Word) : State :=
  if w = wdtKey ∧ s.rbit (wdtPage 0) 0x40 0 then
    { s with pkgWdt := Countdown.start (s.reg (wdtPage 0) 0x44).toNat s.cycle }
  else s

/-! The commands. -/

/-- See the log (DESIGN CHOICE, log entry 8). -/
def execTskTimerExpire (c : Fin 4) (t : Fin 16) (s : State) : Host.Outcome State Fault Refusal :=
  .next ((s.timerExpire c.val t.val).boundary c.val)

def execSliceExpire (c : Fin 4) (s : State) : Host.Outcome State Fault Refusal :=
  .next ((s.sliceExpire c.val).boundary c.val)

def execEventMessageRx (second : Bool) (msg : Word) (s : State) : Host.Outcome State Fault Refusal :=
  .next (s.eventMessage second msg).allBoundaries

def execTskEvpendWrite (c : Fin 4) (t : Fin 16) (w : Word) (s : State) : Host.Outcome State Fault Refusal :=
  .next (((s.evpendWrite c.val t.val w).boundary c.val).reply stOK [])

def execTskEnableWrite (c : Fin 4) (t : Fin 16) (w : Word) (s : State) : Host.Outcome State Fault Refusal :=
  .next (((s.tskCtrlWrite c.val t.val w).boundary c.val).reply stOK [])

def execCoreReset (c : Fin 4) (node : BitVec 8) (port : BitVec 6) (s : State) : Host.Outcome State Fault Refusal :=
  .next ((s.coreResetBy c.val node.toNat port.toNat).reply stOK [])

def execWdtKick (c : Fin 4) (w : Word) (s : State) : Host.Outcome State Fault Refusal :=
  .next ((s.wdtKick c.val w).allBoundaries.reply stOK [])

def execWdtExpire (c : Fin 4) (s : State) : Host.Outcome State Fault Refusal := .next (s.wdtExpire c.val).allBoundaries

def execFabSync (w : SWord) (s : State) : Host.Outcome State Fault Refusal := .next (s.fabWord w)

def execFabExpire (s : State) : Host.Outcome State Fault Refusal := .next s.fabExpire

def execPkgKick (w : Word) (s : State) : Host.Outcome State Fault Refusal := .next ((s.pkgKick w).reply stOK [])

/-- The package watchdog's count ends. -/
def execPkgExpire (s : State) : Host.Outcome State Fault Refusal :=
  .next (if s.pkgWdt.since.isSome then s.pkgExpire else s)

end Sys2Proof.Machine
end

