-- ==== Sys2Proof/Machine/RegMap.lean ====
section
/-! DEFINITION. Register pages as their readers and writers see them (20_register_reference): the page map, the common
header, access codes, and every block's registers. -/

namespace Sys2Proof.Machine

/-- The initiator of an access: node and return port (R466 names the debug master's), and whether the access comes
through SECACC (R467). -/
structure Who where
  node : Nat
  port : Nat
  tap  : Bool
  deriving DecidableEq, Repr

/-- A QUIET read (R468). -/
def Who.quiet (w : Who) : Bool := w.node == 0x77 && w.port == 0x3E
def Who.debug (w : Who) : Bool := isDebug w.node w.port
def Who.core (w : Who) : Option Nat := coreOf w.node w.port
/-- A secure task: its core's requests use ports 0x38 and 0x39 (R391). -/
def Who.secure (w : Who) : Bool := w.core.isSome && decide (0x38 ≤ w.port)
/-- Core 0 running the boot ROM (R294, R405). (DEDUCED, log entry 50.) -/
def Who.rom (w : Who) (s : State) : Bool := w.core == some 0 && !s.rbit secPage 0x30 0

/-! The page map (R478, R480, Table 20-1). -/

/-- The die whose home node a node is. -/
def homeDie (node : Nat) : Option Nat := (List.range 9).find? fun d => homeNode d == node

/-- Pages of the cap's blocks, by node. -/
def capBlocks : Nat → List (Nat × Page)
  | 0x44 => [(0x20, ⟨.pkg, 0⟩), (0x24, ⟨.bist, 0⟩), (0x30, ⟨.cfg, 0⟩), (0x31, ⟨.sec, 0⟩)]
  | 0x45 => [(0x40, ⟨.glc, 0⟩), (0x41, ⟨.glc, 1⟩), (0x42, ⟨.tsk, 0⟩), (0x43, ⟨.tsk, 1⟩), (0x44, ⟨.wdt, 0⟩)]
  | 0x46 => [(0x40, ⟨.glc, 2⟩), (0x41, ⟨.glc, 3⟩), (0x42, ⟨.tsk, 2⟩), (0x43, ⟨.tsk, 3⟩), (0x44, ⟨.wdt, 1⟩)]
  | 0x47 => [(0x50, ⟨.grn, 0⟩), (0x51, ⟨.hlth, 0⟩)]
  | 0x54 => [(0x60, ⟨.pcie, 0⟩), (0x61, ⟨.xcv, 0⟩)]
  | 0x55 => [(0x11, ⟨.qp, 0x100⟩), (0x13, ⟨.qm, 0⟩)]
  | 0x56 => [(0x11, ⟨.qp, 0x101⟩), (0x13, ⟨.qm, 1⟩)]
  | 0x65 => [(0x11, ⟨.qp, 0x102⟩), (0x13, ⟨.qm, 2⟩)]
  | 0x66 => [(0x11, ⟨.qp, 0x103⟩), (0x13, ⟨.qm, 3⟩)]
  | 0x57 => [(0x61, ⟨.xcv, 1⟩), (0x62, ⟨.eth, 0⟩)]
  | 0x64 => [(0x70, ⟨.gov, 0⟩), (0x71, ⟨.enc, 0⟩)]
  | 0x67 => [(0x72, ⟨.twn, 0⟩)]
  | 0x74 => [(0x21, ⟨.clk, 0⟩), (0x22, ⟨.rst, 0⟩), (0x23, ⟨.pwr, 0⟩)]
  | 0x75 => [(0x25, ⟨.iob, 0⟩), (0x63, ⟨.uart, 0⟩), (0x64, ⟨.spi, 0⟩), (0x65, ⟨.iic, 0⟩)]
  | 0x76 => [(0x66, ⟨.dma, 0⟩)]
  | 0x77 => [(0x78, ⟨.dbg, 0⟩), (0x79, ⟨.trc, 0⟩)]
  | _ => []

/-- The page of a link end at page number 0x028 + SITE: sites 1 to 3 of a sail, 4 to 7 of the cap. -/
def sitePage (d p : Nat) : Option Page :=
  let site := p - 0x28
  if 0x28 ≤ p ∧ (siteLink d site).isSome then some ⟨.fvl, d * 16 + site⟩ else none

/-- Page p of a node. (DEDUCED, log entry 13.) -/
def pageAt (node p : Nat) : Option Page :=
  if !nodeExists node then none
  else match p with
    | 0 => some ⟨.rtr, node⟩
    | 1 => some ⟨.cog, node⟩
    | 2 => some ⟨.prb, node⟩
    | _ =>
      if isRegionNode node then
        let r := nodeRegion node
        if p = 0x10 then some ⟨.rgn, r⟩
        else if p = 0x11 then some ⟨.qp, r⟩
        else if 0x18 ≤ p ∧ p < 0x1E then some ⟨.bank, bankOf r (p - 0x18)⟩
        else match homeDie node with
          | some d => match p with
            | 0x20 => some ⟨.pkg, d⟩
            | 0x21 => some ⟨.clk, d⟩
            | 0x22 => some ⟨.rst, d⟩
            | 0x23 => some ⟨.pwr, d⟩
            | 0x24 => some ⟨.bist, d⟩
            | 0x25 => some ⟨.iob, d⟩
            | 0x26 => some ⟨.hbm, d⟩
            | _ => sitePage d p
          | none => none
      else match (capBlocks node).find? fun e => e.1 == p with
        | some e => some e.2
        | none => if node = 0x44 then sitePage 0 p else none

/-- The number under which a node carries a page. -/
def pageNumber (p : Page) : Nat :=
  match p.blk with
  | .rtr => 0 | .cog => 1 | .prb => 2 | .rgn => 0x10 | .qp => 0x11 | .qm => 0x13
  | .bank => 0x18 + p.inst % 6
  | .pkg => 0x20 | .clk => 0x21 | .rst => 0x22 | .pwr => 0x23 | .bist => 0x24 | .iob => 0x25 | .hbm => 0x26
  | .fvl => 0x28 + p.inst % 16
  | .cfg => 0x30 | .sec => 0x31
  | .glc => 0x40 + p.inst % 2
  | .tsk => 0x42 + p.inst % 2
  | .wdt => 0x44 | .grn => 0x50 | .hlth => 0x51 | .pcie => 0x60 | .xcv => 0x61 | .eth => 0x62 | .uart => 0x63
  | .spi => 0x64 | .iic => 0x65 | .dma => 0x66 | .gov => 0x70 | .enc => 0x71 | .twn => 0x72 | .dbg => 0x78 | .trc => 0x79

/-- The page exists: its node carries it under its number. -/
def pageExists (p : Page) : Bool := pageAt (pageNode p) (pageNumber p) == some p

/-- Package address of a register. -/
def regAddr (p : Page) (off : Nat) : Nat := pageNode p * 2 ^ 40 + pageNumber p * 0x1000 + off

/-! The common header (R482 to R489). -/

/-- How `BLK_CTRL.ENABLE` behaves (R483). -/
inductive EnKind where
  | fixed | boot | free
  deriving DecidableEq, Repr

def enKind (p : Page) : EnKind :=
  match p.blk with
  | .qm | .grn | .hlth | .gov | .enc | .twn => .boot
  | .glc | .tsk => if p.inst = 0 then .fixed else .boot
  | .wdt => if p.inst = 0 then .fixed else .boot
  | .iob => if p.inst = 0 then .boot else .fixed
  | .pcie | .xcv | .eth | .uart | .spi | .iic | .dma | .trc => .free
  | _ => .fixed

def State.enabledPage (s : State) (p : Page) : Bool := enKind p == .fixed || s.released1 p

/-- The number of events of a page; higher bits of its event registers are reserved. -/
def eventCount (p : Page) : Nat :=
  match p.blk with
  | .rtr => 10 | .cog => 5 | .rgn => 4 | .qp => 7 | .qm => 6 | .bank => 5 | .clk => 3 | .rst => 1 | .pwr => 5
  | .bist => if p.inst = 0 then 4 else 0
  | .iob => 6 | .hbm => 3 | .fvl => 7 | .cfg => 5 | .sec => 8 | .glc => 3 | .wdt => 3 | .grn => 7 | .hlth => 5
  | .pcie => 2 | .xcv | .eth => 1 | .uart | .spi | .iic => 2 | .dma => 2 | .gov => 10 | .enc => 3 | .twn => 13
  | .dbg | .trc => 2
  | .prb | .pkg | .tsk => 0

/-- The die that holds a page. -/
def pageDie (p : Page) : Nat := nodeDie (pageNode p)

/-- A cap domain that a page's block lies in: its bit of `Power.off`. -/
def domainBit (p : Page) : Option Nat :=
  match p.blk with
  | .glc | .tsk => if p.inst = 0 then none else some p.inst
  | .dma => some 4
  | .trc => some 5
  | _ => none

/-- `BLK_STAT.POWER_STATE`: 0 ON, 1 RETAIN, 2 OFF, 3 in transition. (DEDUCED, log entry 68.) -/
def State.powerState (s : State) (p : Page) : Nat :=
  match p.blk with
  | .rgn =>
    let busy := match s.power.req with
      | some q => q.kind == 0 && 16 * (q.die - 1) + q.index == p.inst
      | none => false
    if busy then 3 else if s.rgnState p.inst = stOff ∨ s.rgnState p.inst = stUnusable then 2 else 0
  | .bank => if s.rbit p 0x40 16 then 3 else s.bankPower p.inst
  | .hbm => if p.inst % 2 = 0 then 2 else 0
  | _ => 0

/-- `BLK_STAT` as read (Table 20-6). No chapter defines BUSY for a block, so it reads 0. (DEDUCED, log entry 95.) -/
def State.blkStat (s : State) (p : Page) : Word :=
  let w := s.reg p 0x0C &&& 0x70#32
  let pw := s.powerState p
  let ready := s.enabledPage p && pw == 0 && !bit w 4 && decide (1 ≤ s.releasedTo (pageDie p))
  w ||| BitVec.ofNat 32 (pw * 4 + b2n ready)

/-- INSTANCE of `BLK_ID`: that of a link end is link·8 + SITE. -/
def pageInstance (p : Page) : Nat :=
  if p.blk = .fvl then (siteLink (p.inst / 16) (p.inst % 16)).getD 0 * 8 + p.inst % 16 else p.inst

/-- A header register as read. -/
def State.headerRead (s : State) (p : Page) (off : Nat) : Word :=
  match off with
  | 0x00 => BitVec.ofNat 32 (blkCode p.blk * 2 ^ 24 + pageInstance p % 2 ^ 16 * 2 ^ 8 + 1)
  | 0x04 => BitVec.ofNat 32 (s.fuses.stepping.toNat % 256 * 2 ^ 8 + (s.fuses.level.toList.getD (pageDie p) 0).toNat)
  | 0x08 => BitVec.ofNat 32 (b2n (s.enabledPage p))
  | 0x0C => s.blkStat p
  | 0x18 => s.reg p 0x10 &&& s.reg p 0x14
  | 0x10 | 0x14 | 0x1C | 0x20 | 0x24 | 0x28 | 0x2C | 0x30 => s.reg p off
  | 0x34 => if p.blk = .bank ∨ p.blk = .trc then s.reg p off else 0
  | _ => 0

/-- EVT_EN takes a value; an event that has already occurred and becomes enabled is notified once (R486).
(DEDUCED, log entry 95.) -/
def State.evtEnWrite (s : State) (p : Page) (w : Word) : State :=
  let m := w &&& BitVec.ofNat 32 (2 ^ eventCount p - 1)
  let old := s.reg p 0x14
  let raw := s.reg p 0x10
  (List.range (eventCount p)).foldl (fun s e => if bit m e && !bit old e && bit raw e then s.notify p e else s)
    (s.setReg p 0x14 m)

/-- A 1 written to EVT_PEND clears that bit of EVT_RAW, whatever EVT_EN holds (Table 20-2). -/
def State.evtPendClear (s : State) (p : Page) (w : Word) : State := s.setReg p 0x10 (s.reg p 0x10 &&& ~~~w)

/-- CLEAR (Table 20-8). -/
def State.errClear (s : State) (p : Page) : State :=
  ((((s.setReg p 0x20 0).setReg p 0x24 0).setReg p 0x28 0).setReg p 0x2C 0).setBit p 0x0C 6 false

def State.locked (s : State) (p : Page) : Bool := s.rbit p 0x30 0

/-- The data a block buffers is discarded and its operations end (R485). -/
def State.dropBlock (s : State) (p : Page) : State :=
  let o := s.outer
  match p.blk with
  | .pcie =>
    -- the host interface lets its lanes go, its transfers and pending vectors end
    let s := s.pcieLetGo
    s.setOuter { s.outer with pba := [], msi := none, hdma := [] }
  | .xcv => s.setOuter { o with lanes := o.lanes.filter fun e => e.1 / 16 != p.inst }
  | .eth => s.setOuter { o with macs := [] }
  | .uart => s.setOuter { o with serials := o.serials.filter fun e => 4 ≤ e.1 }
  | .spi => s.setOuter { o with serials := o.serials.filter fun e => e.1 < 4 || 10 ≤ e.1 }
  | .iic => s.setOuter { o with serials := o.serials.filter fun e => e.1 < 10 }
  | .dma => { s with dmas := [] }
  | _ => s

/-- SOFT_RESET (R485). -/
def State.softReset (s : State) (p : Page) (w : Who) : State :=
  match p.blk with
  | .rgn => if s.underTest p then s.abandonTests fun u => u.type == 1 && unitRegion u == p.inst else s.clearStart p.inst
  | .glc => s.coreResetBy p.inst w.node w.port
  | .pcie | .xcv | .eth | .uart | .spi | .iic | .dma => (s.dropBlock p).resetPage p
  | _ => s

/-- ENABLE (R483): a free block written 0 is held in reset; a block that BIST has failed stays held. -/
def State.enableWrite (s : State) (p : Page) (on : Bool) : State :=
  match enKind p with
  | .fixed => s
  | .boot => if on && !s.failedBlock p then s.enablePage p else s
  | .free =>
    if on then (if s.failedBlock p then s else s.enablePage p)
    else
      let s := s.dropBlock p
      let s := if p.blk = .trc then ({ s with trace := [] } : State).trcRelease else s
      (s.resetPage p).setBit p 0x08 0 false

/-- POWER_REQ (R484): 1 WAKE, 2 SLEEP, 3 RETAIN. -/
def State.powerReq (s : State) (p : Page) (q : Nat) : State × Nat :=
  if q = 0 then (s, stOK)
  else match p.blk with
    | .rgn => (s.domGo (q - 1) (regionSail p.inst) 0 (p.inst % 16) false, stOK)
    | .glc => if p.inst = 0 then (s, stOK) else (s.domGo (q - 1) 0 2 p.inst false, stOK)
    | .dma => (s.domGo (q - 1) 0 3 0 false, stOK)
    | .trc => (s.domGo (q - 1) 0 4 0 false, stOK)
    | .bank => s.bankPwrReq p.inst (if q = 1 then 0 else if q = 2 then 2 else 1)
    | _ => (s, stOK)

/-- A write to BLK_CTRL (Table 20-5). -/
def State.blkCtrlWrite (s : State) (p : Page) (v : Word) (w : Who) : State × Nat :=
  let s := s.enableWrite p (bit v 0)
  let s := if bit v 1 then s.softReset p w else s
  s.powerReq p (fld v 4 2)

/-- A write to a header register: status. -/
def State.headerWrite (s : State) (p : Page) (off : Nat) (v : Word) (w : Who) : State × Nat :=
  match off with
  | 0x08 => s.blkCtrlWrite p v w
  | 0x14 => if s.locked p then (s, stDenied) else (s.evtEnWrite p v, stOK)
  | 0x18 => (s.evtPendClear p v, stOK)
  | 0x1C => if s.locked p then (s, stDenied) else (if fld v 30 2 = 3 then s else s.setReg p 0x1C (v &&& 0xF0003FFF#32), stOK)
  | 0x2C => (if bit v 0 then s.errClear p else s, stOK)
  | 0x30 => (if bit v 0 then s.setBit p 0x30 0 true else s, stOK)
  | 0x34 => if p.blk = .bank then s.bankOwnerReq p.inst v else (s, stOK)
  | _ => (s, stOK)

/-! Access codes (Table 20-10). -/

/-- `off` is the same register of one of `n` instances, `size` bytes apart, the first at `base`.
(DEDUCED, log entry 96.) -/
def inArr (off base n size : Nat) : Bool := decide (base ≤ off ∧ off < base + n * size ∧ (off - base) % size = 0)

/-- Registers that clear when read (RC), pop registers apart. -/
def isRC (p : Page) (off : Nat) : Bool :=
  let arr := inArr off
  match p.blk with
  | .rtr => arr 0x60 5 4 || arr 0x74 9 4
  | .cog => arr 0x70 3 4
  | .prb => off == 0x58 || arr 0x60 4 4
  | .rgn => arr 0x54 4 4
  | .qp => off == 0x44 || (List.range 5).any fun j => arr (0x110 + 4 * j) 32 0x40
  | .qm => arr 0x4C 7 4
  | .bank => arr 0x4C 3 4
  | .clk => off == 0x44
  | .pwr => p.inst == 0 && arr 0x58 2 4
  | .bist => p.inst == 0 && arr 0x50 3 4
  | .iob => (List.range 6).any fun j => arr (0x40C + 4 * j) 8 0x40
  | .hbm => arr 0x4C 2 4
  | .fvl => arr 0x5C 6 4
  | .cfg => arr 0x88 4 4
  | .glc => arr 0x70 3 4
  | .wdt => (off == 0x5C && p.inst == 0) || arr 0x114 2 0x20
  | .grn => arr 0x78 4 4
  | .pcie => arr 0x50 3 4
  | .xcv => arr 0x110 16 0x20
  | .eth => (List.range 6).any fun j => arr (0x11C + 4 * j) 8 0x40
  | .gov => arr 0x134 4 0x40 || (List.range 3).any fun j => arr (0x210 + 4 * j) 8 0x20
  | .enc => arr 0x118 8 0x40
  | .twn => arr 0x8C 8 4
  | .trc => arr 0x70 2 4
  | _ => false

/-- Bits that a write sets in a register without side effects. An address keeps no bits below its alignment: bits 2:0 of
`CFG.MEM_ADDR` are dropped. (DESIGN CHOICE, log entry 101.) -/
def rwMask (p : Page) (off : Nat) : Word :=
  let arr := inArr off
  match p.blk with
  | .rtr => if off = 0x44 then 0xFFFF else 0
  | .cog => if off = 0x54 then 0x800103FF else 0
  | .prb => if off = 0x40 then 0x10F else if off = 0x44 then 0xFFFF else if arr 0x48 4 4 then 0xFFFFFFFF else 0
  | .pwr => if p.inst = 0 ∧ off = 0x4C then 0xFF else 0
  | .bist => if p.inst ≠ 0 then 0 else if off = 0x40 then 0xFFFF03 else if off = 0x44 then 0xFFF else 0
  | .iob => if off = 0x50 ∨ off = 0x54 then 0xFFFFFFFF
    else if off = 0x5C ∨ off = 0x60 then (if p.inst = 0 then 0xFFFFFFFF else 0xFFFF) else 0
  | .cfg => if off = 0x48 then 0xFFFFFFF8 else if off = 0x4C ∨ off = 0x54 then 0xFFFF else if off = 0x50 then 0xFFFFFFFF else 0
  | .tsk => if off = 0x40 then 0xFFFF else 0
  | .wdt => if arr 0x104 2 0x20 || arr 0x108 2 0x20 then 0xFFFFFFFF else 0
  | .grn => if off = 0x44 ∨ off = 0x4C then 0xFFFFFFFF else if off = 0x48 then 0x1FFF else if off = 0x50 then 0xFFFF else 0
  | .hlth => if off = 0x4C ∨ off = 0x50 then 0xFFFFFFFF else if off = 0x54 then 0xFFFF else 0
  | .pcie => if arr 0x48 2 4 then 0xFFFFF
    else if arr 0x100 4 0x20 || arr 0x104 4 0x20 || arr 0x108 4 0x20 || arr 0x110 4 0x20 then 0xFFFFFFFF
    else if arr 0x10C 4 0x20 then 0xFFFF else 0
  | .eth => if arr 0x100 8 0x40 then 0x3FFF003F else if arr 0x104 8 0x40 || arr 0x118 8 0x40 then 0xFFFFFFFF
    else if arr 0x108 8 0x40 then 0xFFFF else 0
  | .uart => if arr 0x100 4 0x40 then 0x7F else if arr 0x104 4 0x40 then 0xFFFFF else 0
  | .spi => if arr 0x100 6 0x40 then (if off < 0x200 then 0xFF7F else 0x7FF7F) else 0
  | .iic => if arr 0x100 4 0x40 then 0x7FF000F else 0
  | .dma => if arr 0x100 8 0x40 || arr 0x108 8 0x40 || arr 0x110 8 0x40 then 0xFFFFFFFF
    else if arr 0x104 8 0x40 || arr 0x10C 8 0x40 then 0xFFFF else 0
  | .gov => if off = 0x50 then 0xFFFFFFFF
    else if arr 0x10C 4 0x40 then 0xFFFFFF else if arr 0x110 4 0x40 then 0xFFFFFFFF
    else if arr 0x114 4 0x40 then 0xFFFFFF else if arr 0x118 4 0x40 then 0xFFFF
    else if arr 0x204 8 0x20 || arr 0x208 8 0x20 || arr 0x20C 8 0x20 then 0xFFFFFFFF else 0
  | .enc => if arr 0x100 8 0x40 then 0xFF73 else 0
  | .dbg => if off = 0x44 then 0x13 else if arr 0x108 4 0x20 then 0x3F
    else if arr 0x110 4 0x20 || arr 0x114 4 0x20 then 0xFFFFFFFD else 0
  | _ => 0

/-! Registers whose value is computed when read. -/

def pkgPosition (d strap : Nat) : Word :=
  let o := dieOrigin d
  let x := strapTransform d
  BitVec.ofNat 32 (o.2 * 2 ^ 20 + o.1 * 2 ^ 16 + x.2 * 2 ^ 10 + x.1 * 2 ^ 9 + d * 16 + strap)

/-- The sequencer's registers, port registers and CHAIN read 0 while the region is not ACTIVE (R112); SEQ_STAT is live. -/
def State.rgnRead (s : State) (r off : Nat) : Word :=
  let p := rgnPage r
  if off = 0x40 then BitVec.ofNat 32 (s.rgnState r + (if s.rgnActive r then s.seqMode r * 16 else 0))
  else if 0x54 ≤ off ∧ off ≤ 0x60 then s.reg p off
  else if !s.rgnActive r then 0
  else if off = 0x4C then
    let x := s.region r
    BitVec.ofNat 32 (b2n x.axisWait * 2 ^ 25 + x.spanLeft % 2 ^ 13 * 2 ^ 12 + x.backlog % 16 * 2 ^ 8 + x.seqCtx.toNat * 16
      + x.entry % 16)
  else if 0xC0 ≤ off ∧ off < 0x140 then
    -- BOUND tells the binding in force: a refused one leaves the port unbound (R174)
    let w := s.reg p off
    if (s.att (portAtt r ((off - 0xC0) / 4))).bound then w ||| 0x80000000#32 else w &&& 0x7FFFFFFF#32
  else s.reg p off

/-- The gate of a queue holds its head packet (R193). -/
def State.gateHolds (s : State) (k : Nat) : Bool :=
  let a := s.att k
  match a.window with
  | w :: _ => a.bound && !a.mid && !a.released && !s.gatePasses k (s.desc a.queue) w
  | [] => false

/-- Registers of a QP page, but its counters. -/
def State.qpRead (s : State) (inst off : Nat) : Word :=
  if off = 0x40 then BitVec.ofNat 32 ((List.range 32).map fun i => b2n (s.att (inst * 32 + i)).bound * 2 ^ i).sum
  else if off < 0x100 ∨ 0x900 ≤ off then 0
  else
    let k := inst * 32 + (off - 0x100) / 0x40
    let a := s.att k
    let d := s.desc a.queue
    if !a.bound then 0
    else match (off - 0x100) % 0x40 with
      | 0x00 => d.weir.setWidth 32
      | 0x04 => BitVec.ofNat 32 (2 ^ 31 + d.state.toNat * 2 ^ 28 + b2n (s.gateHolds k) * 2 ^ 27 + b2n d.flush * 2 ^ 26
          + b2n d.marker * 2 ^ 25 + b2n a.mid * 2 ^ 24 + a.queue)
      | 0x08 => BitVec.ofNat 32 (min 3 (leatOut a.reads) * 2 ^ 20 + min 15 (leatOut a.writes) * 2 ^ 16
          + min 127 a.staging.length * 2 ^ 8 + min 31 a.window.length)
      | 0x0C => d.shown.pkts.setWidth 32
      | _ => 0

end Sys2Proof.Machine
end

