-- ==== Sys2Proof/Machine/RegAccess.lean ====
section
/-! DEFINITION. Reads and writes of block registers, offsets 0x040 and up: what each register shows and what a write to
it does (the register tables of every chapter, R488). -/

namespace Sys2Proof.Machine

/-! Reads. -/

/-- Every present sail has been aligned (R147, R216). -/
def State.allAligned (s : State) : Bool :=
  s.training.done && (List.range 8).all fun i => !s.rbit (pkgPage 0) 0x44 i || s.training.aligned.getLsbD (i + 1)

/-- The strapped fields of `FVL.ID` (Table 11-12): FAR_DIE, SITE and LINK. -/
def fvlStraps (d site : Nat) : Word :=
  match siteLink d site with
  | some l => BitVec.ofNat 32 (farDie l d * 2 ^ 16 + site * 16 + l)
  | none => 0

/-- What a register of a block held in reset reads as: its reset value, fuses and straps included (R7, R483). -/
def State.resetValue (s : State) (p : Page) (off : Nat) : Word :=
  let w := regReset (blkCode p.blk) p.inst off
  match p.blk with
  | .twn => if off = 0x44 then putFld w 11 1 (b2n s.board.twinId) else w
  | .iob => if off = 0x40 then w ||| BitVec.ofNat 32 (s.iobFuses p.inst) else w
  | _ => w

/-- A register of a block as it stands, without the effects of reading it. `COG.GEN.RUNNING` tells the release of the
cap's network island. (DESIGN CHOICE, log entry 100.) -/
def State.blockValue (s : State) (p : Page) (off : Nat) : Word :=
  match p.blk with
  | .rtr =>
    if off = 0x40 then rtrId p.inst
    else if off = 0x4C then putFld (s.reg p off) 8 8 (min 255 (s.admitted p.inst))
    else s.reg p off
  | .cog =>
    let x := s.cogs (nodeDie p.inst)
    match off with
    | 0x44 => BitVec.ofNat 32 x.len
    | 0x48 => putFld (s.reg p off) 0 10 x.cog
    | 0x4C => x.round
    | 0x58 => s.cogEntry p.inst (s.rfld p 0x54 16 1) (s.rfld p 0x54 0 10)
    | 0x7C => if p.inst = 0x44 then BitVec.ofNat 32 (b2n (decide (2 ≤ s.releasedTo 0)) + 2 * b2n s.allAligned) else 0
    | _ => s.reg p off
  | .rgn => s.rgnRead p.inst off
  | .qp => if isRC p off then s.reg p off else s.qpRead p.inst off
  | .qm =>
    match off with
    | 0x44 =>
      let pinned := (s.atts.filter fun e => decide (e.1 < 0x10000) && e.2.bound && e.2.queue % 4 == p.inst).length
      let free := (s.lru.filter fun q => q % 4 == p.inst).length
      BitVec.ofNat 32 (min 65535 (free + pinned) + min 65535 pinned * 65536)
    | 0x48 => 0x17FE0000#32
    | _ => s.reg p off
  | .pkg => if off = 0x40 then pkgPosition p.inst (if p.inst = 0 then 0 else tget (fun _ => 0) s.board.straps p.inst)
    else if off = 0x48 ∧ p.inst = 0 then putFld (s.reg p off) 0 8 s.capLevel
    else s.reg p off
  -- every die's page shows which sails are held (Table 14-11)
  | .rst => if off = 0x50 then s.reg (rstPage 0) off else s.reg p off
  | .iob =>
    if off = 0x40 then s.iobBank p.inst
    else if off = 0x48 then BitVec.ofNat 32 (tget (fun _ => 0) s.calT0 p.inst)
    else if inArr off 0x408 8 0x40 && p.inst != 0 then s.grpStat p.inst ((off - 0x408) / 0x40)
    else s.reg p off
  | .sec =>
    match off with
    | 0x40 => s.secLc
    | 0x5C => s.fuses.serial.extractLsb' 0 32
    | 0x60 => s.fuses.serial.extractLsb' 32 32
    | 0x64 => s.secRollback
    | 0x68 => s.secOwnerKeys
    | 0x6C => s.secKeyslot
    | 0x74 => s.tamperStat
    | 0x80 => s.trngStat
    | _ => if inArr off 0xC0 12 4 then s.dikHash ((off - 0xC0) / 4) else s.reg p off
  | .glc => if off = 0x44 then s.glcStat p.inst else s.reg p off
  | .tsk =>
    if off < 0x100 ∨ 0x300 ≤ off then s.reg p off
    else
      let t := (off - 0x100) / 0x20
      match (off - 0x100) % 0x20 with
      | 0x04 => s.tskPcRead p.inst t
      | 0x08 => s.tskStRead p.inst t
      | 0x1C => BitVec.ofNat 32 ((s.timer p.inst t).us s.cycle)
      | _ => s.reg p off
  | .wdt =>
    if off = 0x4C ∧ p.inst = 0 then BitVec.ofNat 32 (s.pkgWdt.us s.cycle)
    else if off = 0x58 ∧ p.inst = 0 then BitVec.ofNat 32 (s.fabWdt.us s.cycle)
    else if inArr off 0x110 2 0x20 then BitVec.ofNat 32 ((s.core (2 * p.inst + (off - 0x110) / 0x20)).wdt.us s.cycle)
    else s.reg p off
  | .grn =>
    if off = 0x5C then (s.reg p off) ||| BitVec.ofNat 32 (b2n s.holdOk * 2 ^ 16)
    else if inArr off 0x60 3 4 then s.grnArea ((off - 0x60) / 4)
    else if inArr off 0x6C 3 4 then BitVec.ofNat 32 (s.eraseMax ((off - 0x6C) / 4))
    else s.reg p off
  | .uart =>
    let k := (off - 0x100) / 0x40
    if inArr off 0x108 4 0x40 then (s.serPop k true).2
    else if inArr off 0x10C 4 0x40 then
      putFld (putFld (s.reg p off) 0 7 (s.serial k).rx.length) 8 7 (serDepth k - (s.serial k).tx.length)
    else s.reg p off
  | .spi => if inArr off 0x108 6 0x40 then (s.serPop (4 + (off - 0x100) / 0x40) true).2 else s.reg p off
  | .iic => if inArr off 0x108 4 0x40 then (s.serPop (10 + (off - 0x100) / 0x40) true).2 else s.reg p off
  | .gov =>
    match off with
    | 0x40 => (s.tbLoRead true).2
    | 0x4C => s.tbAdjRead
    | 0x50 | 0x54 => 0
    | 0x58 => (s.reg p off &&& 4#32) ||| BitVec.ofNat 32 (b2n s.allAligned + 2 * b2n (decide (s.tbSlew ≠ 0)))
    | _ => if inArr off 0x120 4 0x40 then (s.axPosRead ((off - 0x120) / 0x40) true).2 else s.reg p off
  | .dbg =>
    match off with
    | 0x40 => (s.reg p off &&& 0x00101FF1#32) ||| BitVec.ofNat 32 (b2n s.dbg.busy * 2 + s.unlockLevel * 2 ^ 16)
    | _ => if inArr off 0x10C 4 0x20 then (s.cregAccess ((off - 0x10C) / 0x20) none).2.2 else s.reg p off
  | .trc => if inArr off 0x50 8 4 then (s.trcRead ((off - 0x50) / 4) true).2 else s.reg p off
  | .bank => if off = 0x48 ∧ p.inst % 96 < 2 then s.reg p off ||| 2#32 else s.reg p off
  | .enc =>
    if inArr off 0x114 8 0x40 then putFld (s.reg p off) 0 1 (b2n (s.lineOk ((off - 0x114) / 0x40))) else s.reg p off
  | .fvl => if off = 0x40 then s.reg p off ||| fvlStraps (p.inst / 16) (p.inst % 16) else s.reg p off
  | .twn => if off = 0x44 then putFld (s.reg p off) 11 1 (b2n s.board.twinId) else s.reg p off
  | _ => s.reg p off

/-- A word that a normal read would take, for QUIET reads of pop registers (Table 19-7). -/
def State.popsWord (s : State) (p : Page) (off : Nat) : Bool :=
  let k := (off - 0x100) / 0x40
  match p.blk with
  | .uart => inArr off 0x108 4 0x40 && (s.serial k).rx != []
  | .spi => inArr off 0x108 6 0x40 && (s.serial (4 + k)).rx != []
  | .iic => inArr off 0x108 4 0x40 && (s.serial (10 + k)).rx != []
  | .trc => off == 0x6C && s.traceHeld (s.rfld trcPage 0x4C 0 16)
  | _ => false

/-- What a powered lane's receiver and equaliser show, `XCV.STAT` bits 2:0 and `XCV.EQ`, is open: each read draws it
anew. (DESIGN CHOICE, log entry 90.) -/
def State.laneRead (s : State) (p : Page) (off : Nat) : State × Word :=
  let x := s.takeFree
  (x.2, if inArr off 0x108 16 0x20 then (s.reg p off &&& 0x30#32) ||| (x.1 &&& 7#32) else x.1 &&& 0xFFFFFF#32)

/-- `IOB.GPIO_IN`: what stands at the pins is the board's, each read draws it anew; pins that do not exist read 0.
(DESIGN CHOICE, log entry 90.) -/
def State.gpioRead (s : State) (p : Page) (off : Nat) : State × Word :=
  let x := s.takeFree
  (x.2, if off = 0x64 ∧ p.inst ≠ 0 then x.1 &&& 0xFFFF#32 else x.1)

/-- The effects of a normal read of a block register, with the value returned. -/
def State.blockRead (s : State) (p : Page) (off : Nat) (w : Who) : State × Nat × Word :=
  let v := s.blockValue p off
  let k := (off - 0x100) / 0x40
  if p.blk = .dbg ∧ inArr off 0x10C 4 0x20 then
    let x := s.cregAccess ((off - 0x10C) / 0x20) none
    (x.1, x.2.1, x.2.2)
  else if p.blk = .sec ∧ off = 0x7C then
    let x := s.trngRead w.quiet
    (x.1, stOK, x.2)
  else if p.blk = .xcv ∧ (inArr off 0x108 16 0x20 || inArr off 0x10C 16 0x20)
      ∧ laneOwner s (16 * p.inst + (off - 0x100) / 0x20) ≠ 0 then
    let x := s.laneRead p off
    (x.1, stOK, x.2)
  else if p.blk = .iob ∧ (off = 0x58 ∨ off = 0x64) then
    let x := s.gpioRead p off
    (x.1, stOK, x.2)
  else if w.quiet then ((if s.popsWord p off then s.setBit dbgPage 0x40 0 true else s), stOK, v)
  else if isRC p off then (s.setReg p off 0, stOK, v)
  else match p.blk with
    | .cog => if off = 0x58 then let x := s.cogTabRead p.inst false; (x.1, stOK, x.2) else (s, stOK, v)
    | .gov =>
      if off = 0x40 then let x := s.tbLoRead false; (x.1, stOK, x.2)
      else if inArr off 0x120 4 0x40 then let x := s.axPosRead k false; (x.1, stOK, x.2)
      else (s, stOK, v)
    | .enc => (if inArr off 0x114 8 0x40 then s.setBit p off 1 false else s, stOK, v)
    | .uart => if inArr off 0x108 4 0x40 then let x := s.serPop k false; (x.1, stOK, x.2) else (s, stOK, v)
    | .spi => if inArr off 0x108 6 0x40 then let x := s.serPop (4 + k) false; (x.1, stOK, x.2) else (s, stOK, v)
    | .iic => if inArr off 0x108 4 0x40 then let x := s.serPop (10 + k) false; (x.1, stOK, x.2) else (s, stOK, v)
    | .trc => if off = 0x6C then let x := s.trcRead 7 false; (x.1, stOK, x.2) else (s, stOK, v)
    | _ => (s, stOK, v)

/-! Writes. -/

/-- Half of a pin word (Table 18-1): the low half is stored, the high half completes the word.
(DEDUCED, log entry 86.) -/
def State.pinHalf (s : State) (d i : Nat) (hi : Bool) (v : Word) : State × Nat :=
  let old := s.pinWord d i
  if hi then s.pinWrite d i (v ++ old.extractLsb' 0 32)
  else if s.pinOwned d i old then s.pinRefuse d i (pwFunc old)
  else if fld v 25 2 = 3 ∨ fld v 30 2 = 3 then (s, stDenied)
  else (s.setReg (iobPage d) (pinOff i) (v &&& (pinMask (d == 0)).extractLsb' 0 32), stOK)

/-- Half of a group word (Table 18-2). (DEDUCED, log entry 86.) -/
def State.grpHalf (s : State) (d g : Nat) (hi : Bool) (v : Word) : State × Nat :=
  let old := s.grpWord d g
  if hi then s.grpWrite d g (v ++ old.extractLsb' 0 32)
  else if gwMode old ≠ 0 then (s.iobEvent d 4 (0x80 + g) 0, stDenied)
  else (s.setReg (iobPage d) (grpOff g) (v &&& grpMask.extractLsb' 0 32), stOK)

/-- A write to an IOB page. A calibration period of 0 keeps the old one.
(DEDUCED, log entry 86; DESIGN CHOICE, log entry 101.) -/
def State.iobWrite (s : State) (p : Page) (off : Nat) (v : Word) : State × Nat :=
  if off = 0x44 then (if p.inst ≠ 0 ∧ fld v 16 8 ≠ 0 then s.setFld p off 16 8 (fld v 16 8) else s, stOK)
  else if 0x100 ≤ off ∧ off < 0x300 then s.pinHalf p.inst ((off - 0x100) / 8) (off / 4 % 2 == 1) v
  else if p.inst ≠ 0 ∧ 0x400 ≤ off ∧ off < 0x600 ∧ (off - 0x400) % 0x40 < 8 then
    s.grpHalf p.inst ((off - 0x400) / 0x40) (off / 4 % 2 == 1) v
  else (if rwMask p off = 0 then s else s.setReg p off (v &&& rwMask p off), stOK)

/-- SEC writes (R293, R294, R298): the boot ROM before LOCK; afterwards CMD, CMD_ADDR and NONCE_GEN by secure tasks,
NONCE_GEN, UNLOCK and UNLOCK_ADDR by the debug master and the TAP. (DEDUCED, log entry 45; DEDUCED, log entry 50.) -/
def State.secAdmits (s : State) (off : Nat) (w : Who) : Bool :=
  if !s.rbit secPage 0x30 0 then w.rom s
  else match off with
    | 0x44 | 0x48 => w.secure
    | 0x50 => w.secure || w.debug || w.tap
    | 0x84 | 0x88 => w.debug || w.tap
    | _ => false

/-- Whether a fuse verifies is open: a free value tells. (DESIGN CHOICE, log entry 49.) -/
def State.fuseDraw (s : State) : Bool × State :=
  let x := s.takeFree
  (bit x.1 0, x.2)

/-- A write to a register of the SEC page. Bits 2:0 of `SEC.CMD_ADDR` are dropped.
(DESIGN CHOICE, log entry 101.) -/
def State.secWrite (s : State) (off : Nat) (v : Word) (w : Who) : State × Nat :=
  if !s.secAdmits off w then (s, stDenied)
  else match off with
    | 0x44 =>
      if bit v 31 then
        let op := fld v 0 16
        let x := s.fuseDraw
        if 1 ≤ op ∧ op ≤ 10 then (x.2.secCommand op w.secure x.1, stOK)
        else if s.rbit secPage 0x4C 0 then (s.secEvent 3 0 op, stOK)
        else ((s.setFld secPage 0x44 0 16 op).cmdEnd op srBadArg, stOK)
      else (s.setFld secPage 0x44 0 16 (fld v 0 16), stOK)
    | 0x48 => (s.setReg secPage 0x48 (v &&& 0xFFFF8#32), stOK)
    | 0x50 => (s.nonceGen, stOK)
    | 0x78 => (if fld v 0 5 = 0 then s else s.setReg secPage 0x78 0, stOK)
    | 0x84 =>
      if bit v 31 then
        let x := s.fuseDraw
        (x.2.debugUnlock (fld v 0 2) true x.1, stOK)
      else (s.setFld secPage 0x84 0 2 (fld v 0 2), stOK)
    | 0x88 => (s.setReg secPage 0x88 (v &&& 0xFFFFF#32), stOK)
    | _ => (s, stOK)

/-- GLC registers; TVEC, APBASE and the MPU are frozen by LOCK (R411). -/
def State.glcWrite (s : State) (p : Page) (off : Nat) (v : Word) (w : Who) : State × Nat :=
  let mask : Word := if off = 0x48 then 0xFFFFFF00 else if inArr off 0x50 8 4 then 0x830FFFFF
    else if inArr off 0x100 16 16 || inArr off 0x104 16 16 then 0xFFFFF000
    else if inArr off 0x108 16 16 then 0xFFFF83FF else 0
  if off = 0x40 then
    let s := s.setReg p off (v &&& 0xF2#32)
    (if bit v 0 then s.coreResetBy p.inst w.node w.port else s, stOK)
  else if mask = 0 then (s, stOK)
  else if s.locked p then (s, stDenied)
  else (s.setReg p off (v &&& mask), stOK)

def State.tskWrite (s : State) (p : Page) (off : Nat) (v : Word) : State × Nat :=
  if off < 0x100 ∨ 0x300 ≤ off then (if rwMask p off = 0 then s else s.setReg p off (v &&& rwMask p off), stOK)
  else
    let t := (off - 0x100) / 0x20
    match (off - 0x100) % 0x20 with
    | 0x00 => (s.tskCtrlWrite p.inst t v, stOK)
    | 0x18 => (s.evpendWrite p.inst t v, stOK)
    | 0x1C => (s.timerWrite p.inst t v, stOK)
    | o => s.tskFieldWrite p.inst t (0x100 + o) v

def State.wdtWrite (s : State) (p : Page) (off : Nat) (v : Word) : State × Nat :=
  let frozen := off = 0x40 ∨ off = 0x44 ∨ off = 0x50 ∨ off = 0x54
  if off < 0x100 then
    if p.inst ≠ 0 then (s, stOK)
    else if frozen ∧ s.locked p then (s, stDenied)
    else match off with
      | 0x40 => (s.pkgCtrlWrite v, stOK)
      | 0x44 | 0x54 => (s.setReg p off v, stOK)
      | 0x48 => (s.pkgKick v, stOK)
      | 0x50 => (s.fabCtrlWrite v, stOK)
      | _ => (s, stOK)
  else if inArr off 0x100 2 0x20 then (s.wdtCtrlWrite (2 * p.inst + (off - 0x100) / 0x20) v, stOK)
  else if inArr off 0x10C 2 0x20 then (s.wdtKick (2 * p.inst + (off - 0x10C) / 0x20) v, stOK)
  else (s.setReg p off (if rwMask p off = 0 then s.reg p off else v), stOK)

/-- Who asks the granary through the command register (R414, R417). -/
def Who.grn (w : Who) (s : State) : GrnWho := if w.secure || w.rom s then .secure else if w.core.isSome then .core else .other

/-- A write to a register of the GRN page. An ARM outside its range keeps the old one.
(DESIGN CHOICE, log entry 101.) -/
def State.grnWrite (s : State) (p : Page) (off : Nat) (v : Word) (w : Who) : State × Nat :=
  match off with
  | 0x40 => (if bit v 31 then s.grnGo (fld v 0 3) (w.grn s) else s.setFld p 0x40 0 3 (fld v 0 3), stOK)
  | 0x5C => (if 60 ≤ fld v 0 8 ∧ fld v 0 8 ≤ 150 then s.setFld p 0x5C 0 8 (fld v 0 8) else s, stOK)
  | _ => (if rwMask p off = 0 then s else s.setReg p off (v &&& rwMask p off), stOK)

/-- PCIe, lanes, MACs, serial controllers and DMA engines (Tables 10-14, 18-10, 18-11). A rate of a lane outside its range
keeps the old one. A busy DMA engine takes no SRC, DST or LEN, and raises DMA_BUSY (R257).
(DESIGN CHOICE, log entry 101.) -/
def State.ifaceWrite (s : State) (p : Page) (off : Nat) (v : Word) : State × Nat :=
  let k := (off - 0x100) / 0x40
  let plain := (if rwMask p off = 0 then s else s.setReg p off (v &&& rwMask p off), stOK)
  match p.blk with
  | .pcie =>
    if off = 0x40 then
      let s := s.setReg p 0x40 (v &&& 0x7F#32)
      (if bit v 0 then s else s.pcieDown, stOK)
    else if inArr off 0x114 4 0x20 then
      let c := (off - 0x114) / 0x20
      let s := if s.hdmaBusy c then s else s.setReg p off (v &&& 3#32)
      (if bit v 31 then s.hdmaGo c else s, stOK)
    else plain
  | .xcv =>
    let l := 16 * p.inst + (off - 0x100) / 0x20
    if inArr off 0x100 16 0x20 then s.xcvCtrl l v
    else if inArr off 0x104 16 0x20 then (if 1250 ≤ fld v 0 15 ∧ fld v 0 15 ≤ 28100 then s.setReg p off (v &&& 0x7FFF#32) else s, stOK)
    else (s, stOK)
  | .uart => if inArr off 0x108 4 0x40 then (s.serPut k (v.extractLsb' 0 8), stOK) else plain
  | .spi =>
    if inArr off 0x108 6 0x40 then (s.serPut (4 + k) (v.extractLsb' 0 8), stOK)
    else if inArr off 0x104 6 0x40 then (s.spiXfer k v, stOK)
    else plain
  | .iic =>
    if inArr off 0x108 4 0x40 then (s.serPut (10 + k) (v.extractLsb' 0 8), stOK)
    else if inArr off 0x104 4 0x40 then (s.iicCmd k v false, stOK)
    else plain
  | .dma =>
    if 0x100 ≤ off ∧ off < 0x300 ∧ (off - 0x100) % 0x40 < 0x14 then
      if s.dmaBusy k then (s.raise dmaPage 1 (BitVec.ofNat 32 (0x02000000 + k * 2 ^ 20)) 0, stOK) else plain
    else if inArr off 0x114 8 0x40 then
      let s := s.setReg p off (v &&& 0xE#32)
      let s := if bit v 30 then s.dmaStop k else s
      (if bit v 31 then s.dmaGo k else s, stOK)
    else plain
  | _ => plain

/-- GOV registers (Table 9-7). PITCH, PHASE and WIDTH of an enabled trigger keep their values (R233). -/
def State.govWrite (s : State) (p : Page) (off : Nat) (v : Word) : State × Nat :=
  let a := (off - 0x100) / 0x40
  let t := (off - 0x200) / 0x20
  let plain := (if rwMask p off = 0 then s else s.setReg p off (v &&& rwMask p off), stOK)
  match off with
  | 0x48 => (s.tbRateWrite v, stOK)
  | 0x4C => (s.tbAdjWrite v, stOK)
  | 0x54 => s.tbSet v
  | _ =>
    if inArr off 0x100 4 0x40 then (s.axCtrlWrite a v, stOK)
    else if inArr off 0x104 4 0x40 then (s.axScaleWrite a v, stOK)
    else if inArr off 0x200 8 0x20 then s.ltWrite t v
    else if (inArr off 0x204 8 0x20 || inArr off 0x208 8 0x20 || inArr off 0x20C 8 0x20) && s.ltEnabled t then (s, stOK)
    else plain

/-- The axis in WAIT_REF or VALID that channel c feeds, the lowest if several do (R210, R235). -/
def State.encFeeds (s : State) (c : Nat) : Option Nat :=
  (List.range 4).find? fun a => (s.axCounts a c || s.axFrames a c) && (s.axState a == 1 || s.axState a == 2)

/-- ENC registers (Tables 9-12 to 9-14). CTRL, SSI and POLL of a channel that feeds an axis in WAIT_REF or VALID take no
write (R235); a reserved MODE makes a write of CTRL no write (R204). (DEDUCED, log entry 35.) -/
def State.encWrite (s : State) (p : Page) (off : Nat) (v : Word) : State × Nat :=
  let c := (off - 0x100) / 0x40
  if (inArr off 0x100 8 0x40 || inArr off 0x104 8 0x40 || inArr off 0x108 8 0x40) && (s.encFeeds c).isSome then
    (s.govEvent 4 ((s.encFeeds c).getD 0) 0 0, stOK)
  else if inArr off 0x100 8 0x40 then
    (if fld v 0 2 = 3 then s
     else
      let t := s.setReg p off (v &&& rwMask p off)
      if t.encMode c = s.encMode c then t else t.encChanged c (s.encMode c), stOK)
  else if inArr off 0x104 8 0x40 then
    let old := s.reg p off
    let s := if 19 ≤ fld v 8 12 ∧ fld v 8 12 ≤ 1999 then s.setFld p off 8 12 (fld v 8 12) else s
    let s := if 8 ≤ fld v 0 6 ∧ fld v 0 6 ≤ 48 then s.setFld p off 0 6 (fld v 0 6) else s
    let s := s.setFld p off 6 2 (fld v 6 2)
    (if s.reg p off = old then s else s.encChanged c (s.encMode c), stOK)
  else if inArr off 0x108 8 0x40 then
    let s := if fld v 0 16 = 0 then s else s.setFld p off 0 16 (fld v 0 16)
    (if fld v 16 8 = 0 then s else s.setFld p off 16 8 (fld v 16 8), stOK)
  else (if rwMask p off = 0 then s else s.setReg p off (v &&& rwMask p off), stOK)

def State.twnWrite (s : State) (off : Nat) (v : Word) : State × Nat :=
  match off with
  | 0x40 => (s.twnCtrlWrite v, stOK)
  | 0x48 => (s.twnLockedWrite off (v &&& 0xFFFFFF#32), stOK)
  | 0x4C => (s.setReg twnPage off (v &&& 0xFFFF#32), stOK)
  | 0x50 | 0x54 => (s.setReg twnPage off v, stOK)
  | 0x58 => (s.setReg twnPage off (v &&& 0xFFFFFF#32), stOK)
  | 0x5C => (if bit v 31 then s.switchGo else s, stOK)
  | _ => if inArr off 0x100 64 4 then (s.twnLockedWrite off (v &&& 0x800FFFFF#32), stOK) else (s, stOK)

/-- The DBG page takes writes of the debug master alone (R467). -/
def State.dbgWrite (s : State) (off : Nat) (v : Word) (w : Who) : State × Nat :=
  if !w.debug then (s, stDenied)
  else if off = 0x40 then (if bit v 0 then s.setBit dbgPage 0x40 0 false else s, stOK)
  else if off = 0x48 then (s.haltAll v, stOK)
  else if inArr off 0x100 4 0x20 then (s.coreCtrl ((off - 0x100) / 0x20) v, stOK)
  else if inArr off 0x10C 4 0x20 then
    let x := s.cregAccess ((off - 0x10C) / 0x20) (some v)
    (x.1, x.2.1)
  else (if rwMask dbgPage off = 0 then s else s.setReg dbgPage off (v &&& rwMask dbgPage off), stOK)

/-- A write to a block register: status. -/
def State.blockWrite (s : State) (p : Page) (off : Nat) (v : Word) (w : Who) : State × Nat :=
  let k := (off - 0x100) / 0x40
  let plain := (if rwMask p off = 0 then s else s.setReg p off (v &&& rwMask p off), stOK)
  match p.blk with
  | .rtr => if off = 0x48 then (s.writeClose p.inst (bit v 0), stOK) else plain
  | .cog => match off with
    | 0x40 => (s.cogCtrlWrite p.inst v, stOK)
    | 0x50 => s.cogSwapWrite p.inst v
    | 0x58 => s.cogTabWrite p.inst v
    | _ => plain
  | .qp =>
    if inArr off 0x100 32 0x40 then
      let s := s.qpWeir (p.inst * 32 + k) (v.extractLsb' 0 12)
      (if bit v 31 then s.qpFlush (p.inst * 32 + k) else s, stOK)
    else (s, stOK)
  | .qm => if off = 0x40 then (s.setBit p 0x40 0 (bit v 0), stOK) else (s, stOK)
  | .bank => if off = 0x40 then s.bankPwrReq p.inst (fld v 0 2) else (s, stOK)
  | .clk =>
    if inArr off 0x100 (if p.inst = 0 then 22 else 18) 8 then s.islWrite p.inst ((off - 0x100) / 8) v else (s, stOK)
  | .rst =>
    if p.inst ≠ 0 then (s, stOK)
    else if off = 0x40 then
      (if bit v 1 then s.capReset .cold 2 else if bit v 0 then s.capReset .warm 3 else s, stOK)
    else if off = 0x44 then
      ((List.range 8).foldl (fun s i => if bit v i then s.sailRequest (i + 1) else s) s, stOK)
    else (s, stOK)
  | .pwr =>
    if p.inst ≠ 0 then (s, stOK)
    else match off with
      | 0x40 => s.setpointWrite v
      | 0x48 => (if 80 ≤ fld v 0 8 ∧ fld v 0 8 ≤ 100 then s.setFld p 0x48 0 8 (fld v 0 8) else s, stOK)
      | 0x50 => (s.domWrite v, stOK)
      | _ => plain
  | .iob => s.iobWrite p off v
  | .fvl =>
    if off = 0x44 then
      let s := if fld v 0 2 = 0 then s else s.setFld p 0x44 0 2 (fld v 0 2)
      (match siteLink (p.inst / 16) (p.inst % 16) with
       | some l => if bit v 31 then s.retrainEnter l 9 else s
       | none => s, stOK)
    else (s, stOK)
  | .cfg => if off = 0x40 then (s.cfgCtrl v, stOK) else plain
  | .sec => s.secWrite off v w
  | .glc => s.glcWrite p off v w
  | .tsk => s.tskWrite p off v
  | .wdt => s.wdtWrite p off v
  | .grn => s.grnWrite p off v w
  | .pcie | .xcv | .eth | .uart | .spi | .iic | .dma => s.ifaceWrite p off v
  | .gov => s.govWrite p off v
  | .enc => s.encWrite p off v
  | .twn => s.twnWrite off v
  | .dbg => s.dbgWrite off v w
  | .trc => match off with
    | 0x40 => s.trcClaim w.node w.port (bit v 0)
    | 0x44 => s.trcOwned w.node w.port 0x44 (v &&& 3#32)
    | 0x4C => s.trcOwned w.node w.port 0x4C (v &&& 0xFFFF#32)
    | _ => (s, stOK)
  | _ => plain

/-! Accesses to pages (R478, R479, R483). -/

/-- The status that keeps an access from its page, none where the page answers (Table 6-6 rows 2 to 4): pages of the
router's island and of the control islands do not pass the gate (R481). (DEDUCED, log entry 96.) -/
def State.pageRefusal (s : State) (p : Page) : Option Nat :=
  let n := pageNode p
  let gated := isCapNode n && p.blk != .rtr && p.blk != .cog && p.blk != .prb
  let asleep : Bool := match domainBit p with
    | some i => s.power.off.getLsbD i || (match s.power.req with
      | some q => q.op == 1 && q.kind != 0 && q.asleep && i == offBit q.kind q.index
      | none => false)
    | none => false
  let closing : Bool := match s.power.req with
    | some q => q.op == 1 && q.kind != 0 && domainBit p == some (offBit q.kind q.index)
    | none => false
  -- a page whose island has never left reset answers with its header and reset values (R483)
  if !gated || !(s.router n).opened then none
  else if s.gate n = gateAsleep ∨ asleep then some stDestAsleep
  else if s.underTest p then some stUnderTest
  else if closing then some stEndpointClosed
  else s.gateStatus n

/-- A read of a register: status and value. -/
def State.regRead (s : State) (p : Page) (off : Nat) (w : Who) : State × Nat × Word :=
  if p.blk = .sec ∧ !s.rbit secPage 0x30 0 ∧ !w.rom s then (s, stDenied, 0)
  else if off < 0x40 then (s, stOK, s.headerRead p off)
  else if !s.enabledPage p then (s, stOK, s.resetValue p off)
  else s.blockRead p off w

/-- A write to a register: status. A LOCK of the SEC page and every header write there follow R294, of the DBG page
R467. -/
def State.regWrite (s : State) (p : Page) (off : Nat) (v : Word) (w : Who) : State × Nat :=
  if p.blk = .dbg ∧ !w.debug then (s, stDenied)
  else if p.blk = .sec ∧ off < 0x40 then
    (if w.rom s then s.headerWrite p off v w else (s, stDenied))
  else if off < 0x40 then s.headerWrite p off v w
  else if !s.enabledPage p then (s, stOK)
  else s.blockWrite p off v w

end Sys2Proof.Machine
end

