-- ==== Sys2Proof/Machine/Bus.lean ====
section
/-! DEFINITION. Accesses by package address to memory and registers alike (R20, R43, R44, R137), and the initiators that
commands drive: the debug master, SECACC, the host through BAR0, writes and reads of registers by name. -/

namespace Sys2Proof.Machine

/-! One access. -/

/-- The page and offset that a register address names, none where the node has no such page. -/
def pageOfAddr (a : Nat) : Option (Page × Nat) :=
  (pageAt (a / 2 ^ 40) (a / 0x1000 % 0x1000)).map fun p => (p, a % 0x1000)

/-- The address lies in a register window. -/
def isRegAddr (a : Nat) : Bool := decide (a / 2 ^ 40 ≠ 0xFF ∧ a % 2 ^ 40 < 0x1000000)

/-- The access breaks R43: address or length no multiple of 4, a length outside 4 to 2,048, a 4 KiB boundary crossed, or a
register access of other than 4 bytes. (DEDUCED, log entry 79.) -/
def badShape (a n : Nat) : Bool :=
  a % 4 != 0 || n % 4 != 0 || n < 4 || 2048 < n || a / 0x1000 != (a + n - 1) / 0x1000 || (isRegAddr a && n != 4)

/-- Status of an access up to the endpoint's checks: rows 1 to 6 of Table 6-6 for a register page.
(DEDUCED, log entry 13.) -/
def State.regStatus (s : State) (src a n : Nat) : Nat :=
  let node := a / 2 ^ 40
  if !s.reachable src node then stNodeAbsent
  else match pageOfAddr a with
    | some x => (s.pageRefusal x.1).getD (if badShape a n then stMalformed else stOK)
    | none =>
      if isRegionNode node then (if badShape a n then stMalformed else stUnmapped)
      else (s.gateStatus node).getD (if badShape a n then stMalformed else stUnmapped)

/-- Status of a memory access: a malformed one is told so after rows 1 to 4. -/
def State.busStatus (s : State) (w : Who) (a n : Nat) (write : Bool) : Nat :=
  if isRegAddr a then s.regStatus w.node a n
  else
    let st := s.memStatus w.node w.port a n write
    if badShape a n && (st == stOK || 6 ≤ st) then stMalformed else st

/-- A read of `n` bytes: status and data. -/
def State.busRead (s : State) (w : Who) (a n : Nat) : State × Nat × List Byte :=
  let st := s.busStatus w a n false
  let x : State × Nat × List Byte :=
    if st ≠ stOK then (s, st, [])
    else if isRegAddr a then
      match pageOfAddr a with
      | some x =>
        let y := s.regRead x.1 x.2 w
        (y.1, y.2.1, wordBytes y.2.2)
      | none => (s, stUnmapped, [])
    else s.memRead a n
  let y := x.1.accessEnd w.node a n x.2.1 false
  (y.1, y.2, if y.2 = stOK then x.2.2 else [])

/-- A write: status. -/
def State.busWrite (s : State) (w : Who) (a : Nat) (bs : List Byte) (posted : Bool) : State × Nat :=
  let n := bs.length
  let st := s.busStatus w a n true
  let x : State × Nat :=
    if st ≠ stOK then (s, st)
    else if isRegAddr a then
      match pageOfAddr a with
      | some x => s.regWrite x.1 x.2 (bytesWord bs) w
      | none => (s, stUnmapped)
    else s.memWrite a bs
  x.1.accessEnd w.node a n x.2 posted

/-- Words of a byte string, least significant byte first. -/
def bytesWords : Nat → List Byte → List Word
  | 0, _ => []
  | n + 1, l => if l.isEmpty then [] else bytesWord (l.take 4) :: bytesWords n (l.drop 4)

/-! The debug master (R466 to R468). -/

/-- A request that a bank holds during a handover (R244): the access stays outstanding. (DEDUCED, log entry 94.) -/
def State.heldAt (s : State) (w : Who) (a : Nat) : Option Nat :=
  match windowOf a 4 with
  | .bank b =>
    if s.reachable w.node (a / 2 ^ 40) && s.bankPending b && !s.underTest (bankPage b)
      && !ownerIs (s.bankKind b) (s.bankIndex b) w.node w.port then some b else none
  | _ => none

/-- An access of the debug master whose response does not come: BUSY until its time-out (R17, R466). -/
def State.debugWait (s : State) : State := s.setDebug { s.dbg with busy := true }

/-- The end of a debug-master access. (DEDUCED, log entry 94.) -/
def State.debugEnd (s : State) (status : Nat) (data : Option Word) : State :=
  let x := s.dbg
  if status = stNoResponse then s.debugWait
  else
    let s := s.setDebug { x with busy := false, dstatus := BitVec.ofNat 4 status, data := data.getD x.data }
    if status = stDenied then s.dbgEvent 1 0xFF stDenied else s

/-- An Update-DR of DBGACC: OP 0 NOP, 1 READ, 2 WRITE_NP, 3 WRITE. (DEDUCED, log entry 94.) -/
def State.dbgAccess (s : State) (op : Nat) (a : BitVec 48) (v : Word) : State :=
  if s.tapIr 0 ≠ 0x10 ∨ !s.dbgActs ∨ s.dbg.busy then s
  else
    let s := s.setDebug { s.dbg with op := BitVec.ofNat 2 op, addr := a, data := if op = 1 then s.dbg.data else v }
    let w : Who := ⟨0x77, if op = 1 ∧ s.rbit dbgPage 0x44 4 then 0x3E else 0x3F, false⟩
    let a := a.toNat
    if op = 0 then s
    else match s.heldAt w a with
      | some b =>
        let kind := if op = 1 then 3 else if op = 2 then 2 else 1
        let q := requestTo 0x77 w.port kind (s.rfld dbgPage 0x44 0 2) 0 a 4 (wordBytes v)
        (s.bankArrive b q).setDebug { s.dbg with busy := op != 3 }
      | none =>
        if op = 1 then
          let x := s.busRead w a 4
          (x.1.debugEnd x.2.1 (if x.2.1 = stOK then some (bytesWord x.2.2) else none)).allBoundaries
        else
          let x := s.busWrite w a (wordBytes v) (op == 3)
          (x.1.debugEnd (if op = 3 then stOK else x.2) none).allBoundaries

/-- What SECACC reaches (R467). -/
def secaccReach (a : Nat) (write : Bool) : Bool :=
  let sec := regAddr secPage 0
  let inPage := decide (sec ≤ a ∧ a < sec + 0x1000)
  let off := a - sec
  (inPage && (!write || off == 0x50 || off == 0x84 || off == 0x88))
    || decide (sramBase + 0xFB000 ≤ a ∧ a < sramBase + 0xFC000)

/-- An Update-DR of SECACC: the DBGACC register, no unlock needed. -/
def State.secAccess (s : State) (op : Nat) (a : BitVec 48) (v : Word) : State :=
  if s.tapIr 0 ≠ 0x11 ∨ !s.board.vccDbg ∨ s.dbg.busy then s
  else
    let s := s.setDebug { s.dbg with op := BitVec.ofNat 2 op, addr := a, data := if op = 1 then s.dbg.data else v }
    let w : Who := ⟨0x77, if op = 1 ∧ s.rbit dbgPage 0x44 4 then 0x3E else 0x3F, true⟩
    let a := a.toNat
    if op = 0 then s
    else if !secaccReach a (op != 1) then s.debugEnd stDenied none
    else if op = 1 then
      let x := s.busRead w a 4
      x.1.debugEnd x.2.1 (if x.2.1 = stOK then some (bytesWord x.2.2) else none)
    else
      let x := s.busWrite w a (wordBytes v) (op == 3)
      x.1.debugEnd (if op = 3 then stOK else x.2) none

/-! The host through BAR0 (R442). -/

/-- See the log (DEDUCED, log entry 89). -/
def barWho : Who := ⟨0x54, 0x31, false⟩

/-- Package address of an offset of function f's BAR0. -/
def State.barAddr (s : State) (f off : Nat) : Nat := s.rfld pciePage (0x48 + 4 * f) 0 20 * 2 ^ 28 + off

def State.bar0Write (s : State) (f off : Nat) (bs : List Byte) : State :=
  if s.pcieLink then (s.busWrite barWho (s.barAddr f off) bs true).1 else s

/-- A host read as BE READs: words of a register window one by one, memory in pieces that R43 allows (R442); the first that
fails ends it. (DEDUCED, log entry 89.) -/
def State.hostRead (s : State) (a n : Nat) : Nat → List Byte → State × Nat × List Byte
  | 0, l => (s, stOK, l)
  | fuel + 1, l =>
    let at_ := a + l.length
    let m := if isRegAddr at_ then min 4 (n - l.length) else min (n - l.length) (min 2048 (0x1000 - at_ % 0x1000))
    let x := s.busRead barWho at_ m
    if x.2.1 ≠ stOK ∨ n ≤ l.length + m then (x.1, x.2.1, l ++ x.2.2) else x.1.hostRead a n fuel (l ++ x.2.2)

/-- A read of BAR2 (R442): `CFG.BYTES`. -/
def State.bar2Read (s : State) : Word := s.reg cfgPage 0x58

/-- A host read: the completion's data, or Unsupported Request and Completer Abort as the status tells; no completion
where the response does not come. -/
def State.bar0Read (s : State) (f off n : Nat) : State :=
  if s.pcieLink then
    let x := s.hostRead (s.barAddr f off) n (n / 4 + 1) []
    let s := if x.2.1 = stOK ∨ x.2.1 = stNoResponse then x.1
      else if x.2.1 = stNodeAbsent ∨ x.2.1 = stUnmapped then x.1.bump pciePage 0x50
      else x.1.bump pciePage 0x54
    s.reply x.2.1 (bytesWords (n / 4 + 1) x.2.2)
  else s

/-! Registers by page (R478 to R489). -/

/-- A register access by page and offset from an initiator, with its answer; a page that no node carries is unmapped. -/
def State.pageWrite (s : State) (p : Page) (off : Nat) (v : Word) (w : Who) : State :=
  if pageExists p then
    let x := s.busWrite w (regAddr p off) (wordBytes v) false
    (x.1.reply x.2 []).allBoundaries
  else s.reply stUnmapped []

def State.pageRead (s : State) (p : Page) (off : Nat) (w : Who) : State :=
  if pageExists p then
    let x := s.busRead w (regAddr p off) 4
    (x.1.reply x.2.1 (bytesWords 1 x.2.2)).allBoundaries
  else s.reply stUnmapped []

/-! The commands. -/

def execDbgNop (a : BitVec 48) (v : Word) (s : State) : Host.Outcome State Fault Refusal := .next (s.dbgAccess 0 a v)
def execDbgRead (a : BitVec 48) (s : State) : Host.Outcome State Fault Refusal := .next (s.dbgAccess 1 a 0)
def execDbgWriteNp (a : BitVec 48) (v : Word) (s : State) : Host.Outcome State Fault Refusal := .next (s.dbgAccess 2 a v)
def execDbgWrite (a : BitVec 48) (v : Word) (s : State) : Host.Outcome State Fault Refusal := .next (s.dbgAccess 3 a v)

def execSecaccAccess (op : Fin 4) (a : BitVec 48) (v : Word) (s : State) : Host.Outcome State Fault Refusal :=
  .next (s.secAccess op.val a v)

/-- No response within 1 ms: STATUS 0xF. -/
def execDbgResponseTimeout (s : State) : Host.Outcome State Fault Refusal :=
  .next (if s.dbg.busy then s.setDebug { s.dbg with busy := false, dstatus := 0xF#4 } else s)

def execPcieBar0Write (f : Fin 2) (off : BitVec 28) (data : List Byte) (s : State) : Host.Outcome State Fault Refusal :=
  .next (s.bar0Write f.val off.toNat data).allBoundaries

def execPcieBar0Read (f : Fin 2) (off : BitVec 28) (n : BitVec 12) (s : State) : Host.Outcome State Fault Refusal :=
  .next (s.bar0Read f.val off.toNat n.toNat).allBoundaries

def execEvtPendClear (p : Page) (bits : Word) (node : BitVec 8) (port : BitVec 6) (s : State) :
    Host.Outcome State Fault Refusal :=
  .next (s.pageWrite p 0x18 bits ⟨node.toNat, port.toNat, false⟩)

def execEvtEnWrite (p : Page) (bits : Word) (node : BitVec 8) (port : BitVec 6) (s : State) :
    Host.Outcome State Fault Refusal :=
  .next (s.pageWrite p 0x14 bits ⟨node.toNat, port.toNat, false⟩)

def execErrClear (p : Page) (node : BitVec 8) (port : BitVec 6) (s : State) : Host.Outcome State Fault Refusal :=
  .next (s.pageWrite p 0x2C 1 ⟨node.toNat, port.toNat, false⟩)

def execLockSet (p : Page) (node : BitVec 8) (port : BitVec 6) (s : State) : Host.Outcome State Fault Refusal :=
  .next (s.pageWrite p 0x30 1 ⟨node.toNat, port.toNat, false⟩)

def execBlkEnable (p : Page) (on : Bool) (node : BitVec 8) (port : BitVec 6) (s : State) :
    Host.Outcome State Fault Refusal :=
  .next (s.pageWrite p 0x08 (BitVec.ofNat 32 (b2n on)) ⟨node.toNat, port.toNat, false⟩)

/-- BLK_CTRL written with ENABLE as it stands and one of its other bits. -/
def State.blkWord (s : State) (p : Page) (bits : Nat) : Word := BitVec.ofNat 32 (bits + b2n (s.enabledPage p))

def execBlkPowerWake (p : Page) (node : BitVec 8) (port : BitVec 6) (s : State) : Host.Outcome State Fault Refusal :=
  .next (s.pageWrite p 0x08 (s.blkWord p 0x10) ⟨node.toNat, port.toNat, false⟩)

def execBlkPowerSleep (p : Page) (node : BitVec 8) (port : BitVec 6) (s : State) : Host.Outcome State Fault Refusal :=
  .next (s.pageWrite p 0x08 (s.blkWord p 0x20) ⟨node.toNat, port.toNat, false⟩)

def execBlkPowerRetain (p : Page) (node : BitVec 8) (port : BitVec 6) (s : State) : Host.Outcome State Fault Refusal :=
  .next (s.pageWrite p 0x08 (s.blkWord p 0x30) ⟨node.toNat, port.toNat, false⟩)

def execBlkSoftReset (p : Page) (node : BitVec 8) (port : BitVec 6) (s : State) : Host.Outcome State Fault Refusal :=
  .next (s.pageWrite p 0x08 (s.blkWord p 2) ⟨node.toNat, port.toNat, false⟩)

/-- A read of a register, RC registers among them (Table 20-10). -/
def execRegReadClear (p : Page) (off : BitVec 12) (node : BitVec 8) (port : BitVec 6) (s : State) :
    Host.Outcome State Fault Refusal :=
  .next (s.pageRead p off.toNat ⟨node.toNat, port.toNat, false⟩)

/-- A write of four bytes at a package address. -/
def execRegisterWrite (a : BitVec 48) (v : Word) (posted : Bool) (node : BitVec 8) (port : BitVec 6) (s : State) :
    Host.Outcome State Fault Refusal :=
  let x := s.busWrite ⟨node.toNat, port.toNat, false⟩ a.toNat (wordBytes v) posted
  .next (x.1.reply (if posted then stOK else x.2) []).allBoundaries

end Sys2Proof.Machine
end

