-- ==== Sys2Proof/Machine/Cells.lean ====
section
/-! DEFINITION. The commands at cells: one micro-instruction each (R50, R73, R80 to R84, Table 4-7), and a result
landing. Each runs in its region's present cycle. -/

namespace Sys2Proof.Machine

/-- A result issued earlier lands in its destination and drives its outputs (R50, R51). -/
def execCellResultLand (a : CellAt) (s : State) : Host.Outcome State Fault Refusal :=
  .next (if s.rgnActive a.region.val then s.landCell a else s)

/-- NOP does nothing and drives no output. -/
def execCellNop (a : CellAt) (f : Fields) (s : State) : Host.Outcome State Fault Refusal :=
  cellOutcome s a 0x00#6 f cellNop

/-- MOV passes operand A. -/
def execCellMov (a : CellAt) (f : Fields) (s : State) : Host.Outcome State Fault Refusal :=
  cellOutcome s a 0x01#6 f cellMov

/-- ADD computes A + B. -/
def execCellAdd (a : CellAt) (f : Fields) (s : State) : Host.Outcome State Fault Refusal :=
  cellOutcome s a 0x02#6 f cellAdd

/-- ADDC computes A + B + C. -/
def execCellAddc (a : CellAt) (f : Fields) (s : State) : Host.Outcome State Fault Refusal :=
  cellOutcome s a 0x03#6 f cellAddc

/-- ADDW computes A + B plus the west carry. -/
def execCellAddw (a : CellAt) (f : Fields) (s : State) : Host.Outcome State Fault Refusal :=
  cellOutcome s a 0x04#6 f cellAddw

/-- SUB computes A − B. -/
def execCellSub (a : CellAt) (f : Fields) (s : State) : Host.Outcome State Fault Refusal :=
  cellOutcome s a 0x05#6 f cellSub

/-- SUBC computes A + ~B + C. -/
def execCellSubc (a : CellAt) (f : Fields) (s : State) : Host.Outcome State Fault Refusal :=
  cellOutcome s a 0x06#6 f cellSubc

/-- SUBW computes A + ~B plus the west carry. -/
def execCellSubw (a : CellAt) (f : Fields) (s : State) : Host.Outcome State Fault Refusal :=
  cellOutcome s a 0x07#6 f cellSubw

/-- ADDI adds a 5-bit immediate. -/
def execCellAddi (a : CellAt) (f : Fields) (s : State) : Host.Outcome State Fault Refusal :=
  cellOutcome s a 0x08#6 f cellAddi

/-- SUBI subtracts a 5-bit immediate. -/
def execCellSubi (a : CellAt) (f : Fields) (s : State) : Host.Outcome State Fault Refusal :=
  cellOutcome s a 0x09#6 f cellSubi

/-- ABS gives the signed absolute value of A. -/
def execCellAbs (a : CellAt) (f : Fields) (s : State) : Host.Outcome State Fault Refusal :=
  cellOutcome s a 0x0A#6 f cellAbs

/-- SEL gives A when P is 1, else B. -/
def execCellSel (a : CellAt) (f : Fields) (s : State) : Host.Outcome State Fault Refusal :=
  cellOutcome s a 0x0B#6 f cellSel

/-- MIN gives the signed minimum. -/
def execCellMin (a : CellAt) (f : Fields) (s : State) : Host.Outcome State Fault Refusal :=
  cellOutcome s a 0x0C#6 f cellMin

/-- MAX gives the signed maximum. -/
def execCellMax (a : CellAt) (f : Fields) (s : State) : Host.Outcome State Fault Refusal :=
  cellOutcome s a 0x0D#6 f cellMax

/-- MINU gives the unsigned minimum. -/
def execCellMinu (a : CellAt) (f : Fields) (s : State) : Host.Outcome State Fault Refusal :=
  cellOutcome s a 0x0E#6 f cellMinu

/-- MAXU gives the unsigned maximum. -/
def execCellMaxu (a : CellAt) (f : Fields) (s : State) : Host.Outcome State Fault Refusal :=
  cellOutcome s a 0x0F#6 f cellMaxu

/-- CMPEQ sets P to A = B. -/
def execCellCmpeq (a : CellAt) (f : Fields) (s : State) : Host.Outcome State Fault Refusal :=
  cellOutcome s a 0x10#6 f cellCmpeq

/-- CMPNE sets P to A ≠ B. -/
def execCellCmpne (a : CellAt) (f : Fields) (s : State) : Host.Outcome State Fault Refusal :=
  cellOutcome s a 0x11#6 f cellCmpne

/-- CMPLT sets P to signed A < B. -/
def execCellCmplt (a : CellAt) (f : Fields) (s : State) : Host.Outcome State Fault Refusal :=
  cellOutcome s a 0x12#6 f cellCmplt

/-- CMPLE sets P to signed A ≤ B. -/
def execCellCmple (a : CellAt) (f : Fields) (s : State) : Host.Outcome State Fault Refusal :=
  cellOutcome s a 0x13#6 f cellCmple

/-- CMPLTU sets P to unsigned A < B. -/
def execCellCmpltu (a : CellAt) (f : Fields) (s : State) : Host.Outcome State Fault Refusal :=
  cellOutcome s a 0x14#6 f cellCmpltu

/-- CMPLEU sets P to unsigned A ≤ B. -/
def execCellCmpleu (a : CellAt) (f : Fields) (s : State) : Host.Outcome State Fault Refusal :=
  cellOutcome s a 0x15#6 f cellCmpleu

/-- CMPLTW ends a signed wide compare using the west carry. -/
def execCellCmpltw (a : CellAt) (f : Fields) (s : State) : Host.Outcome State Fault Refusal :=
  cellOutcome s a 0x16#6 f cellCmpltw

/-- CMPLTUW ends an unsigned wide compare using the west carry. -/
def execCellCmpltuw (a : CellAt) (f : Fields) (s : State) : Host.Outcome State Fault Refusal :=
  cellOutcome s a 0x17#6 f cellCmpltuw

/-- AND computes A and B. -/
def execCellAnd (a : CellAt) (f : Fields) (s : State) : Host.Outcome State Fault Refusal :=
  cellOutcome s a 0x18#6 f cellAnd

/-- OR computes A or B. -/
def execCellOr (a : CellAt) (f : Fields) (s : State) : Host.Outcome State Fault Refusal :=
  cellOutcome s a 0x19#6 f cellOr

/-- XOR computes A xor B. -/
def execCellXor (a : CellAt) (f : Fields) (s : State) : Host.Outcome State Fault Refusal :=
  cellOutcome s a 0x1A#6 f cellXor

/-- ANDN computes A and not B. -/
def execCellAndn (a : CellAt) (f : Fields) (s : State) : Host.Outcome State Fault Refusal :=
  cellOutcome s a 0x1B#6 f cellAndn

/-- SHL shifts A left by B[4:0]. -/
def execCellShl (a : CellAt) (f : Fields) (s : State) : Host.Outcome State Fault Refusal :=
  cellOutcome s a 0x1C#6 f cellShl

/-- SHR shifts A right logically by B[4:0]. -/
def execCellShr (a : CellAt) (f : Fields) (s : State) : Host.Outcome State Fault Refusal :=
  cellOutcome s a 0x1D#6 f cellShr

/-- SAR shifts A right arithmetically by B[4:0]. -/
def execCellSar (a : CellAt) (f : Fields) (s : State) : Host.Outcome State Fault Refusal :=
  cellOutcome s a 0x1E#6 f cellSar

/-- ROL rotates A left by B[4:0]. -/
def execCellRol (a : CellAt) (f : Fields) (s : State) : Host.Outcome State Fault Refusal :=
  cellOutcome s a 0x1F#6 f cellRol

/-- SHLI shifts A left by an immediate. -/
def execCellShli (a : CellAt) (f : Fields) (s : State) : Host.Outcome State Fault Refusal :=
  cellOutcome s a 0x20#6 f cellShli

/-- SHRI shifts A right logically by an immediate. -/
def execCellShri (a : CellAt) (f : Fields) (s : State) : Host.Outcome State Fault Refusal :=
  cellOutcome s a 0x21#6 f cellShri

/-- SARI shifts A right arithmetically by an immediate. -/
def execCellSari (a : CellAt) (f : Fields) (s : State) : Host.Outcome State Fault Refusal :=
  cellOutcome s a 0x22#6 f cellSari

/-- POPC counts the 1 bits of A. -/
def execCellPopc (a : CellAt) (f : Fields) (s : State) : Host.Outcome State Fault Refusal :=
  cellOutcome s a 0x23#6 f cellPopc

/-- LD reads a tile-memory word, latency 2, with an optional pointer post-increment. -/
def execCellLd (a : CellAt) (f : Fields) (s : State) : Host.Outcome State Fault Refusal :=
  cellOutcome s a 0x24#6 f cellLd

/-- ST writes operand A to tile memory at the end of the issue cycle. -/
def execCellSt (a : CellAt) (f : Fields) (s : State) : Host.Outcome State Fault Refusal :=
  cellOutcome s a 0x25#6 f cellSt

/-- TAGRD reads the tag of an input word as data. -/
def execCellTagrd (a : CellAt) (f : Fields) (s : State) : Host.Outcome State Fault Refusal :=
  cellOutcome s a 0x26#6 f cellTagrd

/-- TAGOUT drives A with the tag taken from B[5:0]. -/
def execCellTagout (a : CellAt) (f : Fields) (s : State) : Host.Outcome State Fault Refusal :=
  cellOutcome s a 0x27#6 f cellTagout

/-- MUL gives the low 32 bits of A × B. -/
def execCellMul (a : CellAt) (f : Fields) (s : State) : Host.Outcome State Fault Refusal :=
  cellOutcome s a 0x28#6 f cellMul

/-- MULH gives the signed high 32 bits of the product. -/
def execCellMulh (a : CellAt) (f : Fields) (s : State) : Host.Outcome State Fault Refusal :=
  cellOutcome s a 0x29#6 f cellMulh

/-- MULHU gives the unsigned high 32 bits of the product. -/
def execCellMulhu (a : CellAt) (f : Fields) (s : State) : Host.Outcome State Fault Refusal :=
  cellOutcome s a 0x2A#6 f cellMulhu

/-- MAC adds a signed 32 × 32 product to acc. -/
def execCellMac (a : CellAt) (f : Fields) (s : State) : Host.Outcome State Fault Refusal :=
  cellOutcome s a 0x2B#6 f cellMac

/-- MACU adds an unsigned 32 × 32 product to acc. -/
def execCellMacu (a : CellAt) (f : Fields) (s : State) : Host.Outcome State Fault Refusal :=
  cellOutcome s a 0x2C#6 f cellMacu

/-- MSU subtracts a signed product from acc. -/
def execCellMsu (a : CellAt) (f : Fields) (s : State) : Host.Outcome State Fault Refusal :=
  cellOutcome s a 0x2D#6 f cellMsu

/-- MUL.H gives the low 16 bits of each 16-bit lane product. -/
def execCellMulH (a : CellAt) (f : Fields) (s : State) : Host.Outcome State Fault Refusal :=
  cellOutcome s a 0x2E#6 f cellMulH

/-- ACCRD rounds, shifts and saturates acc to 32 bits. -/
def execCellAccrd (a : CellAt) (f : Fields) (s : State) : Host.Outcome State Fault Refusal :=
  cellOutcome s a 0x2F#6 f cellAccrd

/-- ADD.H adds 16-bit lanes modulo 2^16. -/
def execCellAddH (a : CellAt) (f : Fields) (s : State) : Host.Outcome State Fault Refusal :=
  cellOutcome s a 0x30#6 f cellAddH

/-- SUB.H subtracts 16-bit lanes modulo 2^16. -/
def execCellSubH (a : CellAt) (f : Fields) (s : State) : Host.Outcome State Fault Refusal :=
  cellOutcome s a 0x31#6 f cellSubH

/-- ADDS.H adds 16-bit lanes with signed saturation. -/
def execCellAddsH (a : CellAt) (f : Fields) (s : State) : Host.Outcome State Fault Refusal :=
  cellOutcome s a 0x32#6 f cellAddsH

/-- SUBS.H subtracts 16-bit lanes with signed saturation. -/
def execCellSubsH (a : CellAt) (f : Fields) (s : State) : Host.Outcome State Fault Refusal :=
  cellOutcome s a 0x33#6 f cellSubsH

/-- MIN.H gives the signed minimum per 16-bit lane. -/
def execCellMinH (a : CellAt) (f : Fields) (s : State) : Host.Outcome State Fault Refusal :=
  cellOutcome s a 0x34#6 f cellMinH

/-- MAX.H gives the signed maximum per 16-bit lane. -/
def execCellMaxH (a : CellAt) (f : Fields) (s : State) : Host.Outcome State Fault Refusal :=
  cellOutcome s a 0x35#6 f cellMaxH

/-- CMPLT.H gives a lane mask of signed A < B and sets P. -/
def execCellCmpltH (a : CellAt) (f : Fields) (s : State) : Host.Outcome State Fault Refusal :=
  cellOutcome s a 0x36#6 f cellCmpltH

/-- MAC.H adds two 16 × 16 lane products to acc. -/
def execCellMacH (a : CellAt) (f : Fields) (s : State) : Host.Outcome State Fault Refusal :=
  cellOutcome s a 0x37#6 f cellMacH

/-- ADD.B adds 8-bit lanes modulo 2^8. -/
def execCellAddB (a : CellAt) (f : Fields) (s : State) : Host.Outcome State Fault Refusal :=
  cellOutcome s a 0x38#6 f cellAddB

/-- SUB.B subtracts 8-bit lanes modulo 2^8. -/
def execCellSubB (a : CellAt) (f : Fields) (s : State) : Host.Outcome State Fault Refusal :=
  cellOutcome s a 0x39#6 f cellSubB

/-- ADDUS.B adds 8-bit lanes with unsigned saturation. -/
def execCellAddusB (a : CellAt) (f : Fields) (s : State) : Host.Outcome State Fault Refusal :=
  cellOutcome s a 0x3A#6 f cellAddusB

/-- SUBUS.B subtracts 8-bit lanes with unsigned saturation. -/
def execCellSubusB (a : CellAt) (f : Fields) (s : State) : Host.Outcome State Fault Refusal :=
  cellOutcome s a 0x3B#6 f cellSubusB

/-- MINU.B gives the unsigned minimum per 8-bit lane. -/
def execCellMinuB (a : CellAt) (f : Fields) (s : State) : Host.Outcome State Fault Refusal :=
  cellOutcome s a 0x3C#6 f cellMinuB

/-- MAXU.B gives the unsigned maximum per 8-bit lane. -/
def execCellMaxuB (a : CellAt) (f : Fields) (s : State) : Host.Outcome State Fault Refusal :=
  cellOutcome s a 0x3D#6 f cellMaxuB

/-- MAC.B adds four unsigned-by-signed 8-bit products to acc. -/
def execCellMacB (a : CellAt) (f : Fields) (s : State) : Host.Outcome State Fault Refusal :=
  cellOutcome s a 0x3E#6 f cellMacB

/-- SAD.B adds the sum of absolute 8-bit lane differences to acc. -/
def execCellSadB (a : CellAt) (f : Fields) (s : State) : Host.Outcome State Fault Refusal :=
  cellOutcome s a 0x3F#6 f cellSadB

end Sys2Proof.Machine
end

