-- ==== Sys2Proof/Machine/CoreExec.lean ====
section
/-! DEFINITION. The instructions of the Glaette cores (R377 to R399, R470, R471). A command carries its instruction's
operands; the core runs it at its PC. -/

namespace Sys2Proof.Machine

/-! One instruction. -/

/-- How an instruction ends: at the next one, at a target, in a trap (code, detail, XADDR, whether XPC is the next
instruction), at the same PC, or waiting for an access whose target does not answer yet (core address). -/
inductive Eff where
  | next
  | jump (target : Word)
  | trap (code detail : Nat) (xaddr : Word) (after : Bool)
  | stay
  | wait (a : Nat)
  deriving DecidableEq, Repr

/-- The core executes instructions: it runs a task, is powered, no access of it is outstanding, and no tamper HALT is in
force. -/
def State.coreReady (s : State) (c : Nat) : Bool :=
  s.coreRun c == 1 && (s.core c).task.isSome && (s.core c).bus.isNone && !s.sec.halt && !s.power.off.getLsbD c

/-- An enabled comparator names the PC (R471). A step runs past it. (DEDUCED, log entry 94.) -/
def State.atBreak (s : State) (c : Nat) : Bool :=
  s.board.vccDbg && !(s.core c).stepping &&
    [0, 1].any fun k =>
      let w := s.reg dbgPage (dbgOff c (0x110 + 4 * k))
      bit w 0 && (w &&& ~~~3#32) == s.cpc c

/-- The trap that the fetch at the PC takes, none where the instruction may run (R385, R390, R392).
(DEDUCED, log entry 74.) -/
def State.fetchTrap (s : State) (c : Nat) : Option Eff :=
  let pc := s.cpc c
  let t := (s.core c).task.getD 0
  if fld pc 0 2 ≠ 0 then some (.trap 5 0 pc false)
  else match s.mpu c t pc.toNat 2 (s.corePriv c) with
    | none => some (.trap 2 0 pc false)
    | some _ =>
      match s.coreTarget c pc.toNat with
      | .none => some (.trap 6 0xE pc false)
      | .aperture p =>
        let st := s.busStatus ⟨coreNode c, s.corePort c, false⟩ p 4 false
        let st := s.seen (coreNode c) p 4 st
        if st = stOK then none else if st = stUnderTest ∨ st = stNoResponse then some (.wait pc.toNat)
        else some (.trap 6 st pc false)
      | _ => none

/-- The fetched line enters the instruction cache where its region is cacheable. (DEDUCED, log entry 74.) -/
def State.fetchLine (s : State) (c : Nat) : State :=
  let a := (s.cpc c).toNat
  match s.mpu c ((s.core c).task.getD 0) a 2 (s.corePriv c) with
  | some m => if m.cached && (s.corePkg c a).isSome then s.icacheIn c a else s
  | none => s

/-- The core still runs the task it ran. -/
def State.stillRuns (s : State) (c : Nat) (t : Option Nat) : Bool := s.coreRun c == 1 && (s.core c).task == t

/-- The end of an instruction that began at `pc` in task `t`. -/
def State.finish (s : State) (c : Nat) (t : Option Nat) (pc : Word) (e : Eff) : State :=
  if !s.stillRuns c t then s
  else match e with
    | .next => s.setCpc c (pc + 4)
    | .jump a => s.setCpc c a
    | .trap code detail xaddr after => s.trap c code detail xaddr (if after then pc + 4 else pc)
    | .stay => s
    | .wait a => s.setCore c { s.core c with bus := some (a, 0) }

/-- MACT is cleared when the instruction at the PC is neither STM nor LDM (R395). -/
def State.clearMact (s : State) (c : Nat) : State := s.setCst c (s.cst c &&& ~~~0x3F00#32)

/-- One instruction on core c. `multi` tells LDM and STM. (DEDUCED, log entry 74.) -/
def State.instr (s : State) (c : Nat) (multi : Bool) (body : State → State × Eff) : State :=
  if !s.coreReady c then s
  else if s.atBreak c then s.haltCore c 2
  else
    let t := (s.core c).task
    let pc := s.cpc c
    match s.fetchTrap c with
    | some e => ((s.finish c t pc e).stepEnd c).allBoundaries
    | none =>
      let s := s.fetchLine c
      let s := if multi then s else s.clearMact c
      let x := body s
      ((x.1.finish c t pc x.2).stepEnd c).allBoundaries

/-! Operands, results and flags (R383, R386). -/

/-- Flags as ST holds them: Z, N, C, V in bits 0 to 3. -/
def stBits (f : Flags) : Nat := b2n f.z + b2n f.n * 2 + b2n f.c * 4 + b2n f.v * 8

/-- The flags that `mask` names are written. -/
def State.setStFlags (s : State) (c : Nat) (mask : Nat) (f : Flags) : State :=
  let m := BitVec.ofNat 32 mask
  s.setCst c ((s.cst c &&& ~~~m) ||| (BitVec.ofNat 32 (stBits f) &&& m))

def mZ : Nat := 1
def mZN : Nat := 3
def mAll : Nat := 15

/-- Signed and zero-extended immediates. -/
def simm (i : BitVec 16) : Word := i.signExtend 32
def zimm (i : BitVec 16) : Word := i.setWidth 32

/-- An ALU instruction: the result to rd, and the flags that `mask` names where S is 1. -/
def State.alu (s : State) (c : Nat) (rd : BitVec 5) (r : Word) (sf : Bool) (mask : Nat) (f : Flags) : State :=
  s.instr c false fun s =>
    let s := s.setCreg c rd r
    (if sf then s.setStFlags c mask f else s, .next)

/-- An ALU instruction of two registers. -/
def State.alu2 (s : State) (c : Nat) (rd ra rb : BitVec 5) (sf : Bool) (mask : Nat) (f : Word → Word → Word × Flags) : State :=
  let r := f (s.creg c ra) (s.creg c rb)
  s.alu c rd r.1 sf mask r.2

/-- A function whose flags are Z and N of its result. -/
def zn (f : Word → Word → Word) (a b : Word) : Word × Flags := (f a b, znOf (f a b))

/-- An instruction with an immediate: no flags. -/
def State.aluImm (s : State) (c : Nat) (rd : BitVec 5) (r : Word) : State := s.alu c rd r false 0 (znOf r)

/-- Shifts by the low five bits. -/
def shl5 (a b : Word) : Word := a <<< (fld b 0 5)
def shr5 (a b : Word) : Word := a >>> (fld b 0 5)
def sar5 (a b : Word) : Word := a.sshiftRight (fld b 0 5)

def bool32 (b : Bool) : Word := BitVec.ofNat 32 (b2n b)

/-- Products of 64 bits, high half. -/
def mulhS (a b : Word) : Word := ((a.signExtend 64 * b.signExtend 64) >>> 32).setWidth 32
def mulhU (a b : Word) : Word := ((a.setWidth 64 * b.setWidth 64) >>> 32).setWidth 32

/-- Division truncates; divisor 0 and overflow as Table 16-6 says. -/
def divS (a b : Word) : Word :=
  if b = 0 then 0xFFFFFFFF#32 else if a = 0x80000000#32 ∧ b = 0xFFFFFFFF#32 then 0x80000000#32 else a.sdiv b
def divU (a b : Word) : Word := if b = 0 then 0xFFFFFFFF#32 else a.udiv b
def remS (a b : Word) : Word := if b = 0 then a else if a = 0x80000000#32 ∧ b = 0xFFFFFFFF#32 then 0 else a.srem b
def remU (a b : Word) : Word := if b = 0 then a else a.umod b

/-- A condition of B on ST (Table 16-8). -/
def branchTaken (st : Word) (cond : Nat) : Bool :=
  let z := bit st 0
  let n := bit st 1
  let c := bit st 2
  let v := bit st 3
  match cond with
  | 0 => z | 1 => !z | 2 => n != v | 3 => n == v | 4 => !c | 5 => c
  | 6 => !z && n == v | 7 => z || n != v | 8 => c && !z | 9 => !c || z
  | 10 => n | 11 => !n | 12 => v | 13 => !v | _ => true

/-! Loads and stores (R385, R390 to R396). -/

/-- Data of an access that does not go through the cache. An access to memory below word size moves its bytes of a word;
one to a register page breaks R43. (DEDUCED, log entry 74; DEDUCED, log entry 79.) -/
def State.directRead (s : State) (c a n : Nat) : State × Nat × List Byte :=
  let w : Who := ⟨coreNode c, s.corePort c, false⟩
  match s.coreTarget c a with
  | .sram => (s, stOK, s.readBytes (sramBase + a) n)
  | .rom => let x := s.takeFree; (x.2, stOK, (wordBytes x.1).take n)
  | .none => (s, 0xE, [])
  | .aperture p =>
    if n = 4 then s.busRead w p 4
    else if isRegAddr p then
      let st := s.regStatus w.node p n
      (s.countRefusal w.node p n st false, st, [])
    else
      let x := s.busRead w (p - p % 4) 4
      (x.1, x.2.1, (x.2.2.drop (p % 4)).take n)

/-- A cached region over a register page asks for a whole line there, which breaks R43. -/
def State.lineRefused (s : State) (c a : Nat) (m : MemAttr) : Option Nat :=
  match s.coreTarget c a with
  | .aperture p => if m.cached && isRegAddr p then some (s.regStatus (coreNode c) (p - p % 64) 64) else none
  | _ => none

/-- A dirty line at the address has an uncorrectable error, as the command tells (R393). (DEDUCED, log entry 78.) -/
def State.dirtyBad (s : State) (c a : Nat) (m : MemAttr) (bad : Bool) : Bool :=
  bad && m.cached && (match (s.core c).dfind (a / 64) with | some l => l.dirty | none => false)

/-- A clean line with an uncorrectable error is fetched again (R393). (DEDUCED, log entry 78.) -/
def State.refetch (s : State) (c a : Nat) (m : MemAttr) (bad : Bool) : State :=
  if bad && m.cached && ((s.core c).dfind (a / 64)).isSome then s.cacheDrop c a else s

/-- The outcome of a load's or store's status: a target under test is tried again, and a response that does not come is
waited for (R394). -/
def statusEff (a st : Nat) (ok : Eff) : Eff :=
  if st = stOK then ok else if st = stUnderTest ∨ st = stNoResponse then .wait a else .trap 6 st (BitVec.ofNat 32 a) false

/-- A load of `n` bytes at a core address: status in `Eff`, data. -/
def State.load (s : State) (c a n : Nat) (bad : Bool) : State × Eff × List Byte :=
  let x := BitVec.ofNat 32 a
  if a % n ≠ 0 then (s, .trap 5 0 x false, [])
  else match s.mpu c ((s.core c).task.getD 0) a 0 (s.corePriv c) with
    | none => (s, .trap 3 0 x false, [])
    | some m =>
      if s.dirtyBad c a m bad then (s, .trap 11 0 x false, [])
      else match s.lineRefused c a m with
        | some st => (s, statusEff a st .next, [])
        | none =>
          let w : Who := ⟨coreNode c, s.corePort c, false⟩
          let held : Bool := match s.coreTarget c a with
            | .aperture p => (s.heldAt w (p - p % 4)).isSome
            | _ => false
          if held then (s, .wait a, [])
          else
            let s := s.refetch c a m bad
            let r := if m.cached && (s.corePkg c a).isSome then s.coreRead c a n m else s.directRead c a n
            (r.1, statusEff a r.2.1 .next, r.2.2)

/-- Bytes written past the cache. A posted store's failure counts at its target alone. (DEDUCED, log entry 79.) -/
def State.directWrite (s : State) (c a : Nat) (bs : List Byte) (np : Bool) : State × Nat :=
  let w : Who := ⟨coreNode c, s.corePort c, false⟩
  match s.coreTarget c a with
  | .sram =>
    let mine := s.reserved c
    ((s.writeMem (sramBase + a) bs).setResv c mine, stOK)
  | .aperture p =>
    let x :=
      if bs.length = 4 then s.busWrite w p bs (!np)
      else if isRegAddr p then
        let st := s.regStatus w.node p bs.length
        (s.countRefusal w.node p bs.length st (!np), st)
      else
        -- the bytes of a word that the store names
        let st := s.busStatus w (p - p % 4) 4 true
        let y := if st = stOK then s.memWrite p bs else (s, st)
        y.1.accessEnd w.node p bs.length y.2 (!np)
    (x.1, if np then x.2 else stOK)
  | _ => (s, 0xE)

/-- A store: through the cache where its region says so. (DEDUCED, log entry 80.) -/
def State.storeTo (s : State) (c a : Nat) (bs : List Byte) (bad : Bool) : State × Eff :=
  let x := BitVec.ofNat 32 a
  if a % bs.length ≠ 0 then (s, .trap 5 0 x false)
  else match s.mpu c ((s.core c).task.getD 0) a 1 (s.corePriv c) with
    | none => (s, .trap 4 0 x false)
    | some m =>
      if s.dirtyBad c a m bad then (s, .trap 11 0 x false)
      else
        let w : Who := ⟨coreNode c, s.corePort c, false⟩
        let held : Option Nat := match s.coreTarget c a with
          | .aperture p => if m.cached && !m.through then none else s.heldAt w (p - p % 4)
          | _ => none
        match held with
        | some b =>
          if m.np then (s, .wait a)
          else match s.coreTarget c a with
            | .aperture p => (s.bankArrive b (requestTo w.node w.port 1 (s.apPrio c a) 0 p bs.length bs), .next)
            | _ => (s, .next)
        | none =>
          let s := s.refetch c a m bad
          if m.cached && !m.through && (s.corePkg c a).isSome then
            match s.lineRefused c a m with
            | some st => (s, statusEff a st .next)
            | none =>
              let r := s.coreWrite c a bs m
              (r.1, statusEff a r.2 .next)
          else
            let s := if m.cached then
                match (s.core c).dfind (a / 64) with
                | some l => s.setCore c ((s.core c).putDset (a / 64)
                    ({ l with data := patch l.data (a % 64) bs } :: ((s.core c).dset (a / 64)).filter (·.line != a / 64)))
                | none => s
              else s
            let r := s.directWrite c a bs m.np
            (r.1, statusEff a r.2 .next)

/-- A load instruction. -/
def State.loadInstr (s : State) (c n : Nat) (rd ra : BitVec 5) (imm : BitVec 16) (bad : Bool) (f : List Byte → Word) : State :=
  s.instr c false fun s =>
    let r := s.load c (s.creg c ra + simm imm).toNat n bad
    (if r.2.1 = .next then r.1.setCreg c rd (f r.2.2) else r.1, r.2.1)

/-- A store instruction. -/
def State.storeInstr (s : State) (c n : Nat) (rd ra : BitVec 5) (imm : BitVec 16) (bad : Bool) : State :=
  s.instr c false fun s => s.storeTo c (s.creg c ra + simm imm).toNat ((wordBytes (s.creg c rd)).take n) bad

def sextB (l : List Byte) : Word := (l.getD 0 0).signExtend 32
def zextB (l : List Byte) : Word := (l.getD 0 0).setWidth 32
def sextH (l : List Byte) : Word := (l.getD 1 0 ++ l.getD 0 0).signExtend 32
def zextH (l : List Byte) : Word := (l.getD 1 0 ++ l.getD 0 0).setWidth 32

/-- LDL: a load that reserves its line in core SRAM (R396). -/
def State.ldl (s : State) (c : Nat) (rd ra : BitVec 5) (imm : BitVec 16) (bad : Bool) : State :=
  s.instr c false fun s =>
    let a := (s.creg c ra + simm imm).toNat
    let r := s.load c a 4 bad
    if r.2.1 = .next then
      let s := r.1.setCreg c rd (bytesWord r.2.2)
      (s.setResv c (if a < 0x100000 then some ((sramBase + a) / 64) else none), .next)
    else (r.1, r.2.1)

/-- STC: stores and answers 1 while a reservation is held; outside core SRAM it fails. (DEDUCED, log entry 77.) -/
def State.stc (s : State) (c : Nat) (rd ra rb : BitVec 5) (bad : Bool) : State :=
  s.instr c false fun s =>
    let a := (s.creg c ra).toNat
    if a % 4 ≠ 0 then (s, .trap 5 0 (BitVec.ofNat 32 a) false)
    else if (s.reserved c).isNone || 0x100000 ≤ a then ((s.setResv c none).setCreg c rd 0, .next)
    else
      let r := s.storeTo c a (wordBytes (s.creg c rb)) bad
      if r.2 = .next then ((r.1.setResv c none).setCreg c rd 1, .next) else r

/-! Multiple transfers (R395). -/

/-- The register of a mask bit: p, w, q in order; codes 8 to 31. -/
def multReg (i : Nat) : BitVec 5 := BitVec.ofNat 5 (8 + i)

/-- MACT and MIDX name a transfer. -/
def State.setMidx (s : State) (c i : Nat) : State := s.setCst c ((s.cst c &&& ~~~0x3F00#32) ||| BitVec.ofNat 32 (0x100 + i * 0x200))

/-- Transfers of the mask bits in `l`, in order; `k` of them may be made before the instruction breaks off.
(DEDUCED, log entry 78.) -/
def State.transfers (s : State) (c : Nat) (base : BitVec 5) (isStore bad : Bool) : List Nat → Nat → State × Eff
  | [], _ => (s.clearMact c, .next)
  | i :: rest, k =>
    let s := s.setMidx c i
    match k with
    | 0 => (s, .stay)
    | k + 1 =>
      let b := s.creg c base
      if isStore then
        let r := s.storeTo c (b - 4).toNat (wordBytes (s.creg c (multReg i))) bad
        if r.2 = .next then (r.1.setCreg c base (b - 4)).transfers c base isStore bad rest k else r
      else
        let r := s.load c b.toNat 4 bad
        if r.2.1 = .next then
          ((r.1.setCreg c (multReg i) (bytesWord r.2.2)).setCreg c base (b + 4)).transfers c base isStore bad rest k
        else (r.1, r.2.1)

/-- The mask bits still to transfer, in order. -/
def State.maskList (s : State) (c : Nat) (mask : BitVec 24) (isStore : Bool) : List Nat :=
  let mact := bit (s.cst c) 8
  let midx := fld (s.cst c) 9 5
  let set := (List.range 24).filter fun i => mask.getLsbD i
  if isStore then (set.filter fun i => !mact || i ≤ midx).reverse else set.filter fun i => !mact || midx ≤ i

/-- LDM or STM; under a step all its transfers are made (R470). (DEDUCED, log entry 78.) -/
def State.multiple (s : State) (c : Nat) (bs : BitVec 2) (mask : BitVec 24) (k : Nat) (isStore bad : Bool) : State :=
  s.instr c true fun s =>
    s.transfers c (BitVec.ofNat 5 (4 + bs.toNat)) isStore bad (s.maskList c mask isStore) (if (s.core c).stepping then 24 else k)

/-! Control flow (R379, R381, R382, R388, R399). -/

/-- A target relative to the instruction, in words. -/
def relTarget (pc : Word) (d : Int) : Word := pc + BitVec.ofInt 32 (4 * d)

/-- A call: the window advances, or WFULL, or the window double fault. -/
def State.call (s : State) (c : Nat) (target : Word) : State × Eff :=
  let x := s.core c
  let t := x.task.getD 0
  match x.freeCount with
  | 0 => (s.coreFault c 1, .stay)
  | 1 => if s.inTrap c then (s.setCore c (x.advance t (x.pc + 4)), .jump target) else (s, .trap 7 0 0 false)
  | _ => (s.setCore c (x.advance t (x.pc + 4)), .jump target)

/-- A task ends by returning from its outermost window (R381). -/
def State.taskEnd (s : State) (c t : Nat) : State := (s.taskOff c t).glcEvent c 2 0 t 0

def State.ret (s : State) (c : Nat) : State × Eff :=
  let x := s.core c
  let t := x.task.getD 0
  match (x.curOf t).bind fun i => (x.slot i).below with
  | some _ =>
    let target := s.linkOf c
    (s.setCore c (x.retreat t), .jump target)
  | none => if s.wsp c t = s.wtop c t then (s.taskEnd c t, .stay) else (s, .trap 8 0 0 false)

/-- RTX: ST := XST, PC := XPC, and the window retreats where the caller's is in the ring. (DEDUCED, log entry 77.) -/
def State.rtx (s : State) (c : Nat) : State × Eff :=
  let x := s.core c
  let t := x.task.getD 0
  let y := match (x.curOf t).bind fun i => (x.slot i).below with
    | some _ => x.retreat t
    | none => x
  (s.setCore c { y with st := x.xst &&& stMask, intr := none }, .jump x.xpc)

/-! Special registers and SYS functions (R387). -/

/-- A special register as MFSR reads it. (DEDUCED, log entry 77.) -/
def State.sreg (s : State) (c n : Nat) : State × Word :=
  let x := s.core c
  let t := x.task.getD 0
  match n with
  | 0 => (s, s.stRead c)
  | 1 => (s, x.xpc)
  | 2 => (s, x.xst)
  | 3 => (s, x.xcause)
  | 4 => (s, x.xaddr)
  | 5 => (s, BitVec.ofNat 32 (t + c * 16))
  | 6 => (s, s.reg (tskPage c) (tskOff t 0x118))
  | 7 => (s, s.reg (tskPage c) (tskOff t 0x10C))
  | 8 => let y := s.takeFree; (y.2, y.1)
  | 9 => (s, BitVec.ofNat 32 s.tbNs)
  | 10 => (s, BitVec.ofNat 32 ((s.timer c t).us s.cycle))
  | _ => (s, s.linkOf c)

/-- MTSR: ILLEGAL for a read-only register, and for XPC and XST outside a trap. (DEDUCED, log entry 77.) -/
def State.mtsr (s : State) (c n : Nat) (v : Word) : State × Eff :=
  let x := s.core c
  let bad : State × Eff := (s, .trap 1 0 0 false)
  match n with
  | 0 => (s.stWrite c v, .next)
  | 1 => if s.inTrap c then (s.setCore c { x with xpc := v }, .next) else bad
  | 2 => if s.inTrap c then (s.setCore c { x with xst := v }, .next) else bad
  | 10 => (s.timerWrite c (x.task.getD 0) v, .next)
  | 11 => (s.setLinkOf c v, .next)
  | _ => bad

/-- YIELD. The PC has moved on before the task leaves. -/
def State.yield_ (s : State) (c : Nat) : State × Eff :=
  ((s.setCpc c (s.cpc c + 4)).giveWay c, .stay)

/-- WAIT (R402). In a trap no task switch takes place: the instruction runs again, as it does in a locked sequence until
that is forced (R397). (DEDUCED, log entry 77.) -/
def State.wait (s : State) (c : Nat) (rd ra : BitVec 5) : State × Eff :=
  let t := (s.core c).task.getD 0
  let m := s.creg c ra
  let e := s.reg (tskPage c) (tskOff t 0x118)
  if e &&& m ≠ 0 then
    ((s.setReg (tskPage c) (tskOff t 0x118) (e &&& ~~~m)).setCreg c rd (e &&& m), .next)
  else if s.inTrap c then (s, .stay)
  else if (s.reserved c).isSome then (s.setCore c { s.core c with turnDue := true }, .stay)
  else
    let s := (s.setCore c { s.core c with masks := tset (fun _ => 0) (s.core c).masks t m }).rotate c t
    (s.suspend c 3, .stay)

/-- SIGNAL; other bits of ra must be 0. (DEDUCED, log entry 77.) -/
def State.signal (s : State) (c : Nat) (ra : BitVec 5) : State × Eff :=
  let v := s.creg c ra
  if v &&& ~~~0x3F1F#32 ≠ 0 then (s, .trap 1 0 0 false)
  else (s.setEvents (fld v 12 2) (fld v 8 4) (BitVec.ofNat 32 (2 ^ fld v 0 5)), .next)

def State.wspill (s : State) (c : Nat) (rd : BitVec 5) : State × Eff :=
  match s.spillOne c with
  | (s', .none) => (s'.setCreg c rd 0x200#32, .next)
  | (s', .done t f) => (s'.setCreg c rd (BitVec.ofNat 32 (t + b2n f * 256)), .next)
  | (s', .bus st a) => (s', statusEff a st .next)

def State.wfill (s : State) (c : Nat) (rd : BitVec 5) : State × Eff :=
  let x := s.core c
  let t := x.task.getD 0
  let a := s.wsp c t
  if x.freeCount = 0 then (s.setCreg c rd 0x200#32, .next)
  else if a = s.wtop c t then (s.setCreg c rd 0x400#32, .next)
  else if (s.mpu c t a 0 (s.viewPriv c t)).isNone then (s, .trap 3 0 (BitVec.ofNat 32 a) false)
  else
    let r := s.fillOne c t false
    if r.2 = stOK then (r.1.setCreg c rd 0, .next) else (r.1, statusEff a r.2 .next)

/-- BKPT: a debug halt behind the instruction, or the trap (R471). -/
def State.bkpt (s : State) (c : Nat) : State × Eff :=
  if s.rbit dbgPage (dbgOff c 0x100) 4 ∧ s.board.vccDbg then ((s.setCpc c (s.cpc c + 4)).haltCore c 2, .stay)
  else (s, .trap 10 0 0 true)

def State.secclr (s : State) (c : Nat) : State × Eff :=
  (s.setBit (tskPage c) (tskOff ((s.core c).task.getD 0) 0x100) 9 false, .next)

/-! Accesses whose target is under test or holds them (R394). -/

/-- A retry: the access may be made again once its target serves; 64 tries end in trap BUS.
(DEDUCED, log entry 80.) -/
def State.busRetry (s : State) (c : Nat) : State :=
  match (s.core c).bus with
  | none => s
  | some (a, n) =>
    let w : Who := ⟨coreNode c, s.corePort c, false⟩
    let busy : Bool := match s.coreTarget c a with
      | .aperture p => s.busStatus w (p - p % 4) 4 false == stUnderTest
      | _ => false
    let held : Bool := match s.coreTarget c a with
      | .aperture p =>
        (s.heldAt w (p - p % 4)).isSome
          || s.seen w.node (p - p % 4) 4 (s.busStatus w (p - p % 4) 4 false) == stNoResponse
      | _ => false
    if held then s
    else if !busy then s.setCore c { s.core c with bus := none }
    else if n + 1 < 64 then s.setCore c { s.core c with bus := some (a, n + 1) }
    else
      (((s.setCore c { s.core c with bus := none }).trap c 6 stUnderTest (BitVec.ofNat 32 a) (s.cpc c)).stepEnd c).allBoundaries

/-- No response within 1 ms. (DEDUCED, log entry 80.) -/
def State.busTimeout (s : State) (c : Nat) : State :=
  match (s.core c).bus with
  | none => s
  | some (a, _) =>
    (((s.setCore c { s.core c with bus := none }).trap c 6 0xF (BitVec.ofNat 32 a) (s.cpc c)).stepEnd c).allBoundaries

/-- A locked sequence that a halt or a switch waits for is forced after 64 core cycles (R397).
(DEDUCED, log entry 81.) -/
def State.lockForce (s : State) (c : Nat) : State :=
  let wanted : Bool := match (s.core c).task with
    | some t => (s.core c).turnDue || s.taskState c t != 2
        || (match s.bestTask c with | some u => decide (s.taskPrio c t < s.taskPrio c u) | none => false)
    | none => false
  if (s.reserved c).isSome && ((s.core c).haltAsk || (wanted && !s.inTrap c)) then (s.setResv c none).boundary c else s

/-! The commands. -/

def execGlcAdd (c : Fin 4) (rd ra rb : BitVec 5) (sf : Bool) (s : State) : Host.Outcome State Fault Refusal :=
  .next (s.alu2 c.val rd ra rb sf mAll fun a b => addc a b false)
def execGlcSub (c : Fin 4) (rd ra rb : BitVec 5) (sf : Bool) (s : State) : Host.Outcome State Fault Refusal :=
  .next (s.alu2 c.val rd ra rb sf mAll fun a b => subc a b true)
def execGlcAnd (c : Fin 4) (rd ra rb : BitVec 5) (sf : Bool) (s : State) : Host.Outcome State Fault Refusal :=
  .next (s.alu2 c.val rd ra rb sf mZN (zn fun a b => a &&& b))
def execGlcOr (c : Fin 4) (rd ra rb : BitVec 5) (sf : Bool) (s : State) : Host.Outcome State Fault Refusal :=
  .next (s.alu2 c.val rd ra rb sf mZN (zn fun a b => a ||| b))
def execGlcXor (c : Fin 4) (rd ra rb : BitVec 5) (sf : Bool) (s : State) : Host.Outcome State Fault Refusal :=
  .next (s.alu2 c.val rd ra rb sf mZN (zn fun a b => a ^^^ b))
def execGlcAndn (c : Fin 4) (rd ra rb : BitVec 5) (sf : Bool) (s : State) : Host.Outcome State Fault Refusal :=
  .next (s.alu2 c.val rd ra rb sf mZN (zn fun a b => a &&& ~~~b))
def execGlcShl (c : Fin 4) (rd ra rb : BitVec 5) (sf : Bool) (s : State) : Host.Outcome State Fault Refusal :=
  .next (s.alu2 c.val rd ra rb sf mZN (zn shl5))
def execGlcShr (c : Fin 4) (rd ra rb : BitVec 5) (sf : Bool) (s : State) : Host.Outcome State Fault Refusal :=
  .next (s.alu2 c.val rd ra rb sf mZN (zn shr5))
def execGlcSar (c : Fin 4) (rd ra rb : BitVec 5) (sf : Bool) (s : State) : Host.Outcome State Fault Refusal :=
  .next (s.alu2 c.val rd ra rb sf mZN (zn sar5))
def execGlcSlt (c : Fin 4) (rd ra rb : BitVec 5) (sf : Bool) (s : State) : Host.Outcome State Fault Refusal :=
  .next (s.alu2 c.val rd ra rb sf mZ (zn fun a b => bool32 (a.slt b)))
def execGlcSltu (c : Fin 4) (rd ra rb : BitVec 5) (sf : Bool) (s : State) : Host.Outcome State Fault Refusal :=
  .next (s.alu2 c.val rd ra rb sf mZ (zn fun a b => bool32 (a.ult b)))
def execGlcMin (c : Fin 4) (rd ra rb : BitVec 5) (sf : Bool) (s : State) : Host.Outcome State Fault Refusal :=
  .next (s.alu2 c.val rd ra rb sf mZN (zn fun a b => if a.slt b then a else b))
def execGlcMax (c : Fin 4) (rd ra rb : BitVec 5) (sf : Bool) (s : State) : Host.Outcome State Fault Refusal :=
  .next (s.alu2 c.val rd ra rb sf mZN (zn fun a b => if a.slt b then b else a))
def execGlcMinu (c : Fin 4) (rd ra rb : BitVec 5) (sf : Bool) (s : State) : Host.Outcome State Fault Refusal :=
  .next (s.alu2 c.val rd ra rb sf mZN (zn fun a b => if a.ult b then a else b))
def execGlcMaxu (c : Fin 4) (rd ra rb : BitVec 5) (sf : Bool) (s : State) : Host.Outcome State Fault Refusal :=
  .next (s.alu2 c.val rd ra rb sf mZN (zn fun a b => if a.ult b then b else a))
def execGlcMul (c : Fin 4) (rd ra rb : BitVec 5) (sf : Bool) (s : State) : Host.Outcome State Fault Refusal :=
  .next (s.alu2 c.val rd ra rb sf mZN (zn fun a b => a * b))
def execGlcMulh (c : Fin 4) (rd ra rb : BitVec 5) (sf : Bool) (s : State) : Host.Outcome State Fault Refusal :=
  .next (s.alu2 c.val rd ra rb sf mZN (zn mulhS))
def execGlcMulhu (c : Fin 4) (rd ra rb : BitVec 5) (sf : Bool) (s : State) : Host.Outcome State Fault Refusal :=
  .next (s.alu2 c.val rd ra rb sf mZN (zn mulhU))
def execGlcDiv (c : Fin 4) (rd ra rb : BitVec 5) (sf : Bool) (s : State) : Host.Outcome State Fault Refusal :=
  .next (s.alu2 c.val rd ra rb sf mZN (zn divS))
def execGlcDivu (c : Fin 4) (rd ra rb : BitVec 5) (sf : Bool) (s : State) : Host.Outcome State Fault Refusal :=
  .next (s.alu2 c.val rd ra rb sf mZN (zn divU))
def execGlcRem (c : Fin 4) (rd ra rb : BitVec 5) (sf : Bool) (s : State) : Host.Outcome State Fault Refusal :=
  .next (s.alu2 c.val rd ra rb sf mZN (zn remS))
def execGlcRemu (c : Fin 4) (rd ra rb : BitVec 5) (sf : Bool) (s : State) : Host.Outcome State Fault Refusal :=
  .next (s.alu2 c.val rd ra rb sf mZN (zn remU))
def execGlcClz (c : Fin 4) (rd ra : BitVec 5) (sf : Bool) (s : State) : Host.Outcome State Fault Refusal :=
  .next (s.alu2 c.val rd ra ra sf mZ (zn fun a _ => BitVec.ofNat 32 (leadingZeros a)))
def execGlcPopc (c : Fin 4) (rd ra : BitVec 5) (sf : Bool) (s : State) : Host.Outcome State Fault Refusal :=
  .next (s.alu2 c.val rd ra ra sf mZ (zn fun a _ => BitVec.ofNat 32 (popCount a)))
def execGlcCmp (c : Fin 4) (ra rb : BitVec 5) (s : State) : Host.Outcome State Fault Refusal :=
  .next (s.instr c.val false fun s => (s.setStFlags c.val mAll (subc (s.creg c.val ra) (s.creg c.val rb) true).2, .next))
def execGlcAddi (c : Fin 4) (rd ra : BitVec 5) (imm : BitVec 16) (s : State) : Host.Outcome State Fault Refusal :=
  .next (s.aluImm c.val rd (s.creg c.val ra + simm imm))
def execGlcAndi (c : Fin 4) (rd ra : BitVec 5) (imm : BitVec 16) (s : State) : Host.Outcome State Fault Refusal :=
  .next (s.aluImm c.val rd (s.creg c.val ra &&& zimm imm))
def execGlcOri (c : Fin 4) (rd ra : BitVec 5) (imm : BitVec 16) (s : State) : Host.Outcome State Fault Refusal :=
  .next (s.aluImm c.val rd (s.creg c.val ra ||| zimm imm))
def execGlcXori (c : Fin 4) (rd ra : BitVec 5) (imm : BitVec 16) (s : State) : Host.Outcome State Fault Refusal :=
  .next (s.aluImm c.val rd (s.creg c.val ra ^^^ zimm imm))
def execGlcSlti (c : Fin 4) (rd ra : BitVec 5) (imm : BitVec 16) (s : State) : Host.Outcome State Fault Refusal :=
  .next (s.aluImm c.val rd (bool32 ((s.creg c.val ra).slt (simm imm))))
def execGlcSltiu (c : Fin 4) (rd ra : BitVec 5) (imm : BitVec 16) (s : State) : Host.Outcome State Fault Refusal :=
  .next (s.aluImm c.val rd (bool32 ((s.creg c.val ra).ult (simm imm))))
def execGlcLui (c : Fin 4) (rd : BitVec 5) (imm : BitVec 16) (s : State) : Host.Outcome State Fault Refusal :=
  .next (s.aluImm c.val rd (zimm imm <<< 16))
def execGlcShli (c : Fin 4) (rd ra : BitVec 5) (n : BitVec 5) (s : State) : Host.Outcome State Fault Refusal :=
  .next (s.aluImm c.val rd (shl5 (s.creg c.val ra) (n.setWidth 32)))
def execGlcShri (c : Fin 4) (rd ra : BitVec 5) (n : BitVec 5) (s : State) : Host.Outcome State Fault Refusal :=
  .next (s.aluImm c.val rd (shr5 (s.creg c.val ra) (n.setWidth 32)))
def execGlcSari (c : Fin 4) (rd ra : BitVec 5) (n : BitVec 5) (s : State) : Host.Outcome State Fault Refusal :=
  .next (s.aluImm c.val rd (sar5 (s.creg c.val ra) (n.setWidth 32)))
def execGlcCmpi (c : Fin 4) (ra : BitVec 5) (imm : BitVec 16) (s : State) : Host.Outcome State Fault Refusal :=
  .next (s.instr c.val false fun s => (s.setStFlags c.val mAll (subc (s.creg c.val ra) (simm imm) true).2, .next))

/-- Loads and stores; `bad` tells that a dirty line at the address has an uncorrectable error. -/
def execGlcLdw (c : Fin 4) (rd ra : BitVec 5) (imm : BitVec 16) (bad : Bool) (s : State) : Host.Outcome State Fault Refusal :=
  .next (s.loadInstr c.val 4 rd ra imm bad bytesWord)
def execGlcLdh (c : Fin 4) (rd ra : BitVec 5) (imm : BitVec 16) (bad : Bool) (s : State) : Host.Outcome State Fault Refusal :=
  .next (s.loadInstr c.val 2 rd ra imm bad sextH)
def execGlcLdhu (c : Fin 4) (rd ra : BitVec 5) (imm : BitVec 16) (bad : Bool) (s : State) : Host.Outcome State Fault Refusal :=
  .next (s.loadInstr c.val 2 rd ra imm bad zextH)
def execGlcLdb (c : Fin 4) (rd ra : BitVec 5) (imm : BitVec 16) (bad : Bool) (s : State) : Host.Outcome State Fault Refusal :=
  .next (s.loadInstr c.val 1 rd ra imm bad sextB)
def execGlcLdbu (c : Fin 4) (rd ra : BitVec 5) (imm : BitVec 16) (bad : Bool) (s : State) : Host.Outcome State Fault Refusal :=
  .next (s.loadInstr c.val 1 rd ra imm bad zextB)
def execGlcStw (c : Fin 4) (rd ra : BitVec 5) (imm : BitVec 16) (bad : Bool) (s : State) : Host.Outcome State Fault Refusal :=
  .next (s.storeInstr c.val 4 rd ra imm bad)
def execGlcSth (c : Fin 4) (rd ra : BitVec 5) (imm : BitVec 16) (bad : Bool) (s : State) : Host.Outcome State Fault Refusal :=
  .next (s.storeInstr c.val 2 rd ra imm bad)
def execGlcStb (c : Fin 4) (rd ra : BitVec 5) (imm : BitVec 16) (bad : Bool) (s : State) : Host.Outcome State Fault Refusal :=
  .next (s.storeInstr c.val 1 rd ra imm bad)
def execGlcLdl (c : Fin 4) (rd ra : BitVec 5) (imm : BitVec 16) (bad : Bool) (s : State) : Host.Outcome State Fault Refusal :=
  .next (s.ldl c.val rd ra imm bad)
def execGlcStc (c : Fin 4) (rd ra rb : BitVec 5) (bad : Bool) (s : State) : Host.Outcome State Fault Refusal :=
  .next (s.stc c.val rd ra rb bad)

def execGlcB (c : Fin 4) (cond : Fin 15) (disp : BitVec 22) (s : State) : Host.Outcome State Fault Refusal :=
  .next (s.instr c.val false fun s =>
    (s, if branchTaken (s.cst c.val) cond.val then .jump (relTarget (s.cpc c.val) disp.toInt) else .next))
def execGlcCall (c : Fin 4) (disp : BitVec 26) (s : State) : Host.Outcome State Fault Refusal :=
  .next (s.instr c.val false fun s => s.call c.val (relTarget (s.cpc c.val) disp.toInt))
def execGlcCallr (c : Fin 4) (ra : BitVec 5) (imm : BitVec 16) (s : State) : Host.Outcome State Fault Refusal :=
  .next (s.instr c.val false fun s => s.call c.val (s.creg c.val ra + simm imm))
def execGlcJ (c : Fin 4) (disp : BitVec 26) (s : State) : Host.Outcome State Fault Refusal :=
  .next (s.instr c.val false fun s => (s, .jump (relTarget (s.cpc c.val) disp.toInt)))
def execGlcJr (c : Fin 4) (ra : BitVec 5) (imm : BitVec 16) (s : State) : Host.Outcome State Fault Refusal :=
  .next (s.instr c.val false fun s => (s, .jump (s.creg c.val ra + simm imm)))
def execGlcRet (c : Fin 4) (s : State) : Host.Outcome State Fault Refusal := .next (s.instr c.val false fun s => s.ret c.val)
def execGlcRtx (c : Fin 4) (s : State) : Host.Outcome State Fault Refusal := .next (s.instr c.val false fun s => s.rtx c.val)

/-- `k` is the number of transfers made before a switch or halt may fall between them. -/
def execGlcStm (c : Fin 4) (bs : BitVec 2) (mask : BitVec 24) (k : Fin 25) (bad : Bool) (s : State) :
    Host.Outcome State Fault Refusal :=
  .next (s.multiple c.val bs mask k.val true bad)
def execGlcLdm (c : Fin 4) (bs : BitVec 2) (mask : BitVec 24) (k : Fin 25) (bad : Bool) (s : State) :
    Host.Outcome State Fault Refusal :=
  .next (s.multiple c.val bs mask k.val false bad)

def execGlcSvc (c : Fin 4) (imm : BitVec 16) (s : State) : Host.Outcome State Fault Refusal :=
  .next (s.instr c.val false fun s => (s, .trap 9 imm.toNat 0 true))
def execIllegalTrap (c : Fin 4) (s : State) : Host.Outcome State Fault Refusal :=
  .next (s.instr c.val false fun s => (s, .trap 1 0 0 false))
def execGlcWspill (c : Fin 4) (rd : BitVec 5) (s : State) : Host.Outcome State Fault Refusal :=
  .next (s.instr c.val false fun s => s.wspill c.val rd)
def execGlcWfill (c : Fin 4) (rd : BitVec 5) (s : State) : Host.Outcome State Fault Refusal :=
  .next (s.instr c.val false fun s => s.wfill c.val rd)
def execGlcYield (c : Fin 4) (s : State) : Host.Outcome State Fault Refusal :=
  .next (s.instr c.val false fun s => s.yield_ c.val)
def execGlcWait (c : Fin 4) (rd ra : BitVec 5) (s : State) : Host.Outcome State Fault Refusal :=
  .next (s.instr c.val false fun s => s.wait c.val rd ra)
def execGlcSignal (c : Fin 4) (ra : BitVec 5) (s : State) : Host.Outcome State Fault Refusal :=
  .next (s.instr c.val false fun s => s.signal c.val ra)
def execGlcMfsr (c : Fin 4) (rd : BitVec 5) (n : Fin 12) (s : State) : Host.Outcome State Fault Refusal :=
  .next (s.instr c.val false fun s =>
    let x := s.sreg c.val n.val
    (x.1.setCreg c.val rd x.2, .next))
def execGlcMtsr (c : Fin 4) (n : Fin 12) (ra : BitVec 5) (s : State) : Host.Outcome State Fault Refusal :=
  .next (s.instr c.val false fun s => s.mtsr c.val n.val (s.creg c.val ra))
/-- Every access of this model is complete when its instruction is. -/
def execGlcFence (c : Fin 4) (s : State) : Host.Outcome State Fault Refusal :=
  .next (s.instr c.val false fun s => (s, .next))
def execGlcCwb (c : Fin 4) (ra : BitVec 5) (s : State) : Host.Outcome State Fault Refusal :=
  .next (s.instr c.val false fun s => (s.cacheClean c.val (s.creg c.val ra).toNat, .next))
def execGlcCinv (c : Fin 4) (ra : BitVec 5) (s : State) : Host.Outcome State Fault Refusal :=
  .next (s.instr c.val false fun s =>
    if s.corePriv c.val then (s.cacheDrop c.val (s.creg c.val ra).toNat, .next) else (s, .trap 1 0 0 false))
def execGlcIinv (c : Fin 4) (ra : BitVec 5) (s : State) : Host.Outcome State Fault Refusal :=
  .next (s.instr c.val false fun s => (s.icacheDrop c.val (s.creg c.val ra).toNat, .next))
def execGlcBkpt (c : Fin 4) (s : State) : Host.Outcome State Fault Refusal :=
  .next (s.instr c.val false fun s => s.bkpt c.val)
def execGlcSecclr (c : Fin 4) (s : State) : Host.Outcome State Fault Refusal :=
  .next (s.instr c.val false fun s => s.secclr c.val)

def execBusRetry (c : Fin 4) (s : State) : Host.Outcome State Fault Refusal := .next (s.busRetry c.val)
def execBusResponseTimeout (c : Fin 4) (s : State) : Host.Outcome State Fault Refusal := .next (s.busTimeout c.val)
def execLockForce (c : Fin 4) (s : State) : Host.Outcome State Fault Refusal := .next (s.lockForce c.val)

end Sys2Proof.Machine
end

