-- ==== Sys2Proof/Machine/Endpoint.lean ====
section
/-! DEFINITION. Endpoints: what a node's blocks put into its router and take from it (R39 to R44, R118, R132 to R138,
R151, R168), and the gates' ends of closing (R136). -/

namespace Sys2Proof.Machine

/-! Injection of BE packets (R42, R118). -/

/-- A request whose destination is the node of its address (R43). -/
def isAddressed (h : Header) : Bool :=
  (h.bkind == 1#3 || h.bkind == 2#3 || h.bkind == 3#3) && (h.destPort == 0x20#6 || h.destPort == 0x21#6)

/-- L takes at most one flit in a network cycle (R115), of the highest VC that has one and a credit: the L input holds six
flits per channel (R126, R127). (DESIGN CHOICE, log entry 12.) -/
def State.injectFlit (s : State) (n : Nat) : State :=
  let x := s.router n
  if s.cycle < x.injNext then s
  else
    match (List.range 8).reverse.find? (fun v => tget (fun _ => []) x.inject v != []
        && decide ((tget (fun _ => []) x.bufs (chan 4 v)).length < 6)) with
    | none => s
    | some v =>
      match tget (fun _ => []) x.inject v with
      | [] => s
      | f :: rest =>
        (s.setRouter n { x with inject := tset (fun _ => []) x.inject v rest, injNext := s.cycle + 1 }).flitIn n 4 f .clean 0

/-- A packet's flits queue at L on the packet's channel, and L takes what it may now. While a STREAM packet under way holds
the channel (R168) the packet waits. -/
def State.injectFlits (s : State) (n : Nat) (p : Packet) : State :=
  let x := s.router n
  let v := vcOf p.hdr % 8
  if s.laneTaken n 0 v then s.send p
  else (s.setRouter n { x with inject := tset (fun _ => []) x.inject v (tget (fun _ => []) x.inject v ++ packetFlits p) }).injectFlit n

/-- A packet is handed to its router (R118): DEST_NODE follows the address, node 0xFF is translated (R21), a node that does
not exist is answered (R20). (DESIGN CHOICE, log entry 12.) -/
def State.injectPacket (s : State) (n : Nat) (p : Packet) : State :=
  let h := { p.hdr with srcNode := BitVec.ofNat 8 n }
  let h := if isAddressed h then { h with destNode := h.addr.extractLsb' 40 8 } else h
  let off := h.addr.toNat % 2 ^ 40
  if h.destNode = 0xFF#8 then
    if hbmSize < off + h.bytes.toNat ∨ hbmSize ≤ off then s.answerAt n h stUnmapped
    else s.injectFlits n { p with hdr := { h with destNode := BitVec.ofNat 8 (stackHome (stackOf s.intlv4k off)) } }
  else if !nodeExists h.destNode.toNat then s.answerAt n h stNodeAbsent
  else s.injectFlits n { p with hdr := h }

/-- The oldest packet of a node's blocks, then its probe's oldest trace record (R141), leaves for the router.
(DESIGN CHOICE, log entry 12.) -/
def State.injectNext (s : State) (n : Nat) : State :=
  match s.outbox.find? (fun p => p.hdr.srcNode.toNat == n && !s.laneTaken n 0 (vcOf p.hdr)) with
  | some p => { s with outbox := s.outbox.erase p }.injectPacket n p
  | none =>
    let x := s.router n
    match x.traces with
    | p :: rest => if s.laneTaken n 0 (vcOf p.hdr) then s else (s.setRouter n { x with traces := rest }).injectPacket n p
    | [] => s

/-- One network cycle at L: a node with no flit waiting there takes its next packet, then L takes a flit. -/
def State.injectCycle (s : State) (n : Nat) : State :=
  if s.releasedTo (nodeDie n) < 3 then s
  else ((if (s.router n).inject = [] then s.injectNext n else s)).injectFlit n

/-! Injection of GS flits (R151). -/

/-- Up to eight words of a list, and the rest. -/
def takeEight (l : List SWord) : List SWord × List SWord := (l.take 8, l.drop 8)

/-- The region whose home node this is, as a die number: the sail's I/O bank feeds and is fed there (R430). -/
def homeOf (n : Nat) : Option Nat := (List.range 9).find? fun d => d != 0 && homeNode d == n

/-- The millpond quarter of a node. -/
def quarterOf (n : Nat) : Option Nat := (List.range 4).find? fun q => quarterNode q == n

/-- The words a GS source supplies in its sampling cycle (R151): a send port or GS window, a group (R432), a line trigger
(R231), a transceiver lane or MAC (R439, R440). (DEDUCED, log entry 88.) -/
def State.sourceWords (s : State) (n inj : Nat) : State × List SWord :=
  let g := inj - 16
  if inj < 16 then
    let k := portAtt (nodeRegion n) (16 + inj)
    if isRegionNode n && s.rgnActive (nodeRegion n) && !bit (s.txDest (nodeRegion n) inj) 24 then s.deliverMany k false 8
    else (s, [])
  else match quarterOf n, homeOf n with
  | some q, _ => s.deliverMany (portAtt (0x100 + q) (16 + g)) false 8
  | none, some d =>
    if g < 8 then
      let x := s.grp d g
      (s.setGrp d g { x with cap := (takeEight x.cap).2 }, (takeEight x.cap).1)
    else (s, [])
  | none, none =>
    if n = 0x64 ∧ g < 8 then
      let x := s.trig g
      (s.setTrig g { x with source := (takeEight x.source).2 }, (takeEight x.source).1)
    else if n = 0x54 ∨ (n = 0x57 ∧ laneMode s (16 + g) = 1) then
      let l := if n = 0x54 then g else 16 + g
      let x := s.lane l
      if laneOwner s l = 3 then (s, [])
      else (s.setLane l { x with rx := (takeEight x.rx).2 }, (takeEight x.rx).1)
    else if n = 0x57 ∧ g < 8 then
      let x := s.mac g
      (s.setMac g { x with rx := (takeEight x.rx).2 }, (takeEight x.rx).1)
    else (s, [])

/-- The cog that is sampled now, six cogs ahead (R151). -/
def State.sampledCog (s : State) (n : Nat) : Nat :=
  let x := s.cogs (nodeDie n)
  if x.len = 0 then 0 else (x.cog + 6) % x.len

/-- The entry that will govern the cog sampled now: across the coming round start, that of the bank then in force (R151,
R159, R160). -/
def State.sampledEntry (s : State) (n : Nat) : Word :=
  let x := s.cogs (nodeDie n)
  let k := s.sampledCog n
  if x.cog + 6 < x.len then (if s.cogGoverning n then s.cogEntry n (s.cogActive n) k else 0)
  else
    let t := s.roundStartAt n (x.round + 1)
    if t.cogGoverning n then t.cogEntry n (t.cogActive n) k else 0

/-- The sampling cycle of injection cog k = cog + 6 (R151): the port's words wait for cog k. -/
def State.gsSample (s : State) (n : Nat) : State :=
  let k := s.sampledCog n
  let e := s.sampledEntry n
  if entryInjV e then
    let x := s.sourceWords n (entryInj e)
    match x.2 with
    | [] => x.1
    | ws => { x.1 with gsWait := tset (fun _ => none) x.1.gsWait (n * 1024 + k) (some (flitOf ws)) }
  else s

/-- A sampled flit reaches its cog: it is routed from L (R120, R151). -/
def State.gsInject (s : State) (n k : Nat) : State :=
  match tget (fun _ => none) s.gsWait (n * 1024 + k) with
  | some f =>
    { s with gsWait := tset (fun _ => none) s.gsWait (n * 1024 + k) none }.gsTake n 4
      ⟨false, 0, false, true, bareHeader, f⟩
  | none => s

/-! Ejection of stream words (R34, R40, R41). -/

/-- A word reaches a receiving port of a node: a stream port or GS window's queue, a group (R430), the sluice (R321), the
fabric watchdog (R408), a lane or MAC (R439). -/
def State.portTake (s : State) (n port : Nat) (w : SWord) : State :=
  let g := port - 16
  if port < 16 then (if isRegionNode n then s.arriveLocal (portAtt (nodeRegion n) port) w else s)
  else match quarterOf n, homeOf n with
  | some q, _ => s.arriveLocal (portAtt (0x100 + q) g) w
  | none, some d =>
    if 8 ≤ g then s
    else if gwMode (s.grpWord d g) = 1 then s.streamWord d g w
    else s.stampArrive d g w
  | none, none =>
    if n = 0x44 ∧ g = 0 then s.sluiceWord w
    else if n = 0x45 ∧ g = 0 then s.fabWord w
    else if n = 0x54 then (if laneMode s g = 1 then s.rawTx g w else s)
    else if n = 0x57 then
      if laneMode s (16 + g) = 1 then s.rawTx (16 + g) w
      else if g < 8 then s.macTx g w else s
    else s

/-- The port feeds a queue, which makes POISON of reserved codes itself (R34). -/
def portHasQueue (n port : Nat) : Bool := decide (port < 16) || (quarterOf n).isSome

def State.portSpoil (s : State) (n key : Nat) : Option PortSpoil := tget (fun _ => none) (s.router n).spoil key
def State.setPortSpoil (s : State) (n key : Nat) (x : Option PortSpoil) : State :=
  let r := s.router n
  s.setRouter n { r with spoil := tset (fun _ => none) r.spoil key x }

/-- The POISON word that ends a spoilt packet is delivered (R33, R41). (DEDUCED, log entry 23.) -/
def State.portPoison (s : State) (n port key vc cause count : Nat) : State :=
  ((s.setPortSpoil n key none).rtrEvent n 9 4 vc (s.cogAt n) cause).portTake n port (poisonWord cause n count)

/-- A word of a group that checks clean. `key` tells the GS flow of a port from a BE packet's.
(DEDUCED, log entry 25.) -/
def State.ejectWord (s : State) (n port key vc : Nat) (w : SWord) : State :=
  match s.portSpoil n key with
  | some x =>
    if SWord.isIdle w then s
    else if SWord.isEnd w then s.portPoison n port key vc x.cause (x.count + 1)
    else s.setPortSpoil n key (some { x with count := x.count + 1 })
  | none =>
    if SWord.isReserved w && !portHasQueue n port then
      (if SWord.isEnd w then s.portPoison n port key vc 3 0 else s.setPortSpoil n key (some ⟨3, 0⟩))
    else s.portTake n port w

/-- SECDED of one group at ejection (R41): counted in `RTR.CNT_ECC`, with its event. (DEDUCED, log entry 22.) -/
def State.countEcc (s : State) (n vc g : Nat) (e : Ecc) : State :=
  match e with
  | .clean => s
  | .corrected => (s.bumpFld (rtrPage n) 0x94 0 16 1).rtrEvent n 7 4 vc (s.cogAt n) g
  | .bad => (s.bumpFld (rtrPage n) 0x94 16 16 1).rtrEvent n 8 4 vc (s.cogAt n) g

/-- The four groups of a flit in turn, without delivery. (DEDUCED, log entry 22.) -/
def State.countFlit (s : State) (n vc : Nat) (f : Flit) : State :=
  (List.range 4).foldl (fun s g => s.countEcc n vc g (f.ecc.toList.getD g .clean)) s

/-- One group of an ejected stream flit (R41). (DEDUCED, log entry 23.) -/
def State.ejectGroup (s : State) (n port key vc : Nat) (f : Flit) (g : Nat) : State :=
  let e := f.ecc.toList.getD g .clean
  let s := s.countEcc n vc g e
  if e = .bad then
    match s.portSpoil n key with
    | some x => s.setPortSpoil n key (some { x with count := x.count + 2 })
    | none => s.setPortSpoil n key (some ⟨2, 2⟩)
  else (s.ejectWord n port key vc (f.words.toList.getD (2 * g) idleWord)).ejectWord n port key vc
    (f.words.toList.getD (2 * g + 1) idleWord)

/-- A flit of stream words is ejected to a port (R41). (DEDUCED, log entry 21.) -/
def State.ejectFlit (s : State) (n port key vc : Nat) (f : Flit) : State :=
  (List.range 4).foldl (fun s g => s.ejectGroup n port key vc f g) s

/-- A GS flit leaves by L in the present cog (R41, R135, R151): through an OPEN gate to the port EJ names, else it is
discarded and counted. A cog in which output L is no GS flow's sends none. (DEDUCED, log entry 21.) -/
def State.gsEject (s : State) (n : Nat) (f : Flit) : State :=
  let e := s.entryNow n
  if entrySel e 4 = 0 ∨ 5 < entrySel e 4 then s
  else if s.gate n ≠ gateOpen then (s.bump (rtrPage n) 0x80).rtrEvent n 5 4 0 (s.cogAt n) 0
  else s.ejectFlit n (entryEj e) (entryEj e) 0 f

/-! Arrival of BE packets (R118, R132, R135, R137). -/

/-- Rows 2 and 3 of Table 6-6 for a memory request to a bank or an HBM stack, whose own states decide them (R247, R252,
R459). -/
def State.memRefusal (s : State) (n : Nat) (h : Header) : Option Nat :=
  let a := h.addr.toNat
  let off := a % 2 ^ 40
  if a / 2 ^ 40 = 0xFF then
    if !s.hbmServes (stackOf s.intlv4k off) then some stDestAsleep else none
  else if 0x1000000 ≤ off ∧ off < 0x1180000 then
    let b := bankAt n off
    if !s.bankOn b then some stDestAsleep else if s.underTest (bankPage b) then some stUnderTest else none
  else none

/-- What the responder refuses at a HEAD flit: rows 2 to 4 of Table 6-6, for the targets the gate covers (R134), and rows
2 and 3 for banks and HBM. -/
def State.gateRefusal (s : State) (n : Nat) (h : Header) : Option Nat :=
  let a := h.addr.toNat
  let memory := h.destPort == 0x20#6
  if isRegionNode n then
    if gateCovers n h then
      if s.gate n ≠ gateAsleep ∧ s.underTest (rgnPage (nodeRegion n)) then some stUnderTest else s.gateStatus n
    else if memory then s.memRefusal n h
    else none
  else if memory && isRegAddr a then
    match pageOfAddr a with
    | some x => s.pageRefusal x.1
    | none => s.gateStatus n
  else
    let test : Bool := match quarterOf n with
      | some q => s.underTest (qmPage q)
      | none => false
    if s.gate n ≠ gateAsleep ∧ test = true then some stUnderTest else s.gateStatus n

/-- The refusal of a HEAD flit: a bank counts a posted packet itself (R238, R247). -/
def State.headRefuse (s : State) (n : Nat) (h : Header) (st : Nat) : State :=
  let off := h.addr.toNat % 2 ^ 40
  if isRegionNode n && h.destPort == 0x20#6 && !isNonPosted h && decide (0x1000000 ≤ off ∧ off < 0x1180000)
      && h.addr.toNat / 2 ^ 40 != 0xFF then s.bump (bankPage (bankAt n off)) 0x50
  else s.refuseAt n h st

/-- Return ports of a node's initiators (R118): those the spec numbers, and any at a node whose initiators it gives no
number. (DEDUCED, log entry 26.) -/
def returnPort (n p : Nat) : Bool :=
  if n = 0x45 ∨ n = 0x46 then p == 0x30 || p == 0x31 || p == 0x38 || p == 0x39
  else if n = 0x76 then 0x30 ≤ p && p < 0x38
  else if n = 0x77 then p == 0x3E || p == 0x3F
  else isRegionNode n || (quarterOf n).isSome || n == 0x44 || n == 0x54 || n == 0x67

/-- The packet breaks Table 6-2 at this node: a reserved or absent port, or a kind the port does not take. -/
def wrongTarget (n : Nat) (h : Header) : Bool :=
  let k := h.bkind.toNat
  let p := h.destPort.toNat
  if p < 16 then !(isRegionNode n && k == 0)
  else if p = 0x20 then !(k == 1 || k == 2 || k == 3)
  else if p = 0x21 then !((quarterOf n).isSome && (k == 1 || k == 2 || k == 3))
  else if p = 0x22 then !((n == 0x45 || n == 0x46 || n == 0x54) && k == 6)
  else if p = 0x23 then !(n == 0x77 && k == 1)
  else if 0x30 ≤ p then !(returnPort n p && (k == 4 || k == 5))
  else true

/-- LEN of a kind as R43 gives it (Table 2-7), and BYTES and ADDR of a memory kind. -/
def wrongLen (h : Header) : Bool :=
  let k := h.bkind.toNat
  let len := h.len.toNat
  let n := h.bytes.toNat
  let full := (n + 31) / 32
  match k with
  | 0 => len == 0 || decide (64 < len)
  | 1 | 2 => len != full
  | 3 | 5 | 6 => len != 0
  | 4 => if h.status = 0#4 then len != full else len != full && len != 0
  | _ => true

/-- The packet's shape breaks R43 or R118. -/
def wrongShape (p : Packet) : Bool :=
  let h := p.hdr
  let k := h.bkind.toNat
  p.payload.length != h.len.toNat || wrongLen h ||
  (isNonPosted h && h.srcPort.toNat < 0x30) ||
  ((k == 1 || k == 2 || k == 3) &&
    (h.bytes.toNat % 4 != 0 || decide (h.bytes.toNat < 4) || decide (2048 < h.bytes.toNat) || h.addr.toNat % 4 != 0))

/-- A response or a discard for a request whose outcome an endpoint decides. (DEDUCED, log entry 26.) -/
def State.answerWith (s : State) (n : Nat) (h : Header) (st : Nat) (data : List Byte) : State :=
  if isNonPosted h then s.respond n (responseTo h n st data)
  else if st = stOK then s else s.bump (rtrPage n) 0x84

/-- A register access that has arrived (R137 rows 6 to 8). (DEDUCED, log entry 26.) -/
def State.regArrive (s : State) (n : Nat) (p : Packet) (bad : Bool) (x : Page × Nat) : State :=
  let h := p.hdr
  let w : Who := ⟨h.srcNode.toNat, h.srcPort.toNat, false⟩
  if h.bkind = 3#3 then
    let y := s.regRead x.1 x.2 w
    (y.1.answerWith n h y.2.1 (wordBytes y.2.2)).allBoundaries
  else
    let y := s.regWrite x.1 x.2 (bytesWord (flitBytes p.payload 4)) w
    if y.2 = stOK ∧ bad then s.answerWith n h stDataError []
    else (y.1.answerWith n h y.2 []).allBoundaries

/-- A memory access that has arrived at its node (R137, Table 6-4): banks, tile memory and HBM queue it, core SRAM and
flash serve it. -/
def State.memArrive (s : State) (n : Nat) (p : Packet) (bad : Bool) : State :=
  let h := p.hdr
  let a := h.addr.toNat
  let fail := bad && h.bkind != 3#3
  match windowOf a h.bytes.toNat with
  | .regs =>
    match pageOfAddr a with
    | some x => s.regArrive n p bad x
    | none => s.answerAt n h stUnmapped
  | .bank b =>
    if fail && (s.bankRefusal b h.srcNode.toNat h.srcPort.toNat).isNone then s.answerWith n h stDataError []
    else s.bankArrive b p
  | .tile r _ =>
    if fail then s.answerWith n h stDataError []
    else let x := s.region r; s.setRegion r { x with tileAcc := x.tileAcc ++ [⟨p, 0, []⟩] }
  | .hbm =>
    let k := stackOf s.intlv4k (a % 2 ^ 40)
    if !s.hbmServes k then s.refuseAt n h stDestAsleep
    else if fail && !(inDescTable (a % 2 ^ 40) && !isMillpond h.srcNode.toNat) then s.answerWith n h stDataError []
    else { s with hbmReq := tset (fun _ => []) s.hbmReq k (tget (fun _ => []) s.hbmReq k ++ [p]) }
  | .sram =>
    if h.bkind = 3#3 then s.answerWith n h stOK (s.readBytes a h.bytes.toNat)
    else if bad then s.answerWith n h stDataError []
    else (s.writeMem a (flitBytes p.payload h.bytes.toNat)).answerWith n h stOK []
  | .flash =>
    if h.bkind = 3#3 then s.answerWith n h stOK (s.readBytes a h.bytes.toNat) else s.answerAt n h stUnmapped
  | .unmapped => s.answerAt n h stUnmapped

/-- The kind and length a service operation takes (Table 8-7). -/
def svcShape (op : Nat) (h : Header) : Bool :=
  let k := h.bkind.toNat
  let n := h.bytes.toNat
  match op with
  | 0 => (k == 1 || k == 2) && n % 8 == 0 && decide (8 ≤ n ∧ n ≤ 2048)
  | 1 => k == 3 && n % 8 == 0 && decide (8 ≤ n ∧ n ≤ 2048)
  | 2 | 3 => k == 2 && n == 4
  | 4 => k == 3 && n == 32
  | 5 => k == 2 && n == 32
  | _ => false

/-- A service request has arrived at a millpond node (R198, R199, R202). (DEDUCED, log entry 26.) -/
def State.svcArrive (s : State) (n : Nat) (p : Packet) (bad : Bool) : State :=
  let h := p.hdr
  let a := h.addr.toNat
  let q := a / 0x1000 % 0x100000
  let op := a / 0x100 % 16
  let l := flitBytes p.payload h.bytes.toNat
  if !s.qmServes ((quarterOf n).getD 0) (h.srcNode.toNat == 0x44) then s.answerAt n h stEndpointClosed
  else if a % 0x100 ≠ 0 ∨ a / 2 ^ 32 % 256 ≠ 0 ∨ !svcShape op h then s.answerAt n h stMalformed
  else if quarterNode (q % 4) ≠ n then s.answerAt n h stUnmapped
  else if bad ∧ h.bkind ≠ 3#3 then s.answerWith n h stDataError []
  else
    let x := match op with
      | 0 => s.svcPush q (entryWords (l.length / 8) l)
      | 1 => s.svcPop q (h.bytes.toNat / 8) (h.srcNode.toNat == 0x77 && h.srcPort.toNat == 0x3E)
      | 2 => s.svcFlush q
      | 3 => s.svcWeir q ((bytesWord l).extractLsb' 0 12)
      | 4 => s.svcStatus q
      | _ => s.svcConfig q l
    x.1.answerWith n h x.2.1 x.2.2

/-- The attachment of a node whose outstanding leat transfer a response answers (R182): the address names its slot.
(DEDUCED, log entry 27.) -/
def State.leatOwner (s : State) (n : Nat) (h : Header) : Option Nat :=
  let inst := match quarterOf n with
    | some q => 0x100 + q
    | none => nodeRegion n
  ((List.range 32).map (portAtt inst)).find? fun k =>
    let x := s.att k
    x.bound && (x.writes ++ x.reads).any fun t =>
      t.txn == h.txn && t.phase == .sent && (s.desc x.queue).slotAddr t.slot == h.addr.toNat

/-- A response returns to its initiator; uncorrectable data become `DATA_ERROR` (R132). (DEDUCED, log entry 27.) -/
def State.responseIn (s : State) (n : Nat) (p : Packet) (bad : Bool) : State :=
  let h := p.hdr
  let st := if bad then stDataError else h.status.toNat
  let data := if st = stOK ∧ h.bkind = 4#3 then flitBytes p.payload h.bytes.toNat else []
  let port := h.destPort.toNat
  if n = dmaNode ∧ port < 0x38 then s.dmaResponse (port - 0x30) h.txn.toNat st data
  else if n = 0x77 then
    if s.dbg.busy then (s.debugEnd st (if data = [] then none else some (bytesWord data))).allBoundaries else s
  else if n = 0x44 then s.stageResponse st
  else if isRegionNode n || (quarterOf n).isSome then
    match s.leatOwner n h with
    | some k => ((s.leatResponse k h.txn st data).beSend k).loaderNext
    | none => s
  else s

/-- A packet whole at an endpoint whose gate admitted it. `masked` tells the host's mask of an MSI-X vector. -/
def State.beDeliver (s : State) (n : Nat) (p : Packet) (bad masked : Bool) : State :=
  let h := p.hdr
  let port := h.destPort.toNat
  if wrongTarget n h || wrongShape p ||
      (port == 0x20 && badShape h.addr.toNat h.bytes.toNat) then s.answerAt n h stMalformed
  else if port = 0x20 then s.memArrive n p bad
  else if port = 0x21 then s.svcArrive n p bad
  else if port = 0x22 then
    if n = 0x54 then s.msixMessage h.msg.toNat masked else (s.eventMessage (n == 0x46) h.msg).allBoundaries
  else if port = 0x23 then
    if bad then s.bump (rtrPage n) 0x84 else s.traceIn (flitBytes p.payload 32)
  else if 0x30 ≤ port then s.responseIn n p bad
  else s.answerAt n h stMalformed

def State.arriving (s : State) (n vc : Nat) : Option Arriving := tget (fun _ => none) (s.router n).arrive vc
def State.setArriving (s : State) (n vc : Nat) (x : Option Arriving) : State :=
  let r := s.router n
  s.setRouter n { r with arrive := tset (fun _ => none) r.arrive vc x }

/-- A payload group of these flits is uncorrectable. (DEDUCED, log entry 24.) -/
def flitsBad (l : List Flit) : Bool := l.any fun f => f.ecc.toList.contains .bad

/-- A BE flit leaves by L (R135 to R137): its packet is admitted or refused at its HEAD, goes on as it began, and ends at
its TAIL. STREAM payload reaches its port flit by flit; a STREAM that breaks R43 is discarded and counted. The endpoint
returns the flit's credit (R126). What R41 calls a flow is here the receive port, whoever sends to it.
(DEDUCED, log entry 24; DESIGN CHOICE, log entry 104.) -/
def State.beArrive (s : State) (n : Nat) (f : ChanFlit) (masked : Bool) : State :=
  let vc := f.vc.toNat
  let s := s.creditIn n 4 vc
  if f.head then
    let h := f.hdr
    let s := s.owe n h
    match s.gateRefusal n h with
    | some st => (s.headRefuse n h st).setArriving n vc (if f.tail then none else some ⟨false, h, []⟩)
    | none =>
      let s := s.countFlit n vc f.flit
      if h.bkind = 0#3 ∧ (wrongTarget n h ∨ wrongLen h) then
        (s.answerAt n h stMalformed).setArriving n vc (if f.tail then none else some ⟨false, h, []⟩)
      else if f.tail then s.beDeliver n ⟨h, []⟩ false masked
      else s.setArriving n vc (some ⟨true, h, []⟩)
  else
    match s.arriving n vc with
    | none => s
    | some a =>
      if !a.admitted then s.setArriving n vc (if f.tail then none else some a)
      else if a.hdr.bkind = 0#3 then
        let port := a.hdr.destPort.toNat
        (s.ejectFlit n port (32 + port) vc f.flit).setArriving n vc (if f.tail then none else some a)
      else
        let s := s.countFlit n vc f.flit
        let fs := a.payload ++ [f.flit]
        if f.tail then (s.setArriving n vc none).beDeliver n ⟨a.hdr, fs⟩ (flitsBad fs) masked
        else s.setArriving n vc (some { a with payload := fs })

/-- What stands in the L output register leaves it (R116): a GS flit is ejected in its cog, a BE flit arrives at the
endpoint. Whether the host masks an MSI-X vector is a free value here. (DEDUCED, log entry 21.) -/
def State.ejectOut (s : State) (n : Nat) : State :=
  match s.outNow n 4 with
  | some f =>
    let s := s.takeOut n 4
    if f.be then
      if n = 0x54 then let x := s.takeFree; x.2.beArrive n f (x.1.getLsbD 0) else s.beArrive n f false
    else s.gsEject n f.flit
  | none => s

/-! The ends of closing (R136, R138). -/

/-- What waits for a gate to be CLOSED goes on: a region that is to be cleared, a partial load (R104, R323). -/
def State.afterClose (s : State) (n : Nat) : State :=
  let s := if isRegionNode n && s.clearing.getLsbD (nodeRegion n) && s.gate n == gateClosed then s.clearRegion (nodeRegion n) else s
  s.loaderNext

/-- The last packet in progress has finished: the gate becomes CLOSED. -/
def State.gateClosed (s : State) (n : Nat) : State :=
  if s.gate n = gateClosing ∧ s.gateIdle n then (s.closeGate n).afterClose n else s

/-! The commands. -/

def execGsInjectSample (n : Fin 144) (s : State) : Host.Outcome State Fault Refusal := .next (s.gsSample (nodeNum n))

/-- A block's packet is injected: `none` stands for the oldest packet waiting at the node. -/
def execBePacketInject (n : Fin 144) (p : Option Packet) (s : State) : Host.Outcome State Fault Refusal :=
  .next (if s.releasedTo (nodeDie (nodeNum n)) < 3 then s
    else match p with
      | some p => s.injectPacket (nodeNum n) p
      | none => s.injectNext (nodeNum n))

def execEndpointBeArrive (n : Fin 144) (f : ChanFlit) (masked : Bool) (s : State) : Host.Outcome State Fault Refusal :=
  .next ((s.takeOut (nodeNum n) 4).beArrive (nodeNum n) f masked)

def execGsFlitEject (n : Fin 144) (f : Flit) (s : State) : Host.Outcome State Fault Refusal :=
  .next ((s.takeOut (nodeNum n) 4).gsEject (nodeNum n) f)

def execGateClosed (n : Fin 144) (s : State) : Host.Outcome State Fault Refusal := .next (s.gateClosed (nodeNum n))

/-- 1,024 network cycles after CLOSING began. -/
def execGateForcedClose (n : Fin 144) (s : State) : Host.Outcome State Fault Refusal :=
  .next (if s.gate (nodeNum n) = gateClosing then (s.forceClose (nodeNum n)).afterClose (nodeNum n) else s)

end Sys2Proof.Machine
end

