-- ==== Sys2Proof/Machine/Tick.lean ====
section
/-! DEFINITION. The passing of one network cycle, and the commands whose end lets a waiting load go on. -/

namespace Sys2Proof.Machine

/-! One network cycle: what step does on an empty queue (DESIGN CHOICE, log entry 2). -/

/-- Adds to the counters of a router's probe that select the conditions of a whole cycle (R140): codes 3 to 6, where
MATCH.PORT names an output. -/
def State.probeCycle (s : State) (n : Nat) : State :=
  let p := prbPage n
  if s.rbit p 0x40 0 && decide (s.rfld p 0x4C 29 3 < 5) then
    let o := s.rfld p 0x4C 29 3
    let vc := s.rfld p 0x4C 25 3
    let sel := entrySel (s.entryNow n) o
    let x := s.router n
    let quiet := (s.outNow n o).isNone
    let waits := (x.candidate s.cycle n o vc).isSome
    let s := if 1 ≤ sel ∧ sel ≤ 5 then s.probeCount n 3 1 else s
    let s := if (sel = 0 ∨ (8 ≤ sel ∧ sel ≤ 11)) ∧ quiet then s.probeCount n 4 1 else s
    let s := if waits then s.probeCount n 5 1 else s
    if waits && !x.hasCredit n o vc && beAllowed sel vc && quiet then s.probeCount n 6 1 else s
  else s

/-- Every end of every link sends its frame; the sample word sent goes from each die's list (R264, R267). -/
def State.sendFrames (s : State) : State :=
  let s := (List.range 12).foldl (fun s l => s.bothEnds l fun s d => s.frameSend l d) s
  { s with sampleOut := (List.range 9).foldl (fun t d => tset (fun _ => []) t d (tget (fun _ => []) t d).tail) s.sampleOut }

/-- What stands in the output registers when a network cycle ends goes on (R116): by L to the endpoint in this cycle; over
an on-die channel to the next router, whose input and flit are the answer. What leaves the die waits at the link. -/
def State.takeOuts (s : State) : State × List (Nat × Nat × ChanFlit) :=
  (s.routers.map (·.1)).foldl (fun (a : State × List (Nat × Nat × ChanFlit)) n =>
    let s := a.1.ejectOut n
    (List.range 4).foldl (fun (a : State × List (Nat × Nat × ChanFlit)) o =>
      match s.outNow n o, neighbour n (sideOf o), portXing n o with
      | some f, some m, none => (a.1, a.2 ++ [(m, (o + 2) % 4, f)])
      | _, _, _ => a) (s, a.2)) (s, [])

/-- GS flits whose cog at a router's output registers this is (R120, R151, R153): sampled ones from L, those in the
pipeline, those the aligners release. -/
def State.gsCog (s : State) (n : Nat) : State :=
  let s := s.gsInject n (s.cogAt n)
  let x := s.router n
  let due := x.pipe.filter fun e => decide (e.1 ≤ s.cycle)
  let s := if due = [] then s else s.setRouter n { x with pipe := x.pipe.filter fun e => !decide (e.1 ≤ s.cycle) }
  let s := due.foldl (fun s e => if e.1 = s.cycle then s.gsRoute n e.2.1 e.2.2 else s) s
  (List.range 4).foldl (fun s p => s.alignRelease n p) s

/-- The cog counters of the dies whose network island is released advance; flits that were in output registers are
written into the next routers' input buffers; the GS flits of the new cog enter output registers, routers in order of
rising y and x (R161); blocks inject; every router grants (R115, R116, R125, R145, R151).
(DESIGN CHOICE, log entry 2.) -/
def State.networkCycle (s : State) (hops : List (Nat × Nat × ChanFlit)) : State :=
  let dies := (List.range 9).filter fun d => 2 ≤ s.releasedTo d
  let s := dies.foldl (fun s d => s.cogTick d) s
  let s := hops.foldl (fun s h => s.flitTaken h.1 h.2.1 h.2.2 .clean 0) s
  let s := allNodes.foldl (fun s n => s.gsCog n) s
  let s := allNodes.foldl (fun s n => s.injectCycle n) s
  (s.routers.map (·.1)).foldl (fun s n => s.grantAll n) s

/-- A word every 800 network cycles, 64 Mb/s, until sixteen are held (R300). -/
def State.trngCycle (s : State) : State :=
  if s.cycle % 800 = 0 ∧ !s.trngFailed ∧ s.sec.words < 16 ∧ s.releasedTo 0 = 3 then
    s.setSec { s.sec with words := s.sec.words + 1 }
  else s

/-- A UART ends a byte of its TX FIFO in this cycle or not, as a free value tells: the line's pace is not modelled. -/
def State.uartCycle (s : State) (k : Nat) : State :=
  if (s.serial k).tx = [] then s
  else
    let x := s.takeFree
    if x.1.getLsbD k then x.2.uartSend k else x.2

/-- What the time does at the sides of a service queue, for which no command stands: transfers are reissued after 1,024
network cycles (R182), and a flush that has waited 65,536 is forced (R192). -/
def State.svcCycle (s : State) (k : Nat) : State :=
  let due := ((s.att k).writes ++ (s.att k).reads).filter fun t => t.phase == .retry && decide (t.issued + 1024 ≤ s.cycle)
  let s := due.foldl (fun s t => (s.leatReissue k t.txn).svcServe k 600) s
  let a := s.att k
  if (s.desc a.queue).flush && decide (a.flushAt + 65536 ≤ s.cycle) then s.flushForce k else s

/-- A network cycle at a queue: a flush that is due, the gate's test, and what a BE send port may hand over (R168, R191,
R193, R195). -/
def State.queueCycle (s : State) (k : Nat) : State :=
  let s := (s.flushIfDue k).gateRelease k
  if isSvc k then s.svcCycle k else s.beSend k

/-- One network cycle passes. (DESIGN CHOICE, log entry 2; DESIGN CHOICE, log entry 97.) -/
def State.tick (s : State) : State :=
  let x := ((allNodes.foldl (fun s n => s.probeCycle n) s).sendFrames).takeOuts
  let s : State := { x.1 with cycle := x.1.cycle + 1 }
  let s := if s.releasedTo 0 = 3 then s.tbAdvance else s
  let s := allNodes.foldl (fun s n => s.gateReopen n) s
  let s := (s.atts.map (·.1)).foldl (fun s k => s.queueCycle k) s
  let s := (s.networkCycle x.2).trngCycle.mirrorPump
  ((List.range 4).foldl (fun s k => s.uartCycle k) s).loaderFetch.loaderNext.wakeCores

/-! Commands after which a waiting load may go on (R323), or that need more than their own block. -/

/-- The cog counter of a die wraps and a round begins (R145). -/
def execRoundStart (d : Fin 9) (s : State) : Host.Outcome State Fault Refusal := .next (s.roundStart d.val).loaderNext

def execCogSwapDisarm (node : Fin 144) (round : BitVec 16) (s : State) : Host.Outcome State Fault Refusal :=
  let x := s.cogSwapWrite (nodeNum node) (BitVec.ofNat 32 round.toNat)
  .next (x.1.reply x.2 []).loaderNext

/-- A port's queue is unbound once the gate of its node is CLOSED (R175). -/
def execQueueUnbind (page : Fin 132) (i : Fin 32) (s : State) : Host.Outcome State Fault Refusal :=
  let k := portKey page i
  .next (if s.gate (attNode k) = gateClosed then (s.unbindStart k).loaderNext else s)

def execUnbindTimeout (page : Fin 132) (i : Fin 32) (s : State) : Host.Outcome State Fault Refusal :=
  .next (s.unbindTimeout (portKey page i)).loaderNext

def execLeatResponse (page : Fin 132) (i : Fin 32) (txn : BitVec 8) (status : BitVec 4) (data : List Byte) (s : State) :
    Host.Outcome State Fault Refusal :=
  .next ((s.leatResponse (portKey page i) txn status.toNat data).beSend (portKey page i)).loaderNext

/-- The governor's sample also goes to the sails, in the service words of the cap links (R218, R267). -/
def execGovSample (s : State) : Host.Outcome State Fault Refusal :=
  let t := s.govSample
  .next (match (tget (fun _ => []) t.samples 0).getLast? with
    | some g =>
      let ws := sampleWords (t.reg govPage 0x48) (decide (t.tbSlew ≠ 0)) t.allAligned g
      { t with sampleOut := tset (fun _ => []) t.sampleOut 0
                 (tget (fun _ => []) t.sampleOut 0 ++ ws.mapIdx fun i w => (i, w, 0xFFFF)) }
    | none => t)

/-- The scan of a granary area ends (R418). With area 0 the manifest can be read: the interleave is set (R251) and the
owner slots' keys are unwrapped (R284). An area scanned since the cap reset is not scanned again.
(DEDUCED, log entry 62.) -/
def execAreaScanDone (a : Fin 3) (s : State) : Host.Outcome State Fault Refusal :=
  .next (if s.grn.scanned.getLsbD a.val then s
    else
      let s := s.areaScanned a.val
      if a.val = 0 then
        match s.manifest with
        | some m => ((List.range 4).foldl (fun s k => s.setFld (hbmPage k) 0x44 0 1 (num m 9 1)) s).unwrapSlots
        | none => s.unwrapSlots
      else s)

end Sys2Proof.Machine
end

