-- ==== Sys2Proof/Machine/Dispatch.lean ====
section
/-! DEFINITION. Which meaning each command has. -/

namespace Sys2Proof.Machine

def exec (i : Instr) (s : State) : Host.Outcome State Fault Refusal :=
  match i with
  | .porAssert => Sys2Proof.Machine.execPorAssert s
  | .porRelease bootMode twinId brksel => Sys2Proof.Machine.execPorRelease bootMode twinId brksel s
  | .areaScanDone a => Sys2Proof.Machine.execAreaScanDone a s
  | .resetNLow => Sys2Proof.Machine.execResetNLow s
  | .rstWarm => Sys2Proof.Machine.execRstWarm s
  | .rstCold => Sys2Proof.Machine.execRstCold s
  | .rstSail sail => Sys2Proof.Machine.execRstSail sail s
  | .sailResetRelease sail => Sys2Proof.Machine.execSailResetRelease sail s
  | .pllLock d pll => Sys2Proof.Machine.execPllLock d pll s
  | .sailCtrlRelease sail strap => Sys2Proof.Machine.execSailCtrlRelease sail strap s
  | .regionIslandRelease => Sys2Proof.Machine.execRegionIslandRelease s
  | .pllUnlock sail pll => Sys2Proof.Machine.execPllUnlock sail pll s
  | .linkTrainingStart l => Sys2Proof.Machine.execLinkTrainingStart l s
  | .sidebandInitDone l => Sys2Proof.Machine.execSidebandInitDone l s
  | .fvIdExchange l a b => Sys2Proof.Machine.execFvIdExchange l a b s
  | .mainbandTrainDone l rate => Sys2Proof.Machine.execMainbandTrainDone l rate s
  | .laneRepairDone l a b => Sys2Proof.Machine.execLaneRepairDone l a b s
  | .fvWidthExchange l => Sys2Proof.Machine.execFvWidthExchange l s
  | .widthRetrainDone l a b => Sys2Proof.Machine.execWidthRetrainDone l a b s
  | .echoMeasureDone l delay => Sys2Proof.Machine.execEchoMeasureDone l delay s
  | .markerAlign l => Sys2Proof.Machine.execMarkerAlign l s
  | .trainingStepTimeout l => Sys2Proof.Machine.execTrainingStepTimeout l s
  | .filvarFrameRx l second => Sys2Proof.Machine.execFilvarFrameRx l second s
  | .gsAlignerRelease n p => Sys2Proof.Machine.execGsAlignerRelease n p s
  | .adapterCrcFail l second => Sys2Proof.Machine.execAdapterCrcFail l second s
  | .fvlRetrain l => Sys2Proof.Machine.execFvlRetrain l s
  | .creditReturn n port vc => Sys2Proof.Machine.execCreditReturn n port vc s
  | .routerFlitIn n input f sb hpar => Sys2Proof.Machine.execRouterFlitIn n input f sb hpar s
  | .prbFreeze n => Sys2Proof.Machine.execPrbFreeze n s
  | .gsInjectSample n => Sys2Proof.Machine.execGsInjectSample n s
  | .bePacketInject n p => Sys2Proof.Machine.execBePacketInject n p s
  | .endpointBeArrive n f masked => Sys2Proof.Machine.execEndpointBeArrive n f masked s
  | .gsFlitEject n f => Sys2Proof.Machine.execGsFlitEject n f s
  | .epClose n => Sys2Proof.Machine.execEpClose n s
  | .epOpen n => Sys2Proof.Machine.execEpOpen n s
  | .gateClosed n => Sys2Proof.Machine.execGateClosed n s
  | .gateForcedClose n => Sys2Proof.Machine.execGateForcedClose n s
  | .roundStart d => Sys2Proof.Machine.execRoundStart d s
  | .cogTabDataWrite node w => Sys2Proof.Machine.execCogTabDataWrite node w s
  | .cogTabDataRead node => Sys2Proof.Machine.execCogTabDataRead node s
  | .cogSwapArm node round => Sys2Proof.Machine.execCogSwapArm node round s
  | .cogSwapDisarm node round => Sys2Proof.Machine.execCogSwapDisarm node round s
  | .cogEnable node => Sys2Proof.Machine.execCogEnable node s
  | .regionCycle r => Sys2Proof.Machine.execRegionCycle r s
  | .cellResultLand a => Sys2Proof.Machine.execCellResultLand a s
  | .cellNop a f => Sys2Proof.Machine.execCellNop a f s
  | .cellMov a f => Sys2Proof.Machine.execCellMov a f s
  | .cellAdd a f => Sys2Proof.Machine.execCellAdd a f s
  | .cellAddc a f => Sys2Proof.Machine.execCellAddc a f s
  | .cellAddw a f => Sys2Proof.Machine.execCellAddw a f s
  | .cellSub a f => Sys2Proof.Machine.execCellSub a f s
  | .cellSubc a f => Sys2Proof.Machine.execCellSubc a f s
  | .cellSubw a f => Sys2Proof.Machine.execCellSubw a f s
  | .cellAddi a f => Sys2Proof.Machine.execCellAddi a f s
  | .cellSubi a f => Sys2Proof.Machine.execCellSubi a f s
  | .cellAbs a f => Sys2Proof.Machine.execCellAbs a f s
  | .cellSel a f => Sys2Proof.Machine.execCellSel a f s
  | .cellMin a f => Sys2Proof.Machine.execCellMin a f s
  | .cellMax a f => Sys2Proof.Machine.execCellMax a f s
  | .cellMinu a f => Sys2Proof.Machine.execCellMinu a f s
  | .cellMaxu a f => Sys2Proof.Machine.execCellMaxu a f s
  | .cellCmpeq a f => Sys2Proof.Machine.execCellCmpeq a f s
  | .cellCmpne a f => Sys2Proof.Machine.execCellCmpne a f s
  | .cellCmplt a f => Sys2Proof.Machine.execCellCmplt a f s
  | .cellCmple a f => Sys2Proof.Machine.execCellCmple a f s
  | .cellCmpltu a f => Sys2Proof.Machine.execCellCmpltu a f s
  | .cellCmpleu a f => Sys2Proof.Machine.execCellCmpleu a f s
  | .cellCmpltw a f => Sys2Proof.Machine.execCellCmpltw a f s
  | .cellCmpltuw a f => Sys2Proof.Machine.execCellCmpltuw a f s
  | .cellAnd a f => Sys2Proof.Machine.execCellAnd a f s
  | .cellOr a f => Sys2Proof.Machine.execCellOr a f s
  | .cellXor a f => Sys2Proof.Machine.execCellXor a f s
  | .cellAndn a f => Sys2Proof.Machine.execCellAndn a f s
  | .cellShl a f => Sys2Proof.Machine.execCellShl a f s
  | .cellShr a f => Sys2Proof.Machine.execCellShr a f s
  | .cellSar a f => Sys2Proof.Machine.execCellSar a f s
  | .cellRol a f => Sys2Proof.Machine.execCellRol a f s
  | .cellShli a f => Sys2Proof.Machine.execCellShli a f s
  | .cellShri a f => Sys2Proof.Machine.execCellShri a f s
  | .cellSari a f => Sys2Proof.Machine.execCellSari a f s
  | .cellPopc a f => Sys2Proof.Machine.execCellPopc a f s
  | .cellLd a f => Sys2Proof.Machine.execCellLd a f s
  | .cellSt a f => Sys2Proof.Machine.execCellSt a f s
  | .cellTagrd a f => Sys2Proof.Machine.execCellTagrd a f s
  | .cellTagout a f => Sys2Proof.Machine.execCellTagout a f s
  | .cellMul a f => Sys2Proof.Machine.execCellMul a f s
  | .cellMulh a f => Sys2Proof.Machine.execCellMulh a f s
  | .cellMulhu a f => Sys2Proof.Machine.execCellMulhu a f s
  | .cellMac a f => Sys2Proof.Machine.execCellMac a f s
  | .cellMacu a f => Sys2Proof.Machine.execCellMacu a f s
  | .cellMsu a f => Sys2Proof.Machine.execCellMsu a f s
  | .cellMulH a f => Sys2Proof.Machine.execCellMulH a f s
  | .cellAccrd a f => Sys2Proof.Machine.execCellAccrd a f s
  | .cellAddH a f => Sys2Proof.Machine.execCellAddH a f s
  | .cellSubH a f => Sys2Proof.Machine.execCellSubH a f s
  | .cellAddsH a f => Sys2Proof.Machine.execCellAddsH a f s
  | .cellSubsH a f => Sys2Proof.Machine.execCellSubsH a f s
  | .cellMinH a f => Sys2Proof.Machine.execCellMinH a f s
  | .cellMaxH a f => Sys2Proof.Machine.execCellMaxH a f s
  | .cellCmpltH a f => Sys2Proof.Machine.execCellCmpltH a f s
  | .cellMacH a f => Sys2Proof.Machine.execCellMacH a f s
  | .cellAddB a f => Sys2Proof.Machine.execCellAddB a f s
  | .cellSubB a f => Sys2Proof.Machine.execCellSubB a f s
  | .cellAddusB a f => Sys2Proof.Machine.execCellAddusB a f s
  | .cellSubusB a f => Sys2Proof.Machine.execCellSubusB a f s
  | .cellMinuB a f => Sys2Proof.Machine.execCellMinuB a f s
  | .cellMaxuB a f => Sys2Proof.Machine.execCellMaxuB a f s
  | .cellMacB a f => Sys2Proof.Machine.execCellMacB a f s
  | .cellSadB a f => Sys2Proof.Machine.execCellSadB a f s
  | .tileMemBeAccess r t => Sys2Proof.Machine.execTileMemBeAccess r t s
  | .tileMemWaitLimit r t => Sys2Proof.Machine.execTileMemWaitLimit r t s
  | .seqStepTime r => Sys2Proof.Machine.execSeqStepTime r s
  | .sampleDelivery d => Sys2Proof.Machine.execSampleDelivery d s
  | .queueWordArrive page idx w => Sys2Proof.Machine.execQueueWordArrive page idx w s
  | .spillIdleTimeout page idx => Sys2Proof.Machine.execSpillIdleTimeout page idx s
  | .queueDeliver page idx => Sys2Proof.Machine.execQueueDeliver page idx s
  | .leatResponse page idx txn status data => Sys2Proof.Machine.execLeatResponse page idx txn status data s
  | .leatTimeout page idx txn => Sys2Proof.Machine.execLeatTimeout page idx txn s
  | .leatReissue page idx txn => Sys2Proof.Machine.execLeatReissue page idx txn s
  | .qpFlush page idx => Sys2Proof.Machine.execQpFlush page idx s
  | .flushEffect page idx => Sys2Proof.Machine.execFlushEffect page idx s
  | .flushForced page idx => Sys2Proof.Machine.execFlushForced page idx s
  | .qpWeirWrite page idx w => Sys2Proof.Machine.execQpWeirWrite page idx w s
  | .queueUnbind page idx => Sys2Proof.Machine.execQueueUnbind page idx s
  | .unbindTimeout page idx => Sys2Proof.Machine.execUnbindTimeout page idx s
  | .svcPush q ws => Sys2Proof.Machine.execSvcPush q ws s
  | .svcPop q n quiet => Sys2Proof.Machine.execSvcPop q n quiet s
  | .svcFlush q => Sys2Proof.Machine.execSvcFlush q s
  | .svcWeir q w => Sys2Proof.Machine.execSvcWeir q w s
  | .svcStatus q => Sys2Proof.Machine.execSvcStatus q s
  | .svcConfig q payload => Sys2Proof.Machine.execSvcConfig q payload s
  | .svcReservedOp q op => Sys2Proof.Machine.execSvcReservedOp q op s
  | .qmEnable quarter on => Sys2Proof.Machine.execQmEnable quarter on s
  | .encLevelAccept c a b z => Sys2Proof.Machine.execEncLevelAccept c a b z s
  | .lineFault c m => Sys2Proof.Machine.execLineFault c m s
  | .ssiFrameStart c => Sys2Proof.Machine.execSsiFrameStart c s
  | .ssiFrameEnd c raw par => Sys2Proof.Machine.execSsiFrameEnd c raw par s
  | .axCtrlWrite a w => Sys2Proof.Machine.execAxCtrlWrite a w s
  | .armRef a => Sys2Proof.Machine.execArmRef a s
  | .invalidate a => Sys2Proof.Machine.execInvalidate a s
  | .govSample => Sys2Proof.Machine.execGovSample s
  | .tbRateWrite w => Sys2Proof.Machine.execTbRateWrite w s
  | .tbAdjWrite w => Sys2Proof.Machine.execTbAdjWrite w s
  | .tbSet hi => Sys2Proof.Machine.execTbSet hi s
  | .tbLoRead => Sys2Proof.Machine.execTbLoRead s
  | .axPosRead a => Sys2Proof.Machine.execAxPosRead a s
  | .ioStampedArrive d g w => Sys2Proof.Machine.execIoStampedArrive d g w s
  | .stampCommit d g => Sys2Proof.Machine.execStampCommit d g s
  | .stampDriveStart d g => Sys2Proof.Machine.execStampDriveStart d g s
  | .ltEnable t w => Sys2Proof.Machine.execLtEnable t w s
  | .triggerFire t => Sys2Proof.Machine.execTriggerFire t s
  | .bankPortRead b idx e => Sys2Proof.Machine.execBankPortRead b idx e s
  | .bankPortWrite b idx w => Sys2Proof.Machine.execBankPortWrite b idx w s
  | .bankPortBadcmd b w => Sys2Proof.Machine.execBankPortBadcmd b w s
  | .bankReadPresent b => Sys2Proof.Machine.execBankReadPresent b s
  | .bankWriteback b => Sys2Proof.Machine.execBankWriteback b s
  | .bankBeAccess b e => Sys2Proof.Machine.execBankBeAccess b e s
  | .bankBeWaitLimit b => Sys2Proof.Machine.execBankBeWaitLimit b s
  | .bankOwnerWrite b w => Sys2Proof.Machine.execBankOwnerWrite b w s
  | .ownerDone b => Sys2Proof.Machine.execOwnerDone b s
  | .heldRequestTimeout b => Sys2Proof.Machine.execHeldRequestTimeout b s
  | .bankPwrReq b req => Sys2Proof.Machine.execBankPwrReq b req s
  | .bankPwrDone b => Sys2Proof.Machine.execBankPwrDone b s
  | .secureWipeDone b => Sys2Proof.Machine.execSecureWipeDone b s
  | .hbmRestoreDone k rate failing => Sys2Proof.Machine.execHbmRestoreDone k rate failing s
  | .hbmTrainDone k rate failing repaired => Sys2Proof.Machine.execHbmTrainDone k rate failing repaired s
  | .hbmRequest k e ch => Sys2Proof.Machine.execHbmRequest k e ch s
  | .hotRefresh k t => Sys2Proof.Machine.execHotRefresh k t s
  | .hbmVccDrop k => Sys2Proof.Machine.execHbmVccDrop k s
  | .dmaGo e => Sys2Proof.Machine.execDmaGo e s
  | .dmaStop e => Sys2Proof.Machine.execDmaStop e s
  | .dmaTransferResponse e txn status data => Sys2Proof.Machine.execDmaTransferResponse e txn status data s
  | .dmaTransferTimeout e txn => Sys2Proof.Machine.execDmaTransferTimeout e txn s
  | .secTakeOwnership secure fuseOk => Sys2Proof.Machine.execSecTakeOwnership secure fuseOk s
  | .secAddOwnerKey secure fuseOk => Sys2Proof.Machine.execSecAddOwnerKey secure fuseOk s
  | .secRevokeOwnerKey secure fuseOk => Sys2Proof.Machine.execSecRevokeOwnerKey secure fuseOk s
  | .secToField secure fuseOk => Sys2Proof.Machine.execSecToField secure fuseOk s
  | .secToReturn secure fuseOk => Sys2Proof.Machine.execSecToReturn secure fuseOk s
  | .secToVoid secure fuseOk => Sys2Proof.Machine.execSecToVoid secure fuseOk s
  | .secAdvanceRollback secure fuseOk => Sys2Proof.Machine.execSecAdvanceRollback secure fuseOk s
  | .secInstallKey secure => Sys2Proof.Machine.execSecInstallKey secure s
  | .secDeleteKey secure => Sys2Proof.Machine.execSecDeleteKey secure s
  | .secGetDik secure => Sys2Proof.Machine.execSecGetDik secure s
  | .secReservedOpcode op secure => Sys2Proof.Machine.execSecReservedOpcode op secure s
  | .secNonceGen admitted => Sys2Proof.Machine.execSecNonceGen admitted s
  | .nonceExpire => Sys2Proof.Machine.execNonceExpire s
  | .tamperTrip sensors under => Sys2Proof.Machine.execTamperTrip sensors under s
  | .meshRefresh => Sys2Proof.Machine.execMeshRefresh s
  | .tamperLogClear w rom => Sys2Proof.Machine.execTamperLogClear w rom s
  | .debugUnlock level admitted fuseOk => Sys2Proof.Machine.execDebugUnlock level admitted fuseOk s
  | .trngRead quiet => Sys2Proof.Machine.execTrngRead quiet s
  | .trngHealthFail proportion => Sys2Proof.Machine.execTrngHealthFail proportion s
  | .trngRecover => Sys2Proof.Machine.execTrngRecover s
  | .imageHeader h => Sys2Proof.Machine.execImageHeader h s
  | .recordCell cond target data => Sys2Proof.Machine.execRecordCell cond target data s
  | .recordCellInit cond target data => Sys2Proof.Machine.execRecordCellInit cond target data s
  | .recordTile cond target data => Sys2Proof.Machine.execRecordTile cond target data s
  | .recordRegion cond target data => Sys2Proof.Machine.execRecordRegion cond target data s
  | .recordBank cond target data => Sys2Proof.Machine.execRecordBank cond target data s
  | .recordCog cond target data => Sys2Proof.Machine.execRecordCog cond target data s
  | .recordXing cond target data => Sys2Proof.Machine.execRecordXing cond target data s
  | .recordQueue cond target data => Sys2Proof.Machine.execRecordQueue cond target data s
  | .recordMemory cond target data => Sys2Proof.Machine.execRecordMemory cond target data s
  | .recordZero cond target data => Sys2Proof.Machine.execRecordZero cond target data s
  | .recordPackage cond target data => Sys2Proof.Machine.execRecordPackage cond target data s
  | .recordGovernor cond target data => Sys2Proof.Machine.execRecordGovernor cond target data s
  | .recordSecurity cond target data => Sys2Proof.Machine.execRecordSecurity cond target data s
  | .recordCore cond target data => Sys2Proof.Machine.execRecordCore cond target data s
  | .recordIob cond target data => Sys2Proof.Machine.execRecordIob cond target data s
  | .recordRestore cond target data => Sys2Proof.Machine.execRecordRestore cond target data s
  | .recordCogSwap cond target data => Sys2Proof.Machine.execRecordCogSwap cond target data s
  | .recordReserved type target => Sys2Proof.Machine.execRecordReserved type target s
  | .recordEnd target => Sys2Proof.Machine.execRecordEnd target s
  | .imageTag tag => Sys2Proof.Machine.execImageTag tag s
  | .streamTimeout => Sys2Proof.Machine.execStreamTimeout s
  | .loadActivate => Sys2Proof.Machine.execLoadActivate s
  | .cfgGo src => Sys2Proof.Machine.execCfgGo src s
  | .cfgAbort => Sys2Proof.Machine.execCfgAbort s
  | .sluiceWord w => Sys2Proof.Machine.execSluiceWord w s
  | .bistUnitStart d => Sys2Proof.Machine.execBistUnitStart d s
  | .bistUnitEnd type d index pass => Sys2Proof.Machine.execBistUnitEnd type d index pass s
  | .bootBistEnd => Sys2Proof.Machine.execBootBistEnd s
  | .bistOnlineTick sail => Sys2Proof.Machine.execBistOnlineTick sail s
  | .clkIslCtrlWrite d idx w => Sys2Proof.Machine.execClkIslCtrlWrite d idx w s
  | .clkChangeDone d idx => Sys2Proof.Machine.execClkChangeDone d idx s
  | .telemetryMsg d power temp => Sys2Proof.Machine.execTelemetryMsg d power temp s
  | .telemLost d => Sys2Proof.Machine.execTelemLost d s
  | .controlPeriod => Sys2Proof.Machine.execControlPeriod s
  | .pwrSetpointWrite w => Sys2Proof.Machine.execPwrSetpointWrite w s
  | .pwrWake die kind index => Sys2Proof.Machine.execPwrWake die kind index s
  | .pwrSleep die kind index force => Sys2Proof.Machine.execPwrSleep die kind index force s
  | .pwrRetain die kind index => Sys2Proof.Machine.execPwrRetain die kind index s
  | .pwrInvalid op die kind index => Sys2Proof.Machine.execPwrInvalid op die kind index s
  | .sleepDrainEnd => Sys2Proof.Machine.execSleepDrainEnd s
  | .pwrDone => Sys2Proof.Machine.execPwrDone s
  | .twnEnable on => Sys2Proof.Machine.execTwnEnable on s
  | .helloTimeout => Sys2Proof.Machine.execHelloTimeout s
  | .fantailTrainDone locked => Sys2Proof.Machine.execFantailTrainDone locked s
  | .ftHelloSend => Sys2Proof.Machine.execFtHelloSend s
  | .ftBeatSend => Sys2Proof.Machine.execFtBeatSend s
  | .ftPoschkSend => Sys2Proof.Machine.execFtPoschkSend s
  | .ftHelloRx h id role mode axis span hash => Sys2Proof.Machine.execFtHelloRx h id role mode axis span hash s
  | .ftBeatRx h echoTs echoAt => Sys2Proof.Machine.execFtBeatRx h echoTs echoAt s
  | .ftPoschkRx h a0 a1 a2 a3 => Sys2Proof.Machine.execFtPoschkRx h a0 a1 a2 a3 s
  | .ftDigestRx h span digest pkts => Sys2Proof.Machine.execFtDigestRx h span digest pkts s
  | .ftMirqRx h q ws => Sys2Proof.Machine.execFtMirqRx h q ws s
  | .ftCkptRx h span pairs => Sys2Proof.Machine.execFtCkptRx h span pairs s
  | .ftGranRx h id off last data => Sys2Proof.Machine.execFtGranRx h id off last data s
  | .ftFailRx h => Sys2Proof.Machine.execFtFailRx h s
  | .ftSwitchRx h p ack => Sys2Proof.Machine.execFtSwitchRx h p ack s
  | .ftStateRx h a data => Sys2Proof.Machine.execFtStateRx h a data s
  | .ftResendTimeout => Sys2Proof.Machine.execFtResendTimeout s
  | .ftSilenceTimeout => Sys2Proof.Machine.execFtSilenceTimeout s
  | .ownRaise => Sys2Proof.Machine.execOwnRaise s
  | .fenceInHigh => Sys2Proof.Machine.execFenceInHigh s
  | .peerOwnFall => Sys2Proof.Machine.execPeerOwnFall s
  | .takeoverBlocked => Sys2Proof.Machine.execTakeoverBlocked s
  | .twnSwitchGo => Sys2Proof.Machine.execTwnSwitchGo s
  | .switchAckTimeout => Sys2Proof.Machine.execSwitchAckTimeout s
  | .switchHandover => Sys2Proof.Machine.execSwitchHandover s
  | .twnJoin => Sys2Proof.Machine.execTwnJoin s
  | .twnDetach => Sys2Proof.Machine.execTwnDetach s
  | .twnUnfence => Sys2Proof.Machine.execTwnUnfence s
  | .twnFail => Sys2Proof.Machine.execTwnFail s
  | .spanClose => Sys2Proof.Machine.execSpanClose s
  | .digestTimeout => Sys2Proof.Machine.execDigestTimeout s
  | .joinStepTimeout => Sys2Proof.Machine.execJoinStepTimeout s
  | .glcAdd c rd ra rb sf => Sys2Proof.Machine.execGlcAdd c rd ra rb sf s
  | .glcSub c rd ra rb sf => Sys2Proof.Machine.execGlcSub c rd ra rb sf s
  | .glcAnd c rd ra rb sf => Sys2Proof.Machine.execGlcAnd c rd ra rb sf s
  | .glcOr c rd ra rb sf => Sys2Proof.Machine.execGlcOr c rd ra rb sf s
  | .glcXor c rd ra rb sf => Sys2Proof.Machine.execGlcXor c rd ra rb sf s
  | .glcAndn c rd ra rb sf => Sys2Proof.Machine.execGlcAndn c rd ra rb sf s
  | .glcShl c rd ra rb sf => Sys2Proof.Machine.execGlcShl c rd ra rb sf s
  | .glcShr c rd ra rb sf => Sys2Proof.Machine.execGlcShr c rd ra rb sf s
  | .glcSar c rd ra rb sf => Sys2Proof.Machine.execGlcSar c rd ra rb sf s
  | .glcSlt c rd ra rb sf => Sys2Proof.Machine.execGlcSlt c rd ra rb sf s
  | .glcSltu c rd ra rb sf => Sys2Proof.Machine.execGlcSltu c rd ra rb sf s
  | .glcMin c rd ra rb sf => Sys2Proof.Machine.execGlcMin c rd ra rb sf s
  | .glcMax c rd ra rb sf => Sys2Proof.Machine.execGlcMax c rd ra rb sf s
  | .glcMinu c rd ra rb sf => Sys2Proof.Machine.execGlcMinu c rd ra rb sf s
  | .glcMaxu c rd ra rb sf => Sys2Proof.Machine.execGlcMaxu c rd ra rb sf s
  | .glcMul c rd ra rb sf => Sys2Proof.Machine.execGlcMul c rd ra rb sf s
  | .glcMulh c rd ra rb sf => Sys2Proof.Machine.execGlcMulh c rd ra rb sf s
  | .glcMulhu c rd ra rb sf => Sys2Proof.Machine.execGlcMulhu c rd ra rb sf s
  | .glcDiv c rd ra rb sf => Sys2Proof.Machine.execGlcDiv c rd ra rb sf s
  | .glcDivu c rd ra rb sf => Sys2Proof.Machine.execGlcDivu c rd ra rb sf s
  | .glcRem c rd ra rb sf => Sys2Proof.Machine.execGlcRem c rd ra rb sf s
  | .glcRemu c rd ra rb sf => Sys2Proof.Machine.execGlcRemu c rd ra rb sf s
  | .glcClz c rd ra sf => Sys2Proof.Machine.execGlcClz c rd ra sf s
  | .glcPopc c rd ra sf => Sys2Proof.Machine.execGlcPopc c rd ra sf s
  | .glcCmp c ra rb => Sys2Proof.Machine.execGlcCmp c ra rb s
  | .glcAddi c rd ra imm => Sys2Proof.Machine.execGlcAddi c rd ra imm s
  | .glcAndi c rd ra imm => Sys2Proof.Machine.execGlcAndi c rd ra imm s
  | .glcOri c rd ra imm => Sys2Proof.Machine.execGlcOri c rd ra imm s
  | .glcXori c rd ra imm => Sys2Proof.Machine.execGlcXori c rd ra imm s
  | .glcSlti c rd ra imm => Sys2Proof.Machine.execGlcSlti c rd ra imm s
  | .glcSltiu c rd ra imm => Sys2Proof.Machine.execGlcSltiu c rd ra imm s
  | .glcLui c rd imm => Sys2Proof.Machine.execGlcLui c rd imm s
  | .glcShli c rd ra n => Sys2Proof.Machine.execGlcShli c rd ra n s
  | .glcShri c rd ra n => Sys2Proof.Machine.execGlcShri c rd ra n s
  | .glcSari c rd ra n => Sys2Proof.Machine.execGlcSari c rd ra n s
  | .glcCmpi c ra imm => Sys2Proof.Machine.execGlcCmpi c ra imm s
  | .glcLdw c rd ra imm bad => Sys2Proof.Machine.execGlcLdw c rd ra imm bad s
  | .glcLdh c rd ra imm bad => Sys2Proof.Machine.execGlcLdh c rd ra imm bad s
  | .glcLdhu c rd ra imm bad => Sys2Proof.Machine.execGlcLdhu c rd ra imm bad s
  | .glcLdb c rd ra imm bad => Sys2Proof.Machine.execGlcLdb c rd ra imm bad s
  | .glcLdbu c rd ra imm bad => Sys2Proof.Machine.execGlcLdbu c rd ra imm bad s
  | .glcStw c rd ra imm bad => Sys2Proof.Machine.execGlcStw c rd ra imm bad s
  | .glcSth c rd ra imm bad => Sys2Proof.Machine.execGlcSth c rd ra imm bad s
  | .glcStb c rd ra imm bad => Sys2Proof.Machine.execGlcStb c rd ra imm bad s
  | .glcLdl c rd ra imm bad => Sys2Proof.Machine.execGlcLdl c rd ra imm bad s
  | .glcStc c rd ra rb bad => Sys2Proof.Machine.execGlcStc c rd ra rb bad s
  | .glcB c cond disp => Sys2Proof.Machine.execGlcB c cond disp s
  | .glcCall c disp => Sys2Proof.Machine.execGlcCall c disp s
  | .glcCallr c ra imm => Sys2Proof.Machine.execGlcCallr c ra imm s
  | .glcJ c disp => Sys2Proof.Machine.execGlcJ c disp s
  | .glcJr c ra imm => Sys2Proof.Machine.execGlcJr c ra imm s
  | .glcRet c => Sys2Proof.Machine.execGlcRet c s
  | .glcRtx c => Sys2Proof.Machine.execGlcRtx c s
  | .glcStm c bs mask k bad => Sys2Proof.Machine.execGlcStm c bs mask k bad s
  | .glcLdm c bs mask k bad => Sys2Proof.Machine.execGlcLdm c bs mask k bad s
  | .glcSvc c imm => Sys2Proof.Machine.execGlcSvc c imm s
  | .illegalTrap c => Sys2Proof.Machine.execIllegalTrap c s
  | .glcWspill c rd => Sys2Proof.Machine.execGlcWspill c rd s
  | .glcWfill c rd => Sys2Proof.Machine.execGlcWfill c rd s
  | .glcYield c => Sys2Proof.Machine.execGlcYield c s
  | .glcWait c rd ra => Sys2Proof.Machine.execGlcWait c rd ra s
  | .glcSignal c ra => Sys2Proof.Machine.execGlcSignal c ra s
  | .glcMfsr c rd n => Sys2Proof.Machine.execGlcMfsr c rd n s
  | .glcMtsr c n ra => Sys2Proof.Machine.execGlcMtsr c n ra s
  | .glcFence c => Sys2Proof.Machine.execGlcFence c s
  | .glcCwb c ra => Sys2Proof.Machine.execGlcCwb c ra s
  | .glcCinv c ra => Sys2Proof.Machine.execGlcCinv c ra s
  | .glcIinv c ra => Sys2Proof.Machine.execGlcIinv c ra s
  | .glcBkpt c => Sys2Proof.Machine.execGlcBkpt c s
  | .glcSecclr c => Sys2Proof.Machine.execGlcSecclr c s
  | .busRetry c => Sys2Proof.Machine.execBusRetry c s
  | .busResponseTimeout c => Sys2Proof.Machine.execBusResponseTimeout c s
  | .lockForce c => Sys2Proof.Machine.execLockForce c s
  | .tskTimerExpire c t => Sys2Proof.Machine.execTskTimerExpire c t s
  | .sliceExpire c => Sys2Proof.Machine.execSliceExpire c s
  | .eventMessageRx second msg => Sys2Proof.Machine.execEventMessageRx second msg s
  | .tskEvpendWrite c t w => Sys2Proof.Machine.execTskEvpendWrite c t w s
  | .tskEnableWrite c t w => Sys2Proof.Machine.execTskEnableWrite c t w s
  | .coreReset c node port => Sys2Proof.Machine.execCoreReset c node port s
  | .wdtKick c w => Sys2Proof.Machine.execWdtKick c w s
  | .wdtExpire c => Sys2Proof.Machine.execWdtExpire c s
  | .fabSync w => Sys2Proof.Machine.execFabSync w s
  | .fabExpire => Sys2Proof.Machine.execFabExpire s
  | .pkgKick w => Sys2Proof.Machine.execPkgKick w s
  | .pkgExpire => Sys2Proof.Machine.execPkgExpire s
  | .grnCommit who vhold => Sys2Proof.Machine.execGrnCommit who vhold s
  | .grnDelete who vhold => Sys2Proof.Machine.execGrnDelete who vhold s
  | .grnRead who => Sys2Proof.Machine.execGrnRead who s
  | .grnBadOp op => Sys2Proof.Machine.execGrnBadOp op s
  | .commitDone fails => Sys2Proof.Machine.execCommitDone fails s
  | .compactionDone => Sys2Proof.Machine.execCompactionDone s
  | .powerfail vhold => Sys2Proof.Machine.execPowerfail vhold s
  | .powerfailClear vhold => Sys2Proof.Machine.execPowerfailClear vhold s
  | .monitorRead d readings => Sys2Proof.Machine.execMonitorRead d readings s
  | .lifeHour => Sys2Proof.Machine.execLifeHour s
  | .ioStreamWord d g w => Sys2Proof.Machine.execIoStreamWord d g w s
  | .ioCaptureWord d g v => Sys2Proof.Machine.execIoCaptureWord d g v s
  | .calRun d lock nc t0 => Sys2Proof.Machine.execCalRun d lock nc t0 s
  | .iobPinWrite d p w => Sys2Proof.Machine.execIobPinWrite d p w s
  | .iobGrpWrite d g w => Sys2Proof.Machine.execIobGrpWrite d g w s
  | .vccioLoss d b => Sys2Proof.Machine.execVccioLoss d b s
  | .xcvRawRx l w => Sys2Proof.Machine.execXcvRawRx l w s
  | .ethFrameRx m frame fcsOk => Sys2Proof.Machine.execEthFrameRx m frame fcsOk s
  | .ethFrameTx m => Sys2Proof.Machine.execEthFrameTx m s
  | .pcieBar0Write f off data => Sys2Proof.Machine.execPcieBar0Write f off data s
  | .pcieBar0Read f off n => Sys2Proof.Machine.execPcieBar0Read f off n s
  | .pcieBar2Write bs => Sys2Proof.Machine.execPcieBar2Write bs s
  | .msixMessage msg masked => Sys2Proof.Machine.execMsixMessage msg masked s
  | .pcieLinkChange up gen width => Sys2Proof.Machine.execPcieLinkChange up gen width s
  | .hdmaGo c => Sys2Proof.Machine.execHdmaGo c s
  | .hdmaTimeout c timeout => Sys2Proof.Machine.execHdmaTimeout c timeout s
  | .uartDataWrite k b => Sys2Proof.Machine.execUartDataWrite k b s
  | .uartDataRead k quiet => Sys2Proof.Machine.execUartDataRead k quiet s
  | .serialRxByte k b frameErr => Sys2Proof.Machine.execSerialRxByte k b frameErr s
  | .spiGo idx n => Sys2Proof.Machine.execSpiGo idx n s
  | .iicGo idx w lost => Sys2Proof.Machine.execIicGo idx w lost s
  | .tapInstructionLoad d code => Sys2Proof.Machine.execTapInstructionLoad d code s
  | .fuseDrUpdate bank value go fuseOk => Sys2Proof.Machine.execFuseDrUpdate bank value go fuseOk s
  | .dbgNop a v => Sys2Proof.Machine.execDbgNop a v s
  | .dbgRead a => Sys2Proof.Machine.execDbgRead a s
  | .dbgWriteNp a v => Sys2Proof.Machine.execDbgWriteNp a v s
  | .dbgWrite a v => Sys2Proof.Machine.execDbgWrite a v s
  | .secaccAccess op a v => Sys2Proof.Machine.execSecaccAccess op a v s
  | .dbgHalt c => Sys2Proof.Machine.execDbgHalt c s
  | .dbgResume c => Sys2Proof.Machine.execDbgResume c s
  | .dbgStep c => Sys2Proof.Machine.execDbgStep c s
  | .dbgHaltAll halt resume => Sys2Proof.Machine.execDbgHaltAll halt resume s
  | .dbgCregAccess c w => Sys2Proof.Machine.execDbgCregAccess c w s
  | .vccDbgLoss => Sys2Proof.Machine.execVccDbgLoss s
  | .trcClaim node port => Sys2Proof.Machine.execTrcClaim node port s
  | .trcRelease node port => Sys2Proof.Machine.execTrcRelease node port s
  | .traceRecordRx rec => Sys2Proof.Machine.execTraceRecordRx rec s
  | .trcRdataRead quiet => Sys2Proof.Machine.execTrcRdataRead quiet s
  | .evtPendClear p bits node port => Sys2Proof.Machine.execEvtPendClear p bits node port s
  | .evtEnWrite p bits node port => Sys2Proof.Machine.execEvtEnWrite p bits node port s
  | .errClear p node port => Sys2Proof.Machine.execErrClear p node port s
  | .lockSet p node port => Sys2Proof.Machine.execLockSet p node port s
  | .blkEnable p on node port => Sys2Proof.Machine.execBlkEnable p on node port s
  | .blkPowerWake p node port => Sys2Proof.Machine.execBlkPowerWake p node port s
  | .blkPowerSleep p node port => Sys2Proof.Machine.execBlkPowerSleep p node port s
  | .blkPowerRetain p node port => Sys2Proof.Machine.execBlkPowerRetain p node port s
  | .blkSoftReset p node port => Sys2Proof.Machine.execBlkSoftReset p node port s
  | .regReadClear p off node port => Sys2Proof.Machine.execRegReadClear p off node port s
  | .registerWrite a v posted node port => Sys2Proof.Machine.execRegisterWrite a v posted node port s
  | .resetNRelease => Sys2Proof.Machine.execResetNRelease s
  | .vccioReturn d b => Sys2Proof.Machine.execVccioReturn d b s
  | .vccDbgRise => Sys2Proof.Machine.execVccDbgRise s
  | .trstNAssert => Sys2Proof.Machine.execTrstNAssert s
  | .peerOwnRise => Sys2Proof.Machine.execPeerOwnRise s
  | .lineOkReturn c m => Sys2Proof.Machine.execLineOkReturn c m s
  | .refLost d => Sys2Proof.Machine.execRefLost d s
  | .hotRefreshEnd k t => Sys2Proof.Machine.execHotRefreshEnd k t s
  | .tbSlewDone => Sys2Proof.Machine.execTbSlewDone s
  | .dbgResponseTimeout => Sys2Proof.Machine.execDbgResponseTimeout s
  | .hostCompletionRx c bs => Sys2Proof.Machine.execHostCompletionRx c bs s
  | .ethLinkChange m lock link => Sys2Proof.Machine.execEthLinkChange m lock link s
  | .serialTransferDone k nack lost => Sys2Proof.Machine.execSerialTransferDone k nack lost s
  | .sourceReadError chain off => Sys2Proof.Machine.execSourceReadError chain off s
  | .chainByteArrive b => Sys2Proof.Machine.execChainByteArrive b s

end Sys2Proof.Machine
end

