-- ==== Sys2Proof/Machine/Step.lean ====
section
/-! DEFINITION. One step of the device: the command at the front of the queue, or one network cycle. -/

namespace Sys2Proof.Machine

/-- One step: the command at the front takes effect on the state with the rest of the queue; with nothing waiting one
network cycle passes. (DESIGN CHOICE, log entry 1; DESIGN CHOICE, log entry 2.) -/
def step (s : State) : Host.Outcome State Fault Refusal :=
  match s.pending with
  | c :: rest => exec c { s with pending := rest }
  | [] => .next s.tick

/-- The state with the command that a word spells put at the front of its queue. (DESIGN CHOICE, log entry 1.) -/
def State.withFetchWord (s : State) (nbits w : Nat) : State :=
  match decodeTableWord nbits w with
  | some c => { s with pending := c :: s.pending }
  | none => s

end Sys2Proof.Machine
end

