-- ==== Sys2Proof/Machine/CoreCode.lean ====
section
/-! DEFINITION. The instruction words of the Glaette cores (R384 to R389): the word of each core command, the words that
trap ILLEGAL by their encoding, and what it says that core commands follow the code in memory. -/

namespace Sys2Proof.Machine

/-- A word and the bits of it that the encoding fixes. -/
structure GlcCode where
  word : Word
  mask : Word
  deriving DecidableEq, Repr

/-- Format R (Table 16-4); `fix` masks the bits that count. -/
def codeR (op : BitVec 6) (rd ra rb : BitVec 5) (fn : BitVec 11) (fix : Word) : Option GlcCode :=
  some ⟨op ++ rd ++ ra ++ rb ++ fn, fix⟩

/-- Format I. -/
def codeI (op : BitVec 6) (rd ra : BitVec 5) (imm : BitVec 16) (fix : Word) : Option GlcCode :=
  some ⟨op ++ rd ++ ra ++ imm, fix⟩

/-- Format J. -/
def codeJ (op : BitVec 6) (disp : BitVec 26) : Option GlcCode := some ⟨op ++ disp, 0xFFFFFFFF#32⟩

/-- Format M: OP, BS in 25:24, MASK in 23:0. -/
def codeM (op : BitVec 6) (bs : BitVec 2) (mask : BitVec 24) : Option GlcCode := some ⟨op ++ bs ++ mask, 0xFFFFFFFF#32⟩

/-- An ALU word (Table 16-6): FN bit 10 is S. -/
def codeAlu (rd ra rb : BitVec 5) (sf : Bool) (fn : BitVec 10) : Option GlcCode :=
  codeR 0x00 rd ra rb (BitVec.ofBool sf ++ fn) 0xFFFFFFFF#32

/-- A SYS word (Table 16-7); `fix` masks RD, RA and RB where the function uses them. -/
def codeSys (rd ra rb : BitVec 5) (fn : BitVec 11) (fix : Word) : Option GlcCode := codeR 0x30 rd ra rb fn fix

/-- The word of a core command (Tables 16-4 to 16-8); none for every other command. Bits a format has and an instruction
does not name are free. -/
def glcWord : Instr → Option GlcCode
  | .glcAdd _ rd ra rb sf => codeAlu rd ra rb sf 0x001
  | .glcSub _ rd ra rb sf => codeAlu rd ra rb sf 0x002
  | .glcAnd _ rd ra rb sf => codeAlu rd ra rb sf 0x003
  | .glcOr _ rd ra rb sf => codeAlu rd ra rb sf 0x004
  | .glcXor _ rd ra rb sf => codeAlu rd ra rb sf 0x005
  | .glcAndn _ rd ra rb sf => codeAlu rd ra rb sf 0x006
  | .glcShl _ rd ra rb sf => codeAlu rd ra rb sf 0x007
  | .glcShr _ rd ra rb sf => codeAlu rd ra rb sf 0x008
  | .glcSar _ rd ra rb sf => codeAlu rd ra rb sf 0x009
  | .glcSlt _ rd ra rb sf => codeAlu rd ra rb sf 0x00A
  | .glcSltu _ rd ra rb sf => codeAlu rd ra rb sf 0x00B
  | .glcMin _ rd ra rb sf => codeAlu rd ra rb sf 0x00C
  | .glcMax _ rd ra rb sf => codeAlu rd ra rb sf 0x00D
  | .glcMinu _ rd ra rb sf => codeAlu rd ra rb sf 0x00E
  | .glcMaxu _ rd ra rb sf => codeAlu rd ra rb sf 0x00F
  | .glcMul _ rd ra rb sf => codeAlu rd ra rb sf 0x010
  | .glcMulh _ rd ra rb sf => codeAlu rd ra rb sf 0x011
  | .glcMulhu _ rd ra rb sf => codeAlu rd ra rb sf 0x012
  | .glcDiv _ rd ra rb sf => codeAlu rd ra rb sf 0x013
  | .glcDivu _ rd ra rb sf => codeAlu rd ra rb sf 0x014
  | .glcRem _ rd ra rb sf => codeAlu rd ra rb sf 0x015
  | .glcRemu _ rd ra rb sf => codeAlu rd ra rb sf 0x016
  | .glcClz _ rd ra sf => codeAlu rd ra 0 sf 0x017
  | .glcPopc _ rd ra sf => codeAlu rd ra 0 sf 0x018
  | .glcCmp _ ra rb => codeR 0x00 0 ra rb 0x019 0xFFFFFBFF#32
  | .glcAddi _ rd ra imm => codeI 0x01 rd ra imm 0xFFFFFFFF#32
  | .glcAndi _ rd ra imm => codeI 0x02 rd ra imm 0xFFFFFFFF#32
  | .glcOri _ rd ra imm => codeI 0x03 rd ra imm 0xFFFFFFFF#32
  | .glcXori _ rd ra imm => codeI 0x04 rd ra imm 0xFFFFFFFF#32
  | .glcSlti _ rd ra imm => codeI 0x05 rd ra imm 0xFFFFFFFF#32
  | .glcSltiu _ rd ra imm => codeI 0x06 rd ra imm 0xFFFFFFFF#32
  | .glcLui _ rd imm => codeI 0x07 rd 0 imm 0xFFFFFFFF#32
  | .glcShli _ rd ra n => codeI 0x08 rd ra (n.setWidth 16) 0xFFFFFFFF#32
  | .glcShri _ rd ra n => codeI 0x09 rd ra (n.setWidth 16) 0xFFFFFFFF#32
  | .glcSari _ rd ra n => codeI 0x0A rd ra (n.setWidth 16) 0xFFFFFFFF#32
  | .glcCmpi _ ra imm => codeI 0x0B 0 ra imm 0xFFFFFFFF#32
  | .glcLdw _ rd ra imm _ => codeI 0x10 rd ra imm 0xFFFFFFFF#32
  | .glcLdh _ rd ra imm _ => codeI 0x11 rd ra imm 0xFFFFFFFF#32
  | .glcLdhu _ rd ra imm _ => codeI 0x12 rd ra imm 0xFFFFFFFF#32
  | .glcLdb _ rd ra imm _ => codeI 0x13 rd ra imm 0xFFFFFFFF#32
  | .glcLdbu _ rd ra imm _ => codeI 0x14 rd ra imm 0xFFFFFFFF#32
  | .glcStw _ rd ra imm _ => codeI 0x15 rd ra imm 0xFFFFFFFF#32
  | .glcSth _ rd ra imm _ => codeI 0x16 rd ra imm 0xFFFFFFFF#32
  | .glcStb _ rd ra imm _ => codeI 0x17 rd ra imm 0xFFFFFFFF#32
  | .glcLdl _ rd ra imm _ => codeI 0x18 rd ra imm 0xFFFFFFFF#32
  | .glcStc _ rd ra rb _ => codeR 0x19 rd ra rb 0 0xFFFFFFFF#32
  | .glcB _ cond disp => some ⟨0x20#6 ++ BitVec.ofNat 4 cond.val ++ disp, 0xFFFFFFFF#32⟩
  | .glcCall _ disp => codeJ 0x21 disp
  | .glcCallr _ ra imm => codeI 0x22 0 ra imm 0xFC1FFFFF#32
  | .glcJ _ disp => codeJ 0x23 disp
  | .glcJr _ ra imm => codeI 0x24 0 ra imm 0xFC1FFFFF#32
  | .glcRet _ => codeJ 0x25 0
  | .glcRtx _ => codeJ 0x26 0
  | .glcStm _ bs mask _ _ => codeM 0x28 bs mask
  | .glcLdm _ bs mask _ _ => codeM 0x29 bs mask
  | .glcSvc _ imm => codeI 0x31 0 0 imm 0xFFFFFFFF#32
  | .glcWspill _ rd => codeSys rd 0 0 0x001 0xFFE007FF#32
  | .glcWfill _ rd => codeSys rd 0 0 0x002 0xFFE007FF#32
  | .glcYield _ => codeSys 0 0 0 0x003 0xFC0007FF#32
  | .glcWait _ rd ra => codeSys rd ra 0 0x004 0xFFFF07FF#32
  | .glcSignal _ ra => codeSys 0 ra 0 0x005 0xFC1F07FF#32
  | .glcMfsr _ rd n => codeSys rd 0 (BitVec.ofNat 5 n.val) 0x006 0xFFE0FFFF#32
  | .glcMtsr _ n ra => codeSys 0 ra (BitVec.ofNat 5 n.val) 0x007 0xFFFFFFFF#32
  | .glcFence _ => codeSys 0 0 0 0x008 0xFC0007FF#32
  | .glcCwb _ ra => codeSys 0 ra 0 0x009 0xFC1F07FF#32
  | .glcCinv _ ra => codeSys 0 ra 0 0x00A 0xFC1F07FF#32
  | .glcIinv _ ra => codeSys 0 ra 0 0x00B 0xFC1F07FF#32
  | .glcBkpt _ => codeSys 0 0 0 0x00C 0xFC0007FF#32
  | .glcSecclr _ => codeSys 0 0 0 0x00D 0xFC0007FF#32
  | _ => none

/-- The word is no instruction (R389): a reserved OP, FN or COND, a reserved special register, or a field that is not 0
where it must be. -/
def glcIllegal (w : Word) : Bool :=
  let op := fld w 26 6
  let rd := fld w 21 5
  let ra := fld w 16 5
  let rb := fld w 11 5
  let fn := fld w 0 10
  if op = 0x00 then fn = 0 || 0x19 < fn || ((fn = 0x17 || fn = 0x18) && rb != 0) || (fn = 0x19 && rd != 0)
  else if op ≤ 0x06 then false
  else if op = 0x07 then ra != 0
  else if op ≤ 0x0A then fld w 5 11 != 0
  else if op = 0x0B then rd != 0
  else if 0x10 ≤ op ∧ op ≤ 0x18 then false
  else if op = 0x19 then fld w 0 11 != 0
  else if op = 0x20 then fld w 22 4 = 15
  else if 0x21 ≤ op ∧ op ≤ 0x24 then false
  else if op = 0x25 ∨ op = 0x26 then fld w 0 26 != 0
  else if op = 0x28 ∨ op = 0x29 then false
  else if op = 0x30 then
    let f := fld w 0 11
    f = 0 || 0x0D < f || (f = 6 && 11 < rb) || (f = 7 && (11 < rb || rd != 0))
  else if op = 0x31 then rd != 0 || ra != 0
  else true

/-- The core of a core command that takes its turn as an instruction. -/
def glcCore : Instr → Option (Fin 4)
  | .glcAdd c _ _ _ _ => some c
  | .glcSub c _ _ _ _ => some c
  | .glcAnd c _ _ _ _ => some c
  | .glcOr c _ _ _ _ => some c
  | .glcXor c _ _ _ _ => some c
  | .glcAndn c _ _ _ _ => some c
  | .glcShl c _ _ _ _ => some c
  | .glcShr c _ _ _ _ => some c
  | .glcSar c _ _ _ _ => some c
  | .glcSlt c _ _ _ _ => some c
  | .glcSltu c _ _ _ _ => some c
  | .glcMin c _ _ _ _ => some c
  | .glcMax c _ _ _ _ => some c
  | .glcMinu c _ _ _ _ => some c
  | .glcMaxu c _ _ _ _ => some c
  | .glcMul c _ _ _ _ => some c
  | .glcMulh c _ _ _ _ => some c
  | .glcMulhu c _ _ _ _ => some c
  | .glcDiv c _ _ _ _ => some c
  | .glcDivu c _ _ _ _ => some c
  | .glcRem c _ _ _ _ => some c
  | .glcRemu c _ _ _ _ => some c
  | .glcClz c _ _ _ => some c
  | .glcPopc c _ _ _ => some c
  | .glcCmp c _ _ => some c
  | .glcAddi c _ _ _ => some c
  | .glcAndi c _ _ _ => some c
  | .glcOri c _ _ _ => some c
  | .glcXori c _ _ _ => some c
  | .glcSlti c _ _ _ => some c
  | .glcSltiu c _ _ _ => some c
  | .glcLui c _ _ => some c
  | .glcShli c _ _ _ => some c
  | .glcShri c _ _ _ => some c
  | .glcSari c _ _ _ => some c
  | .glcCmpi c _ _ => some c
  | .glcLdw c _ _ _ _ => some c
  | .glcLdh c _ _ _ _ => some c
  | .glcLdhu c _ _ _ _ => some c
  | .glcLdb c _ _ _ _ => some c
  | .glcLdbu c _ _ _ _ => some c
  | .glcStw c _ _ _ _ => some c
  | .glcSth c _ _ _ _ => some c
  | .glcStb c _ _ _ _ => some c
  | .glcLdl c _ _ _ _ => some c
  | .glcStc c _ _ _ _ => some c
  | .glcB c _ _ => some c
  | .glcCall c _ => some c
  | .glcCallr c _ _ => some c
  | .glcJ c _ => some c
  | .glcJr c _ _ => some c
  | .glcRet c => some c
  | .glcRtx c => some c
  | .glcStm c _ _ _ _ => some c
  | .glcLdm c _ _ _ _ => some c
  | .glcSvc c _ => some c
  | .illegalTrap c => some c
  | .glcWspill c _ => some c
  | .glcWfill c _ => some c
  | .glcYield c => some c
  | .glcWait c _ _ => some c
  | .glcSignal c _ => some c
  | .glcMfsr c _ _ => some c
  | .glcMtsr c _ _ => some c
  | .glcFence c => some c
  | .glcCwb c _ => some c
  | .glcCinv c _ => some c
  | .glcIinv c _ => some c
  | .glcBkpt c => some c
  | .glcSecclr c => some c
  | _ => none

/-- The word at the PC of a core, as it lies in memory, where the core address is one of memory. -/
def State.codeAt (s : State) (c : Nat) : Option Word := (s.corePkg c (s.cpc c).toNat).map s.readWord

/-- A core command is the instruction that stands in memory at the core's PC (log entry 74): its word, or for
ILLEGAL_TRAP a word that is no instruction. Every other command follows. (DEDUCED, log entry 74.) -/
def FollowsCode (s : State) (i : Instr) : Prop :=
  ∀ c, glcCore i = some c → ∃ w, s.codeAt c.val = some w ∧
    match glcWord i with
    | some k => w &&& k.mask = k.word &&& k.mask
    | none => glcIllegal w = true

end Sys2Proof.Machine
end

