-- ==== Sys2Proof/Safety.lean ====
section
/-! DEFINITION. What a safe run keeps, and the words in which claims are stated. -/

namespace Sys2Proof.Machine

/-- Byte memory is in canonical form: addresses strictly rising, no byte listed that an unlisted address reads as. -/
def Memory.wf (m : List Host.Cell) : Bool := twf memReset m

/-- What every step keeps: memory and registers are in canonical form, so equal contents are equal data. -/
def State.Inv (s : State) : Prop := Memory.wf s.mem = true ∧ twf resetOfKey s.regs = true

/-- The command completes: it answers a next state, and `P` holds of that state. -/
def Completes (c : Instr) (s : State) (P : State → Prop) : Prop := ∃ t, exec c s = .next t ∧ P t

/-- The parts of the state, by name. -/
inductive Field where
  | pending | regs | mem | outbox | cells | cellCtl | slots | tileCtl | switch | regions
  | cycle | tb | tbOff | tbSlew | free | status | answer | routers | dieCogs | cogTab
  | gsWait | capWin | isolated | descs | lru | atts | mirrorOut | mirrorCnt | axes | encs
  | trigs | samples | sampled | banks | hbmReq | dmas | links | linkEnds | training | aligners
  | sampleOut | fuses | sec | power | board | released | grn | health | grps | calT0
  | pinSet | braked | capBraked | twin | cores | resv | fabWdt | pkgWdt | loader | bist | outer
  | dbg | trace | clearing
  deriving DecidableEq, Repr

/-- A part of the state holds in `t` what it held in `s`. -/
def Field.same (f : Field) (s t : State) : Prop :=
  match f with
  | .pending => t.pending = s.pending
  | .regs => t.regs = s.regs
  | .mem => t.mem = s.mem
  | .outbox => t.outbox = s.outbox
  | .cells => t.cells = s.cells
  | .cellCtl => t.cellCtl = s.cellCtl
  | .slots => t.slots = s.slots
  | .tileCtl => t.tileCtl = s.tileCtl
  | .switch => t.switch = s.switch
  | .regions => t.regions = s.regions
  | .cycle => t.cycle = s.cycle
  | .tb => t.tb = s.tb
  | .tbOff => t.tbOff = s.tbOff
  | .tbSlew => t.tbSlew = s.tbSlew
  | .free => t.free = s.free
  | .status => t.status = s.status
  | .answer => t.answer = s.answer
  | .routers => t.routers = s.routers
  | .dieCogs => t.dieCogs = s.dieCogs
  | .cogTab => t.cogTab = s.cogTab
  | .gsWait => t.gsWait = s.gsWait
  | .capWin => t.capWin = s.capWin
  | .isolated => t.isolated = s.isolated
  | .descs => t.descs = s.descs
  | .lru => t.lru = s.lru
  | .atts => t.atts = s.atts
  | .mirrorOut => t.mirrorOut = s.mirrorOut
  | .mirrorCnt => t.mirrorCnt = s.mirrorCnt
  | .axes => t.axes = s.axes
  | .encs => t.encs = s.encs
  | .trigs => t.trigs = s.trigs
  | .samples => t.samples = s.samples
  | .sampled => t.sampled = s.sampled
  | .banks => t.banks = s.banks
  | .hbmReq => t.hbmReq = s.hbmReq
  | .dmas => t.dmas = s.dmas
  | .links => t.links = s.links
  | .linkEnds => t.linkEnds = s.linkEnds
  | .training => t.training = s.training
  | .aligners => t.aligners = s.aligners
  | .sampleOut => t.sampleOut = s.sampleOut
  | .fuses => t.fuses = s.fuses
  | .sec => t.sec = s.sec
  | .power => t.power = s.power
  | .board => t.board = s.board
  | .released => t.released = s.released
  | .grn => t.grn = s.grn
  | .health => t.health = s.health
  | .grps => t.grps = s.grps
  | .calT0 => t.calT0 = s.calT0
  | .pinSet => t.pinSet = s.pinSet
  | .braked => t.braked = s.braked
  | .capBraked => t.capBraked = s.capBraked
  | .twin => t.twin = s.twin
  | .cores => t.cores = s.cores
  | .resv => t.resv = s.resv
  | .fabWdt => t.fabWdt = s.fabWdt
  | .pkgWdt => t.pkgWdt = s.pkgWdt
  | .loader => t.loader = s.loader
  | .bist => t.bist = s.bist
  | .outer => t.outer = s.outer
  | .dbg => t.dbg = s.dbg
  | .trace => t.trace = s.trace
  | .clearing => t.clearing = s.clearing

/-- No part of the state but those listed differs in `t` from `s`: every byte of memory, every register page, every
cell, core, queue, link, bank or counter outside them is unchanged. -/
def Only (fs : List Field) (s t : State) : Prop := ∀ f, f ∉ fs → f.same s t

/-- The stored value of the register at a key. -/
def State.regAt (s : State) (k : Nat) : Word := tget resetOfKey s.regs k

/-- Every register but those at the keys `ks` holds in `t` what it held in `s`. -/
def RegsBut (ks : List Nat) (s t : State) : Prop := ∀ k, k ∉ ks → t.regAt k = s.regAt k

/-- Every register outside the pages `ps` holds in `t` what it held in `s`. -/
def PagesBut (ps : List Page) (s t : State) : Prop :=
  ∀ k, (∀ p ∈ ps, k / 0x1000 ≠ regKey p 0 / 0x1000) → t.regAt k = s.regAt k

/-- A 32-bit count register after one more event: it saturates. -/
def counted (w : Word) : Word := BitVec.ofNat 32 (satAdd 32 w.toNat 1)

/-! Cells. -/

/-- The region cycle about to run in a cell's region. -/
def State.cycleAt (s : State) (a : CellAt) : Nat := (s.region a.region.val).cyc

/-- The cell as its slot of the present region cycle reads it: every result due has landed (R50). -/
def State.cellNow (s : State) (a : CellAt) : Cell := (s.landCell a).cell (cellKey a)

/-- What the slot of the present region cycle reads (R75, R83): operands, immediate, flags, west carry, accumulator. -/
def State.slotReads (s : State) (a : CellAt) (op : BitVec 6) (f : Fields) : CellIn :=
  let c := s.cellNow a
  let ins := s.cellInputs a
  { a := operand c ins f.srca, b := if isImmOp op then f.srcb.setWidth 32 else operand c ins f.srcb
    imm := f.srcb.toNat, flags := c.flags, west := (s.landCell a).westCarry a
    acc := accBase c (s.cycleAt a) (f.dst == 0x14#5), accNow := c.acc, tagA := SWord.tag (inputOf ins f.srca), mem := 0 }

/-- The condition of a slot in the present region cycle (R66). -/
def State.slotCond (s : State) (a : CellAt) (f : Fields) : Bool :=
  condHolds (s.cellNow a) (s.cellInputs a) (s.region a.region.val).step f

/-- A cell operation of Table 4-7: its command, its code, its latency and its result word. -/
structure OpRow where
  cmd : CellAt → Fields → Instr
  op  : BitVec 6
  lat : Nat
  res : CellIn → Word

/-- Only this cell, and what lost output words bring with them (R49: registers of the region's page and packets waiting),
differ between the two states. -/
def OnlyCell (a : CellAt) (s t : State) : Prop :=
  Only [.cells, .regs, .outbox] s t ∧
  ∀ k, k ≠ cellKey a → t.cell k = s.cell k

end Sys2Proof.Machine
end

