-- ==== Sys2Proof/WellFormed.lean ====
section
/-! DEFINITION. Which commands a sender can make: cell fields that the loader admits (R87), pages that exist (Table 20-1),
aligned offsets, payloads of the length their message or record has. -/

namespace Sys2Proof

open Sys2Proof.Machine

/-- The check of a command. -/
def wellFormed (i : Instr) : Bool :=
  match i with
  | .porAssert => true
  | .porRelease .. => true
  | .areaScanDone .. => true
  | .resetNLow => true
  | .rstWarm => true
  | .rstCold => true
  | .rstSail .. => true
  | .sailResetRelease .. => true
  | .pllLock .. => true
  | .sailCtrlRelease .. => true
  | .regionIslandRelease => true
  | .pllUnlock .. => true
  | .linkTrainingStart .. => true
  | .sidebandInitDone .. => true
  | .fvIdExchange .. => true
  | .mainbandTrainDone .. => true
  | .laneRepairDone .. => true
  | .fvWidthExchange .. => true
  | .widthRetrainDone .. => true
  | .echoMeasureDone .. => true
  | .markerAlign .. => true
  | .trainingStepTimeout .. => true
  | .filvarFrameRx .. => true
  | .gsAlignerRelease .. => true
  | .adapterCrcFail .. => true
  | .fvlRetrain .. => true
  | .creditReturn .. => true
  | .routerFlitIn .. => true
  | .prbFreeze .. => true
  | .gsInjectSample .. => true
  | .bePacketInject .. => true
  | .endpointBeArrive .. => true
  | .gsFlitEject .. => true
  | .epClose .. => true
  | .epOpen .. => true
  | .gateClosed .. => true
  | .gateForcedClose .. => true
  | .roundStart .. => true
  | .cogTabDataWrite .. => true
  | .cogTabDataRead .. => true
  | .cogSwapArm .. => true
  | .cogSwapDisarm .. => true
  | .cogEnable .. => true
  | .regionCycle .. => true
  | .cellResultLand .. => true
  | .cellNop _ f => fieldsOk 0x00#6 f
  | .cellMov _ f => fieldsOk 0x01#6 f
  | .cellAdd _ f => fieldsOk 0x02#6 f
  | .cellAddc _ f => fieldsOk 0x03#6 f
  | .cellAddw _ f => fieldsOk 0x04#6 f
  | .cellSub _ f => fieldsOk 0x05#6 f
  | .cellSubc _ f => fieldsOk 0x06#6 f
  | .cellSubw _ f => fieldsOk 0x07#6 f
  | .cellAddi _ f => fieldsOk 0x08#6 f
  | .cellSubi _ f => fieldsOk 0x09#6 f
  | .cellAbs _ f => fieldsOk 0x0A#6 f
  | .cellSel _ f => fieldsOk 0x0B#6 f
  | .cellMin _ f => fieldsOk 0x0C#6 f
  | .cellMax _ f => fieldsOk 0x0D#6 f
  | .cellMinu _ f => fieldsOk 0x0E#6 f
  | .cellMaxu _ f => fieldsOk 0x0F#6 f
  | .cellCmpeq _ f => fieldsOk 0x10#6 f
  | .cellCmpne _ f => fieldsOk 0x11#6 f
  | .cellCmplt _ f => fieldsOk 0x12#6 f
  | .cellCmple _ f => fieldsOk 0x13#6 f
  | .cellCmpltu _ f => fieldsOk 0x14#6 f
  | .cellCmpleu _ f => fieldsOk 0x15#6 f
  | .cellCmpltw _ f => fieldsOk 0x16#6 f
  | .cellCmpltuw _ f => fieldsOk 0x17#6 f
  | .cellAnd _ f => fieldsOk 0x18#6 f
  | .cellOr _ f => fieldsOk 0x19#6 f
  | .cellXor _ f => fieldsOk 0x1A#6 f
  | .cellAndn _ f => fieldsOk 0x1B#6 f
  | .cellShl _ f => fieldsOk 0x1C#6 f
  | .cellShr _ f => fieldsOk 0x1D#6 f
  | .cellSar _ f => fieldsOk 0x1E#6 f
  | .cellRol _ f => fieldsOk 0x1F#6 f
  | .cellShli _ f => fieldsOk 0x20#6 f
  | .cellShri _ f => fieldsOk 0x21#6 f
  | .cellSari _ f => fieldsOk 0x22#6 f
  | .cellPopc _ f => fieldsOk 0x23#6 f
  | .cellLd _ f => fieldsOk 0x24#6 f
  | .cellSt _ f => fieldsOk 0x25#6 f
  | .cellTagrd _ f => fieldsOk 0x26#6 f
  | .cellTagout _ f => fieldsOk 0x27#6 f
  | .cellMul _ f => fieldsOk 0x28#6 f
  | .cellMulh _ f => fieldsOk 0x29#6 f
  | .cellMulhu _ f => fieldsOk 0x2A#6 f
  | .cellMac _ f => fieldsOk 0x2B#6 f
  | .cellMacu _ f => fieldsOk 0x2C#6 f
  | .cellMsu _ f => fieldsOk 0x2D#6 f
  | .cellMulH _ f => fieldsOk 0x2E#6 f
  | .cellAccrd _ f => fieldsOk 0x2F#6 f
  | .cellAddH _ f => fieldsOk 0x30#6 f
  | .cellSubH _ f => fieldsOk 0x31#6 f
  | .cellAddsH _ f => fieldsOk 0x32#6 f
  | .cellSubsH _ f => fieldsOk 0x33#6 f
  | .cellMinH _ f => fieldsOk 0x34#6 f
  | .cellMaxH _ f => fieldsOk 0x35#6 f
  | .cellCmpltH _ f => fieldsOk 0x36#6 f
  | .cellMacH _ f => fieldsOk 0x37#6 f
  | .cellAddB _ f => fieldsOk 0x38#6 f
  | .cellSubB _ f => fieldsOk 0x39#6 f
  | .cellAddusB _ f => fieldsOk 0x3A#6 f
  | .cellSubusB _ f => fieldsOk 0x3B#6 f
  | .cellMinuB _ f => fieldsOk 0x3C#6 f
  | .cellMaxuB _ f => fieldsOk 0x3D#6 f
  | .cellMacB _ f => fieldsOk 0x3E#6 f
  | .cellSadB _ f => fieldsOk 0x3F#6 f
  | .tileMemBeAccess .. => true
  | .tileMemWaitLimit .. => true
  | .seqStepTime .. => true
  | .sampleDelivery .. => true
  | .queueWordArrive .. => true
  | .spillIdleTimeout .. => true
  | .queueDeliver .. => true
  | .leatResponse _ _ _ _ data => data.isEmpty || data.length == 64
  | .leatTimeout .. => true
  | .leatReissue .. => true
  | .qpFlush .. => true
  | .flushEffect .. => true
  | .flushForced .. => true
  | .qpWeirWrite .. => true
  | .queueUnbind .. => true
  | .unbindTimeout .. => true
  | .svcPush _ ws => decide (1 ≤ ws.length ∧ ws.length ≤ 256)
  | .svcPop .. => true
  | .svcFlush .. => true
  | .svcWeir .. => true
  | .svcStatus .. => true
  | .svcConfig _ payload => payload.length == 32
  | .svcReservedOp .. => true
  | .qmEnable .. => true
  | .encLevelAccept .. => true
  | .lineFault .. => true
  | .ssiFrameStart .. => true
  | .ssiFrameEnd .. => true
  | .axCtrlWrite .. => true
  | .armRef .. => true
  | .invalidate .. => true
  | .govSample => true
  | .tbRateWrite .. => true
  | .tbAdjWrite .. => true
  | .tbSet .. => true
  | .tbLoRead => true
  | .axPosRead .. => true
  | .ioStampedArrive .. => true
  | .stampCommit .. => true
  | .stampDriveStart .. => true
  | .ltEnable .. => true
  | .triggerFire .. => true
  | .bankPortRead .. => true
  | .bankPortWrite .. => true
  | .bankPortBadcmd .. => true
  | .bankReadPresent .. => true
  | .bankWriteback .. => true
  | .bankBeAccess .. => true
  | .bankBeWaitLimit .. => true
  | .bankOwnerWrite .. => true
  | .ownerDone .. => true
  | .heldRequestTimeout .. => true
  | .bankPwrReq .. => true
  | .bankPwrDone .. => true
  | .secureWipeDone .. => true
  | .hbmRestoreDone .. => true
  | .hbmTrainDone .. => true
  | .hbmRequest .. => true
  | .hotRefresh .. => true
  | .hbmVccDrop .. => true
  | .dmaGo .. => true
  | .dmaStop .. => true
  | .dmaTransferResponse _ _ _ data => decide (data.length ≤ 2048)
  | .dmaTransferTimeout .. => true
  | .secTakeOwnership .. => true
  | .secAddOwnerKey .. => true
  | .secRevokeOwnerKey .. => true
  | .secToField .. => true
  | .secToReturn .. => true
  | .secToVoid .. => true
  | .secAdvanceRollback .. => true
  | .secInstallKey .. => true
  | .secDeleteKey .. => true
  | .secGetDik .. => true
  | .secReservedOpcode .. => true
  | .secNonceGen .. => true
  | .nonceExpire => true
  | .tamperTrip .. => true
  | .meshRefresh => true
  | .tamperLogClear .. => true
  | .debugUnlock .. => true
  | .trngRead .. => true
  | .trngHealthFail .. => true
  | .trngRecover => true
  | .imageHeader h => h.length == 352
  | .recordCell _ _ data => data.length % 8 == 0
  | .recordCellInit _ _ data => data.length % 8 == 0
  | .recordTile _ _ data => data.length % 8 == 0
  | .recordRegion _ _ data => data.length % 8 == 0
  | .recordBank _ _ data => data.length % 8 == 0
  | .recordCog _ _ data => data.length % 8 == 0
  | .recordXing _ _ data => data.length % 8 == 0
  | .recordQueue _ _ data => data.length % 8 == 0
  | .recordMemory _ _ data => data.length % 8 == 0
  | .recordZero _ _ data => data.length % 8 == 0
  | .recordPackage _ _ data => data.length % 8 == 0
  | .recordGovernor _ _ data => data.length % 8 == 0
  | .recordSecurity _ _ data => data.length % 8 == 0
  | .recordCore _ _ data => data.length % 8 == 0
  | .recordIob _ _ data => data.length % 8 == 0
  | .recordRestore _ _ data => data.length % 8 == 0
  | .recordCogSwap _ _ data => data.length % 8 == 0
  | .recordReserved .. => true
  | .recordEnd .. => true
  | .imageTag tag => tag.length == 16
  | .streamTimeout => true
  | .loadActivate => true
  | .cfgGo .. => true
  | .cfgAbort => true
  | .sluiceWord .. => true
  | .bistUnitStart .. => true
  | .bistUnitEnd .. => true
  | .bootBistEnd => true
  | .bistOnlineTick .. => true
  | .clkIslCtrlWrite .. => true
  | .clkChangeDone .. => true
  | .telemetryMsg .. => true
  | .telemLost .. => true
  | .controlPeriod => true
  | .pwrSetpointWrite .. => true
  | .pwrWake .. => true
  | .pwrSleep .. => true
  | .pwrRetain .. => true
  | .pwrInvalid .. => true
  | .sleepDrainEnd => true
  | .pwrDone => true
  | .twnEnable .. => true
  | .helloTimeout => true
  | .fantailTrainDone .. => true
  | .ftHelloSend => true
  | .ftBeatSend => true
  | .ftPoschkSend => true
  | .ftHelloRx .. => true
  | .ftBeatRx .. => true
  | .ftPoschkRx .. => true
  | .ftDigestRx .. => true
  | .ftMirqRx _ _ ws => decide (ws.length ≤ 12)
  | .ftCkptRx _ _ pairs => decide (pairs.length ≤ 11)
  | .ftGranRx _ _ _ _ data => decide (data.length ≤ 92)
  | .ftFailRx .. => true
  | .ftSwitchRx .. => true
  | .ftStateRx _ _ data => decide (data.length ≤ 96)
  | .ftResendTimeout => true
  | .ftSilenceTimeout => true
  | .ownRaise => true
  | .fenceInHigh => true
  | .peerOwnFall => true
  | .takeoverBlocked => true
  | .twnSwitchGo => true
  | .switchAckTimeout => true
  | .switchHandover => true
  | .twnJoin => true
  | .twnDetach => true
  | .twnUnfence => true
  | .twnFail => true
  | .spanClose => true
  | .digestTimeout => true
  | .joinStepTimeout => true
  | .glcAdd .. => true
  | .glcSub .. => true
  | .glcAnd .. => true
  | .glcOr .. => true
  | .glcXor .. => true
  | .glcAndn .. => true
  | .glcShl .. => true
  | .glcShr .. => true
  | .glcSar .. => true
  | .glcSlt .. => true
  | .glcSltu .. => true
  | .glcMin .. => true
  | .glcMax .. => true
  | .glcMinu .. => true
  | .glcMaxu .. => true
  | .glcMul .. => true
  | .glcMulh .. => true
  | .glcMulhu .. => true
  | .glcDiv .. => true
  | .glcDivu .. => true
  | .glcRem .. => true
  | .glcRemu .. => true
  | .glcClz .. => true
  | .glcPopc .. => true
  | .glcCmp .. => true
  | .glcAddi .. => true
  | .glcAndi .. => true
  | .glcOri .. => true
  | .glcXori .. => true
  | .glcSlti .. => true
  | .glcSltiu .. => true
  | .glcLui .. => true
  | .glcShli .. => true
  | .glcShri .. => true
  | .glcSari .. => true
  | .glcCmpi .. => true
  | .glcLdw .. => true
  | .glcLdh .. => true
  | .glcLdhu .. => true
  | .glcLdb .. => true
  | .glcLdbu .. => true
  | .glcStw .. => true
  | .glcSth .. => true
  | .glcStb .. => true
  | .glcLdl .. => true
  | .glcStc .. => true
  | .glcB .. => true
  | .glcCall .. => true
  | .glcCallr .. => true
  | .glcJ .. => true
  | .glcJr .. => true
  | .glcRet .. => true
  | .glcRtx .. => true
  | .glcStm .. => true
  | .glcLdm .. => true
  | .glcSvc .. => true
  | .illegalTrap .. => true
  | .glcWspill .. => true
  | .glcWfill .. => true
  | .glcYield .. => true
  | .glcWait .. => true
  | .glcSignal .. => true
  | .glcMfsr .. => true
  | .glcMtsr .. => true
  | .glcFence .. => true
  | .glcCwb .. => true
  | .glcCinv .. => true
  | .glcIinv .. => true
  | .glcBkpt .. => true
  | .glcSecclr .. => true
  | .busRetry .. => true
  | .busResponseTimeout .. => true
  | .lockForce .. => true
  | .tskTimerExpire .. => true
  | .sliceExpire .. => true
  | .eventMessageRx .. => true
  | .tskEvpendWrite .. => true
  | .tskEnableWrite .. => true
  | .coreReset .. => true
  | .wdtKick .. => true
  | .wdtExpire .. => true
  | .fabSync .. => true
  | .fabExpire => true
  | .pkgKick .. => true
  | .pkgExpire => true
  | .grnCommit .. => true
  | .grnDelete .. => true
  | .grnRead .. => true
  | .grnBadOp .. => true
  | .commitDone .. => true
  | .compactionDone => true
  | .powerfail .. => true
  | .powerfailClear .. => true
  | .monitorRead .. => true
  | .lifeHour => true
  | .ioStreamWord .. => true
  | .ioCaptureWord .. => true
  | .calRun .. => true
  | .iobPinWrite .. => true
  | .iobGrpWrite .. => true
  | .vccioLoss .. => true
  | .xcvRawRx .. => true
  | .ethFrameRx .. => true
  | .ethFrameTx .. => true
  | .pcieBar0Write _ off data => decide (data.length ≤ 2048) && off.toNat % 4 == 0 && data.length % 4 == 0
  | .pcieBar0Read _ off n => off.toNat % 4 == 0 && n.toNat % 4 == 0
  | .pcieBar2Write .. => true
  | .msixMessage .. => true
  | .pcieLinkChange .. => true
  | .hdmaGo .. => true
  | .hdmaTimeout .. => true
  | .uartDataWrite .. => true
  | .uartDataRead .. => true
  | .serialRxByte .. => true
  | .spiGo .. => true
  | .iicGo .. => true
  | .tapInstructionLoad .. => true
  | .fuseDrUpdate .. => true
  | .dbgNop .. => true
  | .dbgRead .. => true
  | .dbgWriteNp .. => true
  | .dbgWrite .. => true
  | .secaccAccess .. => true
  | .dbgHalt .. => true
  | .dbgResume .. => true
  | .dbgStep .. => true
  | .dbgHaltAll .. => true
  | .dbgCregAccess .. => true
  | .vccDbgLoss => true
  | .trcClaim .. => true
  | .trcRelease .. => true
  | .traceRecordRx .. => true
  | .trcRdataRead .. => true
  | .evtPendClear p _ _ _ => pageExists p
  | .evtEnWrite p _ _ _ => pageExists p
  | .errClear p _ _ => pageExists p
  | .lockSet p _ _ => pageExists p
  | .blkEnable p _ _ _ => pageExists p
  | .blkPowerWake p _ _ => pageExists p
  | .blkPowerSleep p _ _ => pageExists p
  | .blkPowerRetain p _ _ => pageExists p
  | .blkSoftReset p _ _ => pageExists p
  | .regReadClear p off _ _ => pageExists p && off.toNat % 4 == 0
  | .registerWrite a _ _ _ _ => a.toNat % 4 == 0
  | .resetNRelease => true
  | .vccioReturn .. => true
  | .vccDbgRise => true
  | .trstNAssert => true
  | .peerOwnRise => true
  | .lineOkReturn .. => true
  | .refLost .. => true
  | .hotRefreshEnd .. => true
  | .tbSlewDone => true
  | .dbgResponseTimeout => true
  | .hostCompletionRx _ bs => bs.length % 4 == 0
  | .ethLinkChange .. => true
  | .serialTransferDone .. => true
  | .sourceReadError .. => true
  | .chainByteArrive .. => true

end Sys2Proof
end

