-- ==== Sys2Proof/Certificates/Slice0/Obligations.lean ====
section
/-! DEFINITION. The statements for the provers. -/

open Sys2Proof Sys2Proof.Machine

namespace Sys2Proof.Machine

/-! Cells (03_cells, 04_cell_operations). -/

/-- Operations with a result word and the word Table 4-7 gives each. -/
def scalarOps : List OpRow :=
  [⟨.cellMov, 0x01, 1, fun x => x.a⟩,
   ⟨.cellAdd, 0x02, 1, fun x => x.a + x.b⟩,
   ⟨.cellAddc, 0x03, 1, fun x => x.a + x.b + (BitVec.ofBool (x.flags.getLsbD 2)).setWidth 32⟩,
   ⟨.cellAddw, 0x04, 1, fun x => x.a + x.b + (BitVec.ofBool x.west).setWidth 32⟩,
   ⟨.cellSub, 0x05, 1, fun x => x.a - x.b⟩,
   ⟨.cellSubc, 0x06, 1, fun x => x.a + ~~~x.b + (BitVec.ofBool (x.flags.getLsbD 2)).setWidth 32⟩,
   ⟨.cellSubw, 0x07, 1, fun x => x.a + ~~~x.b + (BitVec.ofBool x.west).setWidth 32⟩,
   ⟨.cellAddi, 0x08, 1, fun x => x.a + BitVec.ofNat 32 x.imm⟩,
   ⟨.cellSubi, 0x09, 1, fun x => x.a - BitVec.ofNat 32 x.imm⟩,
   ⟨.cellAbs, 0x0A, 1, fun x => if x.a.slt 0#32 then 0#32 - x.a else x.a⟩,
   ⟨.cellSel, 0x0B, 1, fun x => if x.flags.getLsbD 4 then x.a else x.b⟩,
   ⟨.cellMin, 0x0C, 1, fun x => if x.a.slt x.b then x.a else x.b⟩,
   ⟨.cellMax, 0x0D, 1, fun x => if x.b.slt x.a then x.a else x.b⟩,
   ⟨.cellMinu, 0x0E, 1, fun x => if x.a.ult x.b then x.a else x.b⟩,
   ⟨.cellMaxu, 0x0F, 1, fun x => if x.b.ult x.a then x.a else x.b⟩,
   ⟨.cellAnd, 0x18, 1, fun x => x.a &&& x.b⟩,
   ⟨.cellOr, 0x19, 1, fun x => x.a ||| x.b⟩,
   ⟨.cellXor, 0x1A, 1, fun x => x.a ^^^ x.b⟩,
   ⟨.cellAndn, 0x1B, 1, fun x => x.a &&& ~~~x.b⟩,
   ⟨.cellShl, 0x1C, 1, fun x => x.a <<< (x.b.extractLsb' 0 5).toNat⟩,
   ⟨.cellShr, 0x1D, 1, fun x => x.a >>> (x.b.extractLsb' 0 5).toNat⟩,
   ⟨.cellSar, 0x1E, 1, fun x => x.a.sshiftRight (x.b.extractLsb' 0 5).toNat⟩,
   ⟨.cellRol, 0x1F, 1, fun x => x.a.rotateLeft (x.b.extractLsb' 0 5).toNat⟩,
   ⟨.cellShli, 0x20, 1, fun x => x.a <<< x.imm⟩,
   ⟨.cellShri, 0x21, 1, fun x => x.a >>> x.imm⟩,
   ⟨.cellSari, 0x22, 1, fun x => x.a.sshiftRight x.imm⟩,
   ⟨.cellPopc, 0x23, 1, fun x => BitVec.ofNat 32 ((List.range 32).countP fun i => x.a.getLsbD i)⟩,
   ⟨.cellTagrd, 0x26, 1, fun x => x.tagA.setWidth 32⟩,
   ⟨.cellTagout, 0x27, 1, fun x => x.a⟩,
   ⟨.cellMul, 0x28, 3, fun x => BitVec.ofNat 32 (x.a.toNat * x.b.toNat)⟩,
   ⟨.cellMulh, 0x29, 3, fun x => ((x.a.signExtend 64 * x.b.signExtend 64).extractLsb' 32 32)⟩,
   ⟨.cellMulhu, 0x2A, 3, fun x => ((x.a.setWidth 64 * x.b.setWidth 64).extractLsb' 32 32)⟩]

/-- Compares: the flag P the condition gives; the result word is all ones or 0 by it (R77). -/
def compareOps : List ((CellAt → Fields → Instr) × BitVec 6 × (CellIn → Bool)) :=
  [(.cellCmpeq, 0x10, fun x => decide (x.a = x.b)), (.cellCmpne, 0x11, fun x => decide (x.a ≠ x.b)),
   (.cellCmplt, 0x12, fun x => decide (x.a.toInt < x.b.toInt)), (.cellCmple, 0x13, fun x => decide (x.a.toInt ≤
     x.b.toInt)),
   (.cellCmpltu, 0x14, fun x => decide (x.a.toNat < x.b.toNat)), (.cellCmpleu, 0x15, fun x => decide (x.a.toNat ≤
     x.b.toNat)),
   (.cellCmpltw, 0x16, fun x => decide (x.a.toInt < x.b.toInt + (if x.west then 0 else 1))),
   (.cellCmpltuw, 0x17, fun x => decide (x.a.toNat < x.b.toNat + (if x.west then 0 else 1)))]

/-- Packed operations: lanes of `w` bits, lane by lane (R82). -/
def packedOps : List ((CellAt → Fields → Instr) × BitVec 6 × Nat × Nat × (Int → Int → Int)) :=
  [(.cellMulH, 0x2E, 16, 3, fun p q => p * q), (.cellAddH, 0x30, 16, 1, fun p q => p + q),
   (.cellSubH, 0x31, 16, 1, fun p q => p - q),
   (.cellAddsH, 0x32, 16, 1, fun p q => max (-32768) (min 32767 (p + q))),
   (.cellSubsH, 0x33, 16, 1, fun p q => max (-32768) (min 32767 (p - q))),
   (.cellMinH, 0x34, 16, 1, min), (.cellMaxH, 0x35, 16, 1, max),
   (.cellCmpltH, 0x36, 16, 1, fun p q => if p < q then -1 else 0),
   (.cellAddB, 0x38, 8, 1, fun p q => p + q), (.cellSubB, 0x39, 8, 1, fun p q => p - q),
   (.cellAddusB, 0x3A, 8, 1, fun p q => min 255 (p + q)), (.cellSubusB, 0x3B, 8, 1, fun p q => max 0 (p - q)),
   (.cellMinuB, 0x3C, 8, 1, min), (.cellMaxuB, 0x3D, 8, 1, max)]

/-- The absolute difference of two unsigned bytes. -/
def absDiff (p q : BitVec 8) : Int := max p.toNat q.toNat - min p.toNat q.toNat

/-- Accumulating operations: the sum they add (R83). -/
def accOps : List ((CellAt → Fields → Instr) × BitVec 6 × (CellIn → Int)) :=
  [(.cellMac, 0x2B, fun x => x.a.toInt * x.b.toInt), (.cellMacu, 0x2C, fun x => x.a.toNat * x.b.toNat),
   (.cellMsu, 0x2D, fun x => -(x.a.toInt * x.b.toInt)),
   (.cellMacH, 0x37, fun x => (lane16 x.a 0).toInt * (lane16 x.b 0).toInt + (lane16 x.a 1).toInt * (lane16 x.b
     1).toInt),
   (.cellMacB, 0x3E, fun x => (lane8 x.a 0).toNat * (lane8 x.b 0).toInt + (lane8 x.a 1).toNat * (lane8 x.b 1).toInt
      + (lane8 x.a 2).toNat * (lane8 x.b 2).toInt + (lane8 x.a 3).toNat * (lane8 x.b 3).toInt),
   (.cellSadB, 0x3F, fun x => absDiff (lane8 x.a 0) (lane8 x.b 0) + absDiff (lane8 x.a 1) (lane8 x.b 1)
      + absDiff (lane8 x.a 2) (lane8 x.b 2) + absDiff (lane8 x.a 3) (lane8 x.b 3))]

end Sys2Proof.Machine

/-- A slot that runs leaves its result in flight: the word of Table 4-7, landing after its latency, for its
destination and its outputs (R48, R50, R76, R77, R81). Nothing else of the cell's registers changes before it lands,
no other cell changes, nor any byte of memory. Where it rests on a choice or an inference of the model: log entry 16. -/
def Obligations.CellResultWord : Prop :=
  ∀ e ∈ scalarOps, ∀ (s : State) (a : CellAt) (f : Fields),
    s.mayRun a = true → fieldsOk e.op f = true → s.slotCond a f = true →
    Completes (e.cmd a f) s fun t =>
      (∃ r ∈ (t.cell (cellKey a)).flight, r.issue = s.cycleAt a ∧ r.land = s.cycleAt a + e.lat
        ∧ r.val = e.res (s.slotReads a e.op f) ∧ r.dst = (if f.dst = 0x18#5 then none else some f.dst)
        ∧ r.omask = f.omask) ∧
      (t.cell (cellKey a)).v = (s.cellNow a).v ∧ (t.cell (cellKey a)).acc = (s.cellNow a).acc ∧
      (t.cell (cellKey a)).flags = (s.cellNow a).flags ∧ OnlyCell a s t

/-- A compare writes P whatever FW holds, and its result word is 0xFFFF_FFFF or 0 by its condition (R77, R80). Packed
operations work lane by lane: 16-bit lanes are signed, 8-bit lanes unsigned (R82). Where it rests on a choice or an
inference of the model: log entry 14. -/
def Obligations.CellComparePacked : Prop :=
  (∀ e ∈ compareOps, ∀ (s : State) (a : CellAt) (f : Fields),
     s.mayRun a = true → fieldsOk e.2.1 f = true → s.slotCond a f = true →
     Completes (e.1 a f) s fun t =>
       (∃ r ∈ (t.cell (cellKey a)).flight, r.issue = s.cycleAt a ∧ r.land = s.cycleAt a + 1
         ∧ r.val = (if e.2.2 (s.slotReads a e.2.1 f) then 0xFFFFFFFF#32 else 0#32)
         ∧ r.fmask.getLsbD 4 = true ∧ r.flags.getLsbD 4 = e.2.2 (s.slotReads a e.2.1 f)
         ∧ r.dst = (if f.dst = 0x18#5 then none else some f.dst) ∧ r.omask = f.omask) ∧
       OnlyCell a s t) ∧
  (∀ e ∈ packedOps, ∀ (s : State) (a : CellAt) (f : Fields) (i : Nat),
     s.mayRun a = true → fieldsOk e.2.1 f = true → s.slotCond a f = true → i < 32 / e.2.2.1 →
     Completes (e.1 a f) s fun t =>
       (∃ r ∈ (t.cell (cellKey a)).flight, r.issue = s.cycleAt a ∧ r.land = s.cycleAt a + e.2.2.2.1
         ∧ r.val.extractLsb' (e.2.2.1 * i) e.2.2.1 = BitVec.ofInt e.2.2.1 (e.2.2.2.2
             (if e.2.2.1 = 16 then ((s.slotReads a e.2.1 f).a.extractLsb' (e.2.2.1 * i) e.2.2.1).toInt
               else ((s.slotReads a e.2.1 f).a.extractLsb' (e.2.2.1 * i) e.2.2.1).toNat)
             (if e.2.2.1 = 16 then ((s.slotReads a e.2.1 f).b.extractLsb' (e.2.2.1 * i) e.2.2.1).toInt
               else ((s.slotReads a e.2.1 f).b.extractLsb' (e.2.2.1 * i) e.2.2.1).toNat))
         ∧ r.dst = (if f.dst = 0x18#5 then none else some f.dst) ∧ r.omask = f.omask) ∧
       OnlyCell a s t)

/-- An accumulating operation adds to the accumulator (to 0 with START, to the sum of the operation issued in the region
cycle before, R52), modulo 2^64, lands three cycles later, and drives no output (R83); ACCRD shifts, rounds and
saturates it. -/
def Obligations.CellAccumulate : Prop :=
  (∀ e ∈ accOps, ∀ (s : State) (a : CellAt) (f : Fields),
    s.mayRun a = true → fieldsOk e.2.1 f = true → s.slotCond a f = true →
    Completes (e.1 a f) s fun t =>
      (∃ r ∈ (t.cell (cellKey a)).flight, r.issue = s.cycleAt a ∧ r.land = s.cycleAt a + 3
        ∧ r.acc = some ((if f.dst = 0x14#5 then 0 else accBase (s.cellNow a) (s.cycleAt a) false)
            + BitVec.ofInt 64 (e.2.2 (s.slotReads a e.2.1 f)))
        ∧ r.dst = none ∧ r.omask = 0) ∧
      (t.cell (cellKey a)).acc = (s.cellNow a).acc ∧ OnlyCell a s t) ∧
  (∀ (s : State) (a : CellAt) (f : Fields),
    s.mayRun a = true → fieldsOk 0x2F f = true → s.slotCond a f = true →
    Completes (.cellAccrd a f) s fun t =>
      (∃ r ∈ (t.cell (cellKey a)).flight, r.land = s.cycleAt a + 2
        ∧ r.val.toInt = max (-2 ^ 31) (min (2 ^ 31 - 1) (if f.srcb = 0#5 then (s.cellNow a).acc.toInt
            else ((s.cellNow a).acc.toInt + 2 ^ (f.srcb.toNat - 1)) / 2 ^ f.srcb.toNat))
        ∧ r.dst = (if f.dst = 0x18#5 then none else some f.dst) ∧ r.omask = f.omask) ∧
      OnlyCell a s t)

/-- LD reads the tile-memory word at its address, landing two cycles later; the cell must own the quarter, else the word
is 0 and the quarter fault is counted (R54, R84, R101). ST stores operand A there, or nothing in a quarter the cell does
not own. The bytes outside the word stored read as before. -/
def Obligations.CellLoadStore : Prop :=
  ∀ (s : State) (a : CellAt) (f : Fields), s.mayRun a = true → s.slotCond a f = true →
    let m := ldstAddr (s.cellNow a) f.srcb
    let own := ownsQuarter (s.tileCtlWord (tileKey a.region.val a.tile.val)) (m.extractLsb' 9 2).toNat a.cell.val
    let ad := tileWordAddr a.region.val a.tile.val m
    (fieldsOk 0x24 f = true → Completes (.cellLd a f) s fun t =>
      (∃ r ∈ (t.cell (cellKey a)).flight, r.land = s.cycleAt a + 2
        ∧ r.val = (if own then s.readWord ad else 0) ∧ r.dst = (if f.dst = 0x18#5 then none else some f.dst)
        ∧ r.omask = f.omask ∧ r.fmask = 0) ∧
      (own = false → t.reg (rgnPage a.region.val) 0x58 =
        BitVec.ofNat 32 (satAdd 32 ((s.landCell a).reg (rgnPage a.region.val) 0x58).toNat 1)) ∧
      Only [.cells, .regs, .outbox, .regions] s t ∧
      ∀ k, k ≠ cellKey a → t.cell k = s.cell k) ∧
    (fieldsOk 0x25 f = true → Completes (.cellSt a f) s fun t =>
      (own = true → t.readWord ad = operand (s.cellNow a) (s.cellInputs a) f.srca) ∧
      (∀ b, (own = true → b < ad ∨ ad + 4 ≤ b) → t.readByte b = s.readByte b) ∧
      (own = false → t.reg (rgnPage a.region.val) 0x58 =
        BitVec.ofNat 32 (satAdd 32 ((s.landCell a).reg (rgnPage a.region.val) 0x58).toNat 1)) ∧
      Only [.cells, .regs, .outbox, .regions, .mem] s t ∧
      ∀ k, k ≠ cellKey a → t.cell k = s.cell k)

/-- Operations of the loader's encodings alone run: for a micro-instruction that R87 rejects the machine stops, and a
cell of a region that is not ACTIVE runs no slot (R68). Where it rests on a choice or an inference of the model: log
entries 15, 16. -/
def Obligations.CellEncodingAndInactive : Prop :=
  (∀ (s : State) (a : CellAt) (op : BitVec 6) (f : Fields) (alu : CellIn → CellOut),
    fieldsOk op f = false → cellOutcome s a op f alu = .fault .cellEncoding) ∧
  (∀ (s : State) (a : CellAt) (op : BitVec 6) (f : Fields) (alu : CellIn → CellOut),
    fieldsOk op f = true → s.rgnActive a.region.val = false → cellOutcome s a op f alu = .next s) ∧
  (∀ (s : State) (a : CellAt), s.rgnActive a.region.val = false → exec (.cellResultLand a) s = .next s)

/-- Every result due in the present region cycle lands, in the order of issue, and is in flight no more; a result due
later
stays in flight and writes nothing (R50, R76). A result's destination register holds its value. -/
def Obligations.CellResultLands : Prop :=
  (∀ (s : State) (a : CellAt), s.rgnActive a.region.val = true → Completes (.cellResultLand a) s fun t =>
    let c := s.cell (cellKey a)
    let c' := t.cell (cellKey a)
    let due := c.flight.filter fun r => decide (r.land ≤ s.cycleAt a)
    c'.flight = c.flight.filter (fun r => !decide (r.land ≤ s.cycleAt a)) ∧
    c'.v = (due.foldl landWrite c).v ∧ c'.acc = (due.foldl landWrite c).acc ∧ c'.flags = (due.foldl landWrite c).flags ∧
    c'.m0 = (due.foldl landWrite c).m0 ∧ c'.m1 = (due.foldl landWrite c).m1 ∧ (due = [] → c' = c) ∧ OnlyCell a s t) ∧
  (∀ (s : State) (a : CellAt) (r : InFlight) (d : BitVec 5),
    s.rgnActive a.region.val = true → (s.cell (cellKey a)).flight = [r] → r.dst = some d →
    Completes (.cellResultLand a) s fun t =>
      (r.land ≤ s.cycleAt a → (t.cell (cellKey a)).flight = [] ∧
        (∀ h : (d.extractLsb' 0 4).toNat < 16, d < 0x10#5 →
          (t.cell (cellKey a)).v = (s.cell (cellKey a)).v.set (d.extractLsb' 0 4).toNat r.val h) ∧
        (d = 0x16#5 → (t.cell (cellKey a)).m0 = r.val.extractLsb' 0 11)) ∧
      (s.cycleAt a < r.land → t.cell (cellKey a) = s.cell (cellKey a)) ∧ OnlyCell a s t)

/-- NOP runs and has no result: nothing is written, no output is driven (Table 4-7). A squashed slot leaves the
cell's registers, results in flight and outputs as they were and carries out 0 (R67). A loaded or cleared region's
micro-instruction that is squashed makes no tile-memory access (R67): a load or store whose condition is false leaves
every byte and the region as they were. Where it rests on a choice or an inference of the model: log entry 16. -/
def Obligations.CellNopSquash : Prop :=
  ((∀ (s : State) (a : CellAt) (f : Fields),
     s.mayRun a = true → fieldsOk 0x00 f = true → s.slotCond a f = true →
     Completes (.cellNop a f) s fun t =>
       (t.cell (cellKey a)).v = (s.cellNow a).v ∧ (t.cell (cellKey a)).ranCyc = s.cycleAt a ∧
       (∀ r ∈ (t.cell (cellKey a)).flight, r ∈ (s.cellNow a).flight ∨
         (r.omask = 0 ∧ r.acc = none ∧ r.fmask = 0 ∧ r.dst = none)) ∧ OnlyCell a s t) ∧
   (∀ (s : State) (a : CellAt) (op : BitVec 6) (f : Fields) (alu : CellIn → CellOut),
     s.mayRun a = true → fieldsOk op f = true → s.slotCond a f = false →
     ∃ t, cellOutcome s a op f alu = .next t ∧
       t.cell (cellKey a) = { s.cellNow a with ranCyc := s.cycleAt a, carry := false } ∧ OnlyCell a s t)) ∧
  (∀ (s : State) (a : CellAt) (f : Fields), s.mayRun a = true → s.slotCond a f = false →
     (fieldsOk 0x24 f = true → Completes (.cellLd a f) s fun t => t.mem = s.mem ∧ t.regions = s.regions) ∧
     (fieldsOk 0x25 f = true → Completes (.cellSt a f) s fun t => t.mem = s.mem ∧ t.regions = s.regions))

/-! Resets and their release (14_islands_resets_and_power, 21_electrical). -/

/-- What a cap reset of the whole device leaves (R335, R336): no cell, no region, no core state, no link, nothing
released;
the cause in every die's RST.CAUSE; a secure window whose bytes a WARM or COLD reset clears is being wiped (R249);
every byte but the granary's flash and, on WARM, HBM reads as unwritten memory; the
commands still waiting stay. -/
def Sys2Proof.Machine.AfterCapReset (s t : State) (cause : Nat) (hbm : Bool) : Prop :=
  t.pending = s.pending ∧ t.fuses = s.fuses ∧ t.dbg = s.dbg ∧
  t.cells = [] ∧ t.cellCtl = [] ∧ t.slots = [] ∧ t.regions = [] ∧ t.routers = [] ∧ t.links = [] ∧ t.cores = [] ∧
  t.descs = [] ∧ t.atts = [] ∧ t.axes = [] ∧ t.released = [] ∧ t.resv = [] ∧
  (∀ b, t.bank b = if cause ≠ 0 ∧ b ∈ secureBanks ∧ s.bankSecure b = true then { Bank.reset with wiping := true }
    else Bank.reset) ∧
  (∀ d : Nat, d < 9 → t.reg (rstPage d) 0x48 = BitVec.ofNat 32 (2 ^ cause)) ∧
  (∀ b, ¬(flashBase ≤ b ∧ b < flashBase + 0x800000) → (hbm = false ∨ b / 2 ^ 40 ≠ 0xFF) → t.readByte b = memReset b)

/-- The resets of the whole device (R335, R492): what each leaves, and the bit of RST.CAUSE each sets. Where it rests
on a choice or an inference of the model: log entries 69, 70. -/
def Obligations.ResetOfTheDevice : Prop :=
  ∀ s : State,
    (Completes .porAssert s fun t => t.board.por = true ∧ AfterCapReset s t 0 false) ∧
    (s.board.por = false → Completes .resetNLow s fun t => t.board.resetLow = true ∧ AfterCapReset s t 1 false) ∧
    (Completes .rstCold s fun t => t.status = 0 ∧ t.board = s.board ∧ AfterCapReset s t 2 false) ∧
    (Completes .rstWarm s fun t => t.status = 0 ∧ t.board = s.board ∧ AfterCapReset s t 3 true)

/-- POR release and RESET_N release (R492): straps are sampled, the pin is high again, and boot begins when both have
come; every other part of the state is left alone. Reset release (R330, R331, R337): PLL lock and its loss, a sail's
control islands by its strap, the region islands at the end of training. A SAIL reset takes a sail of a running
package back to reset and marks it in the cap's RST page; its release lets it run again (R335, R336, R347). Where it
rests on a choice or an inference of the model: log entries 67, 70. -/
def Obligations.ResetRelease : Prop :=
  (∀ s : State,
     (∀ mode id sel, s.board.por = true → Completes (.porRelease mode id sel) s fun t =>
       t.board = { s.board with por := false, bootMode := mode.toNat, twinId := id, brksel := sel } ∧
       (s.board.resetLow = false → t.loader.bootAt = s.cycle) ∧
       Only [.board, .loader] s t) ∧
     (Completes .resetNRelease s fun t => t.board = { s.board with resetLow := false } ∧
       (s.board.por = false → t.loader.bootAt = s.cycle) ∧ Only [.board, .loader] s t)) ∧
  (∀ s : State,
     (∀ (d : Fin 9) (pll : Fin 4), s.powerGood = true → (d ≠ 0 ∨ s.releasedTo 0 ≠ 0) →
       Completes (.pllLock d pll) s fun t => t.rbit (clkPage d.val) 0x40 0 = true ∧ t.rbit (clkPage d.val) 0x40 (4 +
         pll.val) = true ∧
         RegsBut [regKey (clkPage d.val) 0x40] s t ∧ Only [.regs] s t) ∧
     (∀ pll : Fin 4, s.powerGood = true → s.releasedTo 0 = 0 →
       (∀ i, i < 4 → i ≠ pll.val → s.rbit (clkPage 0) 0x40 (4 + i) = true) →
       Completes (.pllLock 0 pll) s fun t => t.releasedTo 0 = 3 ∧ t.rbit grnPage 0x08 0 = true ∧
         t.rbit hlthPage 0x08 0 = true ∧ t.coreRun 0 = 1 ∧ t.mem = s.mem ∧ t.pending = s.pending) ∧
     (∀ (sail : Fin 8) (strap : Fin 16), s.releasedTo 0 = 3 → s.releasedTo (sail.val + 1) = 0 → s.training.done =
       false →
       Completes (.sailCtrlRelease sail strap) s fun t =>
         t.board = { s.board with straps := tset (fun _ => 0) s.board.straps (sail.val + 1) strap } ∧
         t.releasedTo (sail.val + 1) = (if strap.val = 0 ∨ 8 < strap.val then 0 else 2) ∧
         (∀ d, d ≠ sail.val + 1 → t.releasedTo d = s.releasedTo d) ∧
         RegsBut [regKey (rstPage 0) 0x50] s t ∧ Only [.board, .regs, .released] s t) ∧
     (s.training.done = true → Completes .regionIslandRelease s fun t =>
       (∀ d, t.releasedTo d = if 1 ≤ d ∧ d ≤ 8 ∧ s.releasedTo d = 2 ∧ s.isIsolated d = false then 3 else s.releasedTo
         d) ∧
       Only [.released] s t) ∧
     (∀ (sail : Fin 8) (pll : Fin 4), (s.isIsolated (sail.val + 1) = true ∨ s.releasedTo (sail.val + 1) ≠ 3) →
       Completes (.pllUnlock sail pll) s fun t =>
         t.rbit (clkPage (sail.val + 1)) 0x40 (4 + pll.val) = false ∧
         t.reg (clkPage (sail.val + 1)) 0x44 = BitVec.ofNat 32 (satAdd 32 (s.reg (clkPage (sail.val + 1)) 0x44).toNat
           1) ∧
         Only [.regs, .outbox] s t) ∧
     (∀ (sail : Fin 8) (pll : Fin 4), s.isIsolated (sail.val + 1) = false → s.releasedTo (sail.val + 1) = 3 →
       Completes (.pllUnlock sail pll) s fun t =>
         t.releasedTo (sail.val + 1) = 0 ∧ t.rbit (rstPage 0) 0x50 sail.val = true ∧
         t.reg (rstPage (sail.val + 1)) 0x48 = 0x80#32 ∧ t.pending = s.pending)) ∧
  (∀ (s : State) (sail : Fin 8),
     (s.isIsolated (sail.val + 1) = false → s.releasedTo (sail.val + 1) = 3 → Completes (.rstSail sail) s fun t =>
       t.status = 0 ∧ t.releasedTo (sail.val + 1) = 0 ∧ t.rbit (rstPage 0) 0x50 sail.val = true ∧
       t.reg (rstPage (sail.val + 1)) 0x48 = 0x40#32 ∧ t.pending = s.pending ∧ t.fuses = s.fuses) ∧
     (s.training.done = true → s.rbit (rstPage 0) 0x50 sail.val = true → s.isIsolated (sail.val + 1) = false →
       s.releasedTo (sail.val + 1) = 0 → (∀ i, i < 2 → (s.bank (96 * sail.val + i)).wiping = false) →
       Completes (.sailResetRelease sail) s fun t =>
         t.releasedTo (sail.val + 1) = 3 ∧ t.rbit (rstPage 0) 0x10 0 = true ∧ t.pending = s.pending ∧ t.mem = s.mem ∧
         t.fuses = s.fuses))

/-! Filvar links (11_filvar_links). -/

/-- Nothing that RETRAIN or DOWN would have to end is open at either end of the link. -/
def Sys2Proof.Machine.NoOpen (s : State) (l : Nat) : Prop :=
  (s.linkEnd l (linkDies l).1).open_ = [] ∧ (s.linkEnd l (linkDies l).2).open_ = []

/-- Both dies of a link have left reset: their control islands run (R12, R331). -/
def Sys2Proof.Machine.SitesUp (s : State) (l : Nat) : Prop :=
  s.siteUp (linkDies l).1 = true ∧ s.siteUp (linkDies l).2 = true

/-- The steps of link training in order (R269 to R273): each command of the step in progress moves the link to the
next step and records what it settled, at both ends; training starts from RESET, once boot has read the manifest, and
ends in UP or DEGRADED; reports that disagree take the link down and isolate the sail. A link in use (R264 to R266,
R276 to R278): a frame's credit comes back to the router it was consumed at, a frame whose CRC fails is sent again
and counted at both ends, a retrain and an overrun training step take the link out of service. Where it rests on a
choice or an inference of the model: log entries 42, 44. -/
def Obligations.Links : Prop :=
  (∀ (s : State) (l : Fin 12),
     let p := fvlPage l.val (linkDies l.val).1
     let q := fvlPage l.val (linkDies l.val).2
     ((s.link l.val).step = 0 → s.linkState l.val = lkReset → s.grn.scanned.getLsbD 0 = true →
       s.siteUp (linkDies l.val).1 = true → Completes (.linkTrainingStart l) s fun t =>
       t.endState l.val (linkDies l.val).1 = lkTraining ∧
       t.endState l.val (linkDies l.val).2 = (if s.endState l.val (linkDies l.val).2 = lkReset ∧
         s.siteUp (linkDies l.val).2 = true then lkTraining else s.endState l.val (linkDies l.val).2) ∧
       (t.link l.val).step = 1 ∧ RegsBut [regKey p 0x48, regKey q 0x48] s t ∧ Only [.regs, .links] s t) ∧
     (s.linkState l.val = lkRetrain → Completes (.linkTrainingStart l) s fun t =>
       (t.link l.val).step = 1 ∧ Only [.links] s t) ∧
     ((s.link l.val).step = 1 → SitesUp s l.val → Completes (.sidebandInitDone l) s fun t =>
       t.link l.val = { s.link l.val with step := 2 } ∧ (∀ m, m ≠ l.val → t.link m = s.link m) ∧ Only [.links] s t) ∧
     (∀ a b, (s.link l.val).step = 2 → SitesUp s l.val → s.reportCause l.val a b = none →
       Completes (.fvIdExchange l a b) s fun t =>
       (t.link l.val).step = 3 ∧ t.rfld p 0x40 24 8 = b.level.toNat ∧ t.rfld p 0x40 20 4 = b.strap.toNat ∧
       t.rfld q 0x40 24 8 = a.level.toNat ∧ t.rfld q 0x40 20 4 = a.strap.toNat ∧
       t.training.answered.getLsbD (linkDies l.val).2 = true ∧
       RegsBut [regKey p 0x40, regKey q 0x40] s t ∧ Only [.regs, .links, .training] s t) ∧
     (∀ a b c, (s.link l.val).step = 2 → SitesUp s l.val → s.linkState l.val ≠ lkDown → NoOpen s l.val →
       s.reportCause l.val a b = some c → Completes (.fvIdExchange l a b) s fun t =>
       t.linkState l.val = lkDown ∧ (t.link l.val).step = 0 ∧ t.isIsolated (linkDies l.val).2 = true) ∧
     (∀ rate : Fin 4, rate ≠ 0 → (s.link l.val).step = 3 → SitesUp s l.val →
       Completes (.mainbandTrainDone l rate) s fun t =>
       let most := min (s.rfld p 0x44 0 2) (s.rfld q 0x44 0 2)
       (t.link l.val).step = 4 ∧
       t.rfld p 0x48 9 2 = min rate.val (if s.linkState l.val = lkRetrain ∧ 0 < s.rfld p 0x48 9 2 then
         min most (s.rfld p 0x48 9 2) else most) ∧
       t.rfld q 0x48 9 2 = t.rfld p 0x48 9 2 ∧ RegsBut [regKey p 0x48, regKey q 0x48] s t ∧ Only [.regs, .links] s t) ∧
     (∀ a b, (s.link l.val).step = 4 → SitesUp s l.val → Completes (.laneRepairDone l a b) s fun t =>
       (t.link l.val).step = 5 ∧ t.rfld p 0x48 14 2 = a.mod0.val ∧ t.rfld p 0x48 16 2 = a.mod1.val ∧
       t.reg p 0x54 = a.margin1 ++ a.margin0 ∧ t.rfld q 0x48 14 2 = b.mod0.val ∧ t.rfld q 0x48 16 2 = b.mod1.val ∧
       t.reg q 0x54 = b.margin1 ++ b.margin0 ∧ Only [.regs, .links, .outbox, .health] s t) ∧
     ((s.link l.val).step = 5 → SitesUp s l.val → s.reportOf l.val (linkDies l.val).1 = s.reportOf l.val (linkDies
       l.val).2 →
       0 < s.reportOf l.val (linkDies l.val).1 → Completes (.fvWidthExchange l) s fun t =>
       (t.link l.val).step = 6 ∧ t.rfld p 0x48 11 3 = s.reportOf l.val (linkDies l.val).1 ∧
       t.rfld q 0x48 11 3 = s.reportOf l.val (linkDies l.val).1 ∧
       RegsBut [regKey p 0x48, regKey q 0x48] s t ∧ Only [.regs, .links] s t) ∧
     (∀ a b, (s.link l.val).step = 5 → SitesUp s l.val → a.mod0.val + a.mod1.val = b.mod0.val + b.mod1.val → 0 <
       a.mod0.val + a.mod1.val →
       Completes (.widthRetrainDone l a b) s fun t =>
       (t.link l.val).step = 6 ∧ t.rfld p 0x48 11 3 = a.mod0.val + a.mod1.val ∧
       t.rfld q 0x48 11 3 = a.mod0.val + a.mod1.val ∧ Only [.regs, .links] s t) ∧
     (∀ delay, (s.link l.val).step = 6 → SitesUp s l.val → Completes (.echoMeasureDone l delay) s fun t =>
       (t.link l.val).step = 7 ∧ t.rfld p 0x50 0 16 = delay.toNat ∧ t.rfld q 0x50 0 16 = delay.toNat ∧
       RegsBut [regKey p 0x50, regKey q 0x50] s t ∧ Only [.regs, .links] s t) ∧
     ((s.link l.val).step = 7 → SitesUp s l.val → s.waitsAlign l.val = false → Completes (.markerAlign l) s fun t =>
       (t.link l.val).step = 0 ∧ t.linkState l.val = (if capacityOf (s.rfld p 0x48 11 3) (s.rfld p 0x48 9 2)
         < s.rfld p 0x4C 8 6 then lkDegraded else lkUp) ∧
       t.dieCogs = s.dieCogs ∧ Only [.regs, .outbox, .links, .routers, .training] s t) ∧
     (∀ r time, (s.link l.val).step = 7 → SitesUp s l.val → s.waitsAlign l.val = true →
       (s.linkEnd l.val (linkDies l.val).2).mkRound = some r → (s.linkEnd l.val (linkDies l.val).2).mkTime = some time →
       ((linkDies l.val).1 = 0 ∨ s.training.aligned.getLsbD (linkDies l.val).1 = true) →
       Completes (.markerAlign l) s fun t =>
       (t.link l.val).step = 0 ∧ t.linkState l.val = (if capacityOf (s.rfld p 0x48 11 3) (s.rfld p 0x48 9 2)
         < s.rfld p 0x4C 8 6 then lkDegraded else lkUp) ∧
       t.training.aligned.getLsbD (linkDies l.val).2 = true ∧ (t.cogs (linkDies l.val).2).began = time.toInt * 8 ∧
       (∀ d, d ≠ (linkDies l.val).2 → t.cogs d = s.cogs d) ∧
       Only [.regs, .outbox, .links, .routers, .dieCogs, .tbOff, .training] s t)) ∧
  (∀ (s : State) (l : Fin 12),
     (∀ second c rest f, (s.linkEnd l.val (farDie l.val (endDie l second))).sent = f :: rest →
       s.endLive l.val (endDie l second) = true → s.trainingFrames l.val = false → f.slots = [] → f.cred = [c] →
         f.svc0 = none → f.svc1 = none →
       f.fence = false → Completes (.filvarFrameRx l second) s fun t =>
         (t.linkEnd l.val (farDie l.val (endDie l second))).sent = rest ∧
         (t.linkEnd l.val (endDie l second)).echo = (f.cog, f.round.toNat % 16) ∧
         (let n := (linkEdge l.val (endDie l second) c.1).1
          let k := chan (linkEdge l.val (endDie l second) c.1).2 c.2
          tget (fun _ => 0) (t.router n).used k = tget (fun _ => 0) (s.router n).used k - 1) ∧
         Only [.routers, .linkEnds] s t) ∧
     (∀ second rest f, (s.linkEnd l.val (farDie l.val (endDie l second))).sent = f :: rest → f.fence = false →
       Completes (.filvarFrameRx l second) s fun t =>
         (t.linkEnd l.val (farDie l.val (endDie l second))).sent = rest ∧
         (t.linkEnd l.val (farDie l.val (endDie l second))).fails = 0 ∧
         Only [.regs, .outbox, .routers, .samples, .linkEnds, .aligners, .sampleOut] s t) ∧
     (∀ second, (s.linkEnd l.val (farDie l.val (endDie l second))).sent ≠ [] →
       (s.linkEnd l.val (farDie l.val (endDie l second))).fails < 4 → Completes (.adapterCrcFail l second) s fun t =>
         (t.linkEnd l.val (farDie l.val (endDie l second))).fails
           = (s.linkEnd l.val (farDie l.val (endDie l second))).fails + 1 ∧
         (t.linkEnd l.val (farDie l.val (endDie l second))).sent
           = (s.linkEnd l.val (farDie l.val (endDie l second))).sent ∧
         t.reg (fvlPage l.val (endDie l second)) 0x60
           = BitVec.ofNat 32 (satAdd 32 (s.reg (fvlPage l.val (endDie l second)) 0x60).toNat 1) ∧
         Only [.regs, .outbox, .linkEnds] s t) ∧
     (∀ second, (s.linkEnd l.val (farDie l.val (endDie l second))).sent ≠ [] →
       4 ≤ (s.linkEnd l.val (farDie l.val (endDie l second))).fails →
       (s.linkState l.val = lkUp ∨ s.linkState l.val = lkDegraded) → NoOpen s l.val →
       ((s.link l.val).entries.filter fun c => decide (s.cycle < c + tenSeconds)).length < 3 →
       Completes (.adapterCrcFail l second) s fun t =>
         t.linkState l.val = lkRetrain ∧ (t.link l.val).step = 1 ∧ Only [.regs, .outbox, .links, .linkEnds] s t) ∧
     ((s.linkState l.val = lkUp ∨ s.linkState l.val = lkDegraded) → NoOpen s l.val →
       ((s.link l.val).entries.filter fun c => decide (s.cycle < c + tenSeconds)).length < 3 →
       Completes (.fvlRetrain l) s fun t =>
         t.linkState l.val = lkRetrain ∧ (t.link l.val).step = 1 ∧ t.status = 0 ∧
         Only [.regs, .outbox, .links, .linkEnds, .status, .answer] s t) ∧
     ((s.link l.val).step ≠ 0 → s.linkState l.val ≠ lkDown → NoOpen s l.val →
       Completes (.trainingStepTimeout l) s fun t =>
         t.linkState l.val = lkDown ∧ (t.link l.val).step = 0 ∧
         ((linkDies l.val).2 ≠ 0 → t.isIsolated (linkDies l.val).2 = true) ∧ t.mem = s.mem ∧ t.pending = s.pending) ∧
     (∀ (n : Fin 144) (port : Fin 4) (vc : Fin 8), Completes (.creditReturn n port vc) s fun t =>
       tget (fun _ => 0) (t.router (nodeNum n)).used (chan port.val vc.val)
         = tget (fun _ => 0) (s.router (nodeNum n)).used (chan port.val vc.val) - 1 ∧
       (∀ k, k ≠ chan port.val vc.val →
         tget (fun _ => 0) (t.router (nodeNum n)).used k = tget (fun _ => 0) (s.router (nodeNum n)).used k) ∧
       (∀ m, m ≠ nodeNum n → t.router m = s.router m) ∧ Only [.routers] s t))

/-! Routers and endpoints (06_millrace). -/

/-- A flit at a router input. With no fence and a clean sideband, a GS flit goes into the pipeline that brings it to
its output register two network cycles later (R116), and a BE flit, a HEAD whose way is open or a flit of a packet
under way, waits in its channel's buffer (R123); a sideband that cannot be corrected fences the input (R130), at a
crossing with the link going DOWN (R273). A GS flit that an aligner releases leaves in the same cycle by every output
whose entry of the present cog names its input, here outputs that stay on the die while no probe watches (R120,
R153). Where it rests on a choice or an inference of the model: log entry 9. -/
def Obligations.RouterFlit : Prop :=
  ∀ (s : State) (n : Fin 144) (input : Fin 5) (f : ChanFlit),
    (s.releasedTo (nodeDie (nodeNum n)) = 3 → s.rbit (rtrPage (nodeNum n)) 0x50 input.val = false →
    (f.be = false → Completes (.routerFlitIn n input f .clean 0) s fun t =>
      (t.router (nodeNum n)).pipe = (s.router (nodeNum n)).pipe ++ [(s.cycle + 2, input.val, f)] ∧ Only [.routers] s
        t) ∧
    (f.be = true → f.head = false →
      tget (fun _ => false) (s.router (nodeNum n)).discard (chan input.val f.vc.toNat) = false →
      Completes (.routerFlitIn n input f .clean 0) s fun t =>
        tget (fun _ => []) (t.router (nodeNum n)).bufs (chan input.val f.vc.toNat)
          = tget (fun _ => []) (s.router (nodeNum n)).bufs (chan input.val f.vc.toNat) ++ [(s.cycle, f)] ∧
        Only [.routers] s t) ∧
    (f.be = true → f.head = true → f.flit.ecc = Vector.replicate 4 .clean →
      ((beyond (nodeNum n) (routeTo (nodeNum n) f.hdr.destNode.toNat)).map s.isIsolated).getD false = false →
      Completes (.routerFlitIn n input f .clean 0) s fun t =>
        tget (fun _ => []) (t.router (nodeNum n)).bufs (chan input.val f.vc.toNat)
          = tget (fun _ => []) (s.router (nodeNum n)).bufs (chan input.val f.vc.toNat) ++ [(s.cycle, f)] ∧
        Only [.routers] s t) ∧
    (portXing (nodeNum n) input.val = none → Completes (.routerFlitIn n input f .bad 0) s fun t =>
      t.rbit (rtrPage (nodeNum n)) 0x50 input.val = true ∧
      t.reg (rtrPage (nodeNum n)) 0x90 = BitVec.ofNat 32 (satAdd 32 (s.reg (rtrPage (nodeNum n)) 0x90).toNat 1) ∧
      Only [.regs, .outbox, .routers] s t) ∧
    (∀ l, portXing (nodeNum n) input.val = some l → Completes (.routerFlitIn n input f .bad 0) s fun t =>
      t.linkState l = lkDown)) ∧
    (∀ (p : Fin 4) h, (s.aligner (nodeNum n)).find? (fun h => h.port == p.val && h.cog == (s.cogs (nodeDie (nodeNum
      n))).cog
        && h.round == (s.cogs (nodeDie (nodeNum n))).round) = some h →
      s.rbit (rtrPage (nodeNum n)) 0x50 p.val = false → s.rbit (prbPage (nodeNum n)) 0x40 0 = false →
      (∀ o, o < 5 → entrySel (s.entryNow (nodeNum n)) o = p.val + 1 → portXing (nodeNum n) o = none) →
      (∃ o, o < 5 ∧ entrySel (s.entryNow (nodeNum n)) o = p.val + 1) → Completes (.gsAlignerRelease n p) s fun t =>
        (∀ o, o < 5 → entrySel (s.entryNow (nodeNum n)) o = p.val + 1 → t.outNow (nodeNum n) o = some h.flit) ∧
        t.aligner (nodeNum n) = (s.aligner (nodeNum n)).erase h ∧ Only [.routers, .aligners] s t)

/-- Injection (R20, R118, R151, R153): a block's packet for a node that does not exist is answered NODE_ABSENT; the
first flit of any other packet waits at input L, its payload behind it, one flit a network cycle; the words of a GS
source wait for their cog; a flit the aligner releases leaves it. Ejection (R41, R118, R132, R135, R137, R439): a
whole one-flit packet that the gate refuses is answered with the refusal and counted; one for a reserved port is
answered MALFORMED; a BE packet's HEAD that is admitted waits for the rest; a GS flit's data words reach the
transceiver lane its entry names, in order; a gate that is not OPEN lets no GS flit through. Where it rests on a
choice or an inference of the model: log entries 12, 21, 22, 23, 24, 25, 26, 104. -/
def Obligations.InjectionEjection : Prop :=
  (∀ (s : State) (n : Fin 144),
     (∀ p : Packet, s.releasedTo (nodeDie (nodeNum n)) = 3 → isAddressed p.hdr = false → p.hdr.destNode ≠ 0xFF#8 →
       nodeExists p.hdr.destNode.toNat = false → isNonPosted p.hdr = true → (s.router (nodeNum n)).owed = [] →
       Completes (.bePacketInject n (some p)) s fun t =>
         (∃ r, t.outbox = s.outbox ++ [r] ∧ r.hdr.status = 1 ∧ r.hdr.destNode = BitVec.ofNat 8 (nodeNum n) ∧
           r.hdr.destPort = p.hdr.srcPort ∧ r.hdr.txn = p.hdr.txn ∧ r.payload = []) ∧ Only [.outbox] s t) ∧
     (∀ p : Packet, s.releasedTo (nodeDie (nodeNum n)) = 3 → isAddressed p.hdr = false → p.hdr.destNode ≠ 0xFF#8 →
       nodeExists p.hdr.destNode.toNat = true → s.rbit (rtrPage (nodeNum n)) 0x50 4 = false →
       ((beyond (nodeNum n) (routeTo (nodeNum n) p.hdr.destNode.toNat)).map s.isIsolated).getD false = false →
       s.laneTaken (nodeNum n) 0 (vcOf p.hdr % 8) = false → (s.router (nodeNum n)).inject = [] →
       (s.router (nodeNum n)).injNext ≤ s.cycle →
       (tget (fun _ => []) (s.router (nodeNum n)).bufs (chan 4 (vcOf p.hdr % 8))).length < 6 →
       Completes (.bePacketInject n (some p)) s fun t =>
         (∃ f, tget (fun _ => []) (t.router (nodeNum n)).bufs (chan 4 (vcOf p.hdr % 8))
           = tget (fun _ => []) (s.router (nodeNum n)).bufs (chan 4 (vcOf p.hdr % 8)) ++ [(s.cycle, f)] ∧ f.head =
             true ∧
             f.tail = p.payload.isEmpty ∧ f.hdr = { p.hdr with srcNode := BitVec.ofNat 8 (nodeNum n) }) ∧
         (tget (fun _ => []) (t.router (nodeNum n)).inject (vcOf p.hdr % 8)).map (·.flit) = p.payload ∧
         (t.router (nodeNum n)).injNext = s.cycle + 1 ∧ Only [.routers] s t) ∧
     (∀ p : Packet, s.releasedTo (nodeDie (nodeNum n)) = 3 →
       s.outbox.find? (fun p => p.hdr.srcNode.toNat == nodeNum n && !s.laneTaken (nodeNum n) 0 (vcOf p.hdr)) = some p →
       exec (.bePacketInject n none) s = exec (.bePacketInject n (some p)) { s with outbox := s.outbox.erase p }) ∧
     (entryInjV (s.sampledEntry (nodeNum n)) = false → exec (.gsInjectSample n) s = .next s) ∧
     (entryInjV (s.sampledEntry (nodeNum n)) = true →
       (s.sourceWords (nodeNum n) (entryInj (s.sampledEntry (nodeNum n)))).2 ≠ [] →
       Completes (.gsInjectSample n) s fun t =>
         tget (fun _ => none) t.gsWait (nodeNum n * 1024 + s.sampledCog (nodeNum n)) =
           some (flitOf (s.sourceWords (nodeNum n) (entryInj (s.sampledEntry (nodeNum n)))).2) ∧
         Only [.regs, .mem, .outbox, .free, .routers, .gsWait, .descs, .lru, .atts, .mirrorOut, .mirrorCnt, .trigs,
           .grps, .outer] s t) ∧
     (∀ (p : Fin 4) h, (s.aligner (nodeNum n)).find? (fun h => h.port == p.val && h.cog == (s.cogs (nodeDie (nodeNum
       n))).cog
         && h.round == (s.cogs (nodeDie (nodeNum n))).round) = some h → Completes (.gsAlignerRelease n p) s fun t =>
         t.aligner (nodeNum n) = (s.aligner (nodeNum n)).erase h ∧ Only [.regs, .outbox, .routers, .capWin,
           .linkEnds, .aligners] s t) ∧
     (Completes (.prbFreeze n) s fun t => t.rbit (prbPage (nodeNum n)) 0x40 8 = true ∧ t.status = 0 ∧
       RegsBut [regKey (prbPage (nodeNum n)) 0x40] s t ∧ Only [.regs, .status, .answer] s t)) ∧
  (∀ (s : State) (n : Fin 144),
     (∀ (f : ChanFlit) masked st, f.head = true → f.tail = true → s.gateRefusal (nodeNum n) f.hdr = some st →
       isNonPosted f.hdr = true → (s.router (nodeNum n)).owed = [] → Completes (.endpointBeArrive n f masked) s fun t =>
         (∃ r, t.outbox = s.outbox ++ [r] ∧ r.hdr.status = BitVec.ofNat 4 st ∧ r.hdr.destNode = f.hdr.srcNode ∧
           r.hdr.txn = f.hdr.txn) ∧
         t.reg (rtrPage (nodeNum n)) 0x88 = BitVec.ofNat 32 (satAdd 32 (s.reg (rtrPage (nodeNum n)) 0x88).toNat 1) ∧
         Only [.regs, .outbox, .routers] s t) ∧
     (∀ (f : ChanFlit) masked, f.head = true → f.tail = false → s.gateRefusal (nodeNum n) f.hdr = none →
       f.hdr.bkind ≠ 0#3 → f.flit.ecc = Vector.replicate 4 .clean → Completes (.endpointBeArrive n f masked) s fun t =>
         t.arriving (nodeNum n) f.vc.toNat = some ⟨true, f.hdr, []⟩ ∧ Only [.routers] s t) ∧
     (∀ (f : ChanFlit) masked, f.head = true → f.tail = true → s.gateRefusal (nodeNum n) f.hdr = none →
       f.hdr.destPort = 0x25#6 → f.hdr.bkind = 3#3 → f.flit.ecc = Vector.replicate 4 .clean →
       (s.router (nodeNum n)).owed = [] →
       Completes (.endpointBeArrive n f masked) s fun t =>
         (∃ r, t.outbox = s.outbox ++ [r] ∧ r.hdr.status = 7 ∧ r.hdr.destNode = f.hdr.srcNode) ∧ Only [.outbox,
           .routers] s t) ∧
     (∀ f : Flit, nodeNum n = 0x54 → s.gate 0x54 = gateOpen → entrySel (s.entryNow 0x54) 4 = 1 →
       16 ≤ entryEj (s.entryNow 0x54) → laneMode s (entryEj (s.entryNow 0x54) - 16) = 1 →
       s.portSpoil 0x54 (entryEj (s.entryNow 0x54)) = none → f.ecc = Vector.replicate 4 .clean →
       (∀ i : Fin 8, SWord.kind (f.words.get i) = 0#2) → Completes (.gsFlitEject n f) s fun t =>
         (t.lane (entryEj (s.entryNow 0x54) - 16)).tx = SWord.data (f.words.get 7) ∧ Only [.outer, .routers] s t) ∧
     (∀ f : Flit, s.gate (nodeNum n) ≠ gateOpen → 1 ≤ entrySel (s.entryNow (nodeNum n)) 4 →
       entrySel (s.entryNow (nodeNum n)) 4 ≤ 5 → Completes (.gsFlitEject n f) s fun t =>
         t.reg (rtrPage (nodeNum n)) 0x80 = BitVec.ofNat 32 (satAdd 32 (s.reg (rtrPage (nodeNum n)) 0x80).toNat 1) ∧
         t.rbit (rtrPage (nodeNum n)) 0x10 5 = true ∧ Only [.regs, .outbox, .routers] s t) ∧
     (∀ f : Flit, s.gate (nodeNum n) = gateOpen → 1 ≤ entrySel (s.entryNow (nodeNum n)) 4 →
       entrySel (s.entryNow (nodeNum n)) 4 ≤ 5 → exec (.gsFlitEject n f) s = .next ((s.takeOut (nodeNum n) 4).ejectFlit
         (nodeNum n) (entryEj (s.entryNow (nodeNum n))) (entryEj (s.entryNow (nodeNum n))) 0 f)) ∧
     (∀ f : Flit, (entrySel (s.entryNow (nodeNum n)) 4 = 0 ∨ 5 < entrySel (s.entryNow (nodeNum n)) 4) →
       exec (.gsFlitEject n f) s = .next (s.takeOut (nodeNum n) 4)))

/-- Admit gates (R136): CLOSE starts CLOSING; the gate is CLOSED when nothing is in progress, or is forced CLOSED after
its limit, with the cut packets gone; OPEN follows a cleared CLOSE bit, for a region's gate only while its region is
ACTIVE. -/
def Obligations.AdmitGates : Prop :=
  ∀ (s : State) (n : Fin 144),
    (s.gate (nodeNum n) = gateOpen → Completes (.epClose n) s fun t =>
      t.gate (nodeNum n) = gateClosing ∧ t.closeBit (nodeNum n) = true ∧ t.status = 0 ∧
      RegsBut [regKey (rtrPage (nodeNum n)) 0x48, regKey (rtrPage (nodeNum n)) 0x4C] s t ∧
      Only [.regs, .status, .answer] s t) ∧
    (s.gate (nodeNum n) = gateClosed → Completes (.epOpen n) s fun t =>
      t.gate (nodeNum n) = (if s.mayOpen (nodeNum n) then gateOpen else gateClosed) ∧ t.status = 0 ∧
      RegsBut [regKey (rtrPage (nodeNum n)) 0x48, regKey (rtrPage (nodeNum n)) 0x4C] s t ∧
      Only [.regs, .status, .answer] s t) ∧
    (s.gate (nodeNum n) = gateClosing → s.gateIdle (nodeNum n) = true → s.clearing = 0 → s.loader.waiting = false →
      Completes (.gateClosed n) s fun t => t.gate (nodeNum n) = gateClosed ∧
        t.closeBit (nodeNum n) = (s.closeBit (nodeNum n) || !s.mayOpen (nodeNum n)) ∧
        RegsBut [regKey (rtrPage (nodeNum n)) 0x48, regKey (rtrPage (nodeNum n)) 0x4C] s t ∧ Only [.regs] s t) ∧
    (s.gate (nodeNum n) = gateClosing → s.clearing = 0 → s.loader.waiting = false →
      Completes (.gateForcedClose n) s fun t =>
        t.gate (nodeNum n) = gateClosed ∧ t.admitted (nodeNum n) = 0 ∧ Only [.regs, .outbox, .routers, .regions] s t)

/-! Rounds and cog tables (07_scheduled_service). -/

/-- A round starts at every router of a die (R145, R159, R160): the counter is 0 and the round count one more; a swap
armed for that round brings the other bank into force, and a router enabled for the first time governs with bank 0.
Where it rests on a choice or an inference of the model: log entry 100. -/
def Obligations.RoundStarts : Prop :=
  ∀ (s : State) (d : Fin 9), s.loader.waiting = false → Completes (.roundStart d) s fun t =>
    (t.cogs d.val).cog = 0 ∧ (t.cogs d.val).round = (s.cogs d.val).round + 1 ∧
    (∀ e, e ≠ d.val → t.cogs e = s.cogs e) ∧
    (∀ n ∈ dieNodes d.val, s.cogArmed n = true → s.rfld (cogPage n) 0x50 0 16 = fld ((s.cogs d.val).round + 1) 0 16 →
      t.cogActive n = 1 - s.cogActive n ∧ t.cogArmed n = false) ∧
    (∀ n ∈ dieNodes d.val, s.cogArmed n = false → s.rbit (cogPage n) 0x40 0 = true → s.cogGoverning n = false →
      t.cogGoverning n = true ∧ t.cogActive n = 0) ∧
    (∀ n ∈ dieNodes d.val, s.cogArmed n = false → (s.rbit (cogPage n) 0x40 0 = false ∨ s.cogGoverning n = true) →
      t.cogActive n = s.cogActive n ∧ t.cogGoverning n = s.cogGoverning n) ∧
    Only [.regs, .outbox, .dieCogs] s t

/-- The cog table through TAB_DATA (R157): the standby bank's entry is written with bit 31 at 0 and read back; INDEX
advances with AUTOINC; the active bank, and any bank while a swap is armed, is not writable: DENIED, with the event.
Swaps and ENABLE (R158, R160): a swap is armed for a round 2 to 32,767 rounds ahead, refused with its event for any
other, and withdrawn; ENABLE once set stays. Where it rests on a choice or an inference of the model: log entry 100. -/
def Obligations.CogTablesAndSwaps : Prop :=
  (∀ (s : State) (node : Fin 144) (w : Word),
     let n := nodeNum node
     let p := cogPage n
     let bank := s.rfld p 0x54 16 1
     let i := s.rfld p 0x54 0 10
     (s.tabWritable n = true → Completes (.cogTabDataWrite node w) s fun t =>
       t.cogEntry n bank i = (w &&& 0x7FFFFFFF#32) ∧ t.status = 0 ∧
       (∀ k, k ≠ cogKey n bank i → tget (fun _ => 0) t.cogTab k = tget (fun _ => 0) s.cogTab k) ∧
       t.rfld p 0x54 0 10 = (if s.rbit p 0x54 31 then (i + 1) % 1024 else i) ∧
       RegsBut [regKey p 0x54] s t ∧ Only [.regs, .cogTab, .status, .answer] s t) ∧
     (s.tabWritable n = false → Completes (.cogTabDataWrite node w) s fun t =>
       t.status = 8 ∧ t.rbit p 0x10 4 = true ∧ Only [.regs, .outbox, .status, .answer] s t) ∧
     (Completes (.cogTabDataRead node) s fun t =>
       t.answer = [s.cogEntry n bank i] ∧ t.status = 0 ∧
       t.rfld p 0x54 0 10 = (if s.rbit p 0x54 31 then (i + 1) % 1024 else i) ∧
       RegsBut [regKey p 0x54] s t ∧ Only [.regs, .status, .answer] s t)) ∧
  (∀ (s : State) (node : Fin 144) (round : BitVec 16),
     let n := nodeNum node
     let p := cogPage n
     let ahead := (round.toNat + 2 ^ 16 - fld (s.cogs (nodeDie n)).round 0 16) % 2 ^ 16
     (2 ≤ ahead ∧ ahead ≤ 32767 → Completes (.cogSwapArm node round) s fun t =>
       t.cogArmed n = true ∧ t.rfld p 0x50 0 16 = round.toNat ∧ t.rbit p 0x50 31 = true ∧ t.status = 0 ∧
       RegsBut [regKey p 0x48, regKey p 0x50] s t ∧ Only [.regs, .status, .answer] s t) ∧
     (¬(2 ≤ ahead ∧ ahead ≤ 32767) → Completes (.cogSwapArm node round) s fun t =>
       t.cogArmed n = s.cogArmed n ∧ t.rbit p 0x10 3 = true ∧ t.status = 8 ∧ Only [.regs, .outbox, .status, .answer]
         s t) ∧
     (s.loader.waiting = false → Completes (.cogSwapDisarm node round) s fun t =>
       t.cogArmed n = false ∧ t.rbit p 0x50 31 = false ∧ t.rfld p 0x50 0 16 = round.toNat ∧ t.status = 0 ∧
       RegsBut [regKey p 0x48, regKey p 0x50] s t ∧ Only [.regs, .status, .answer] s t) ∧
     (Completes (.cogEnable node) s fun t =>
       t.rbit p 0x40 0 = true ∧ t.status = 0 ∧ RegsBut [regKey p 0x40] s t ∧ Only [.regs, .status, .answer] s t))

/-! Regions, sequencers and tile memory (05_tiles_and_regions). -/

/-- A region cycle runs in an ACTIVE region alone, and takes the region to its next cycle (R63, R68, R296). In TIME
mode a step comes every K region cycles (R106); the entry in force presents its span of steps, and the next is in
force from the region cycle after (R105). Where it rests on a choice or an inference of the model: log entry 17. -/
def Obligations.RegionCycle : Prop :=
  ∀ (s : State) (r : Fin 128),
    (s.rgnActive r.val = true → s.sec.halt = false → Completes (.regionCycle r) s fun t =>
      (t.region r.val).cyc = (s.region r.val).cyc + 1 ∧ t.rgnActive r.val = true ∧ Only [.regs, .mem, .outbox,
        .cells, .regions, .free, .routers, .descs, .lru, .atts, .mirrorOut, .mirrorCnt, .banks, .twin] s t) ∧
    (s.rgnActive r.val = false → Completes (.regionCycle r) s fun t => t = s) ∧
    (s.rgnActive r.val = true → s.sec.halt = false → s.seqMode r.val = 1 → (s.region r.val).kcount < s.seqK r.val →
      Completes (.seqStepTime r) s fun t => (t.region r.val).step = true ∧ (t.region r.val).kcount = 0 ∧
        (t.region r.val).cyc = (s.region r.val).cyc + (s.seqK r.val - (s.region r.val).kcount) ∧
        t.rgnActive r.val = true) ∧
    (s.rgnActive r.val = true → s.sec.halt = false → s.seqMode r.val = 1 → (s.region r.val).kcount + 1 = s.seqK r.val →
      Completes (.seqStepTime r) s fun t =>
      (t.region r.val).step = true ∧ (t.region r.val).kcount = 0 ∧
      ((s.region r.val).step = false → (t.region r.val).entry = (s.region r.val).entry ∧
        (t.region r.val).spanLeft = (s.region r.val).spanLeft) ∧
      ((s.region r.val).step = true → 1 < (s.region r.val).spanLeft → (t.region r.val).entry = (s.region r.val).entry ∧
        (t.region r.val).spanLeft = (s.region r.val).spanLeft - 1) ∧
      ((s.region r.val).step = true → (s.region r.val).spanLeft ≤ 1 →
        (t.region r.val).entry = (if (s.region r.val).entry = s.seqLast r.val then 0 else ((s.region r.val).entry +
          1) % 16) ∧
        (t.region r.val).spanLeft = s.seqEntrySpan r.val (t.region r.val).entry) ∧
      (t.region r.val).seqCtx = s.seqEntryCtx r.val (t.region r.val).entry) ∧
    ((s.rgnActive r.val = false ∨ s.seqMode r.val ≠ 1) → exec (.seqStepTime r) s = .next s)

/-- BE access to tile memory (R56): one word in a cycle that is free on its quarter. A read of one aligned word is
answered OK with that word; a write stores it and leaves every other byte alone; of a longer
access one word is done in each such cycle; an access that reaches its limit is answered DENIED, or discarded and
counted. -/
def Obligations.TileMemoryAccess : Prop :=
  ∀ (s : State) (r : Fin 128) (t : Fin 36) (a : TileAccess),
    (s.region r.val).tileAcc.find? (fun a => tileOf a.pkt.hdr == t.val) = some a →
    (s.router (regionNode r.val)).owed = [] →
    let h := a.pkt.hdr
    let ad := h.addr.toNat
    let used := tget (fun _ => 0) (s.region r.val).qbusy (t.val * 4 + ad % 0x2000 / 0x800)
    (s.rgnActive r.val = true → used ≠ (s.region r.val).cyc → used ≠ (s.region r.val).cyc + 1 → a.done = 0 → a.data =
      [] →
      ad % 4 = 0 → h.bytes = 4 →
      (h.bkind = 3#3 → Completes (.tileMemBeAccess r t) s fun u =>
        (∃ p, u.outbox = s.outbox ++ [p] ∧ p.hdr.status = 0 ∧ p.hdr.destNode = h.srcNode ∧ p.hdr.txn = h.txn ∧
          flitBytes p.payload 4 = wordBytes (s.readWord ad)) ∧
        (u.region r.val).tileAcc = (s.region r.val).tileAcc.erase a ∧ Only [.outbox, .regions] s u) ∧
      (h.bkind = 1#3 → a.pkt.payload.length = 1 → Completes (.tileMemBeAccess r t) s fun u =>
        (∀ b, u.readByte b = if ad ≤ b ∧ b < ad + 4 then (flitBytes a.pkt.payload 4).getD (b - ad) 0 else s.readByte
          b) ∧
        (u.region r.val).tileAcc = (s.region r.val).tileAcc.erase a ∧ Only [.mem, .regions] s u)) ∧
    (let used := tget (fun _ => 0) (s.region r.val).qbusy (t.val * 4 + tileWord h a.done % 0x2000 / 0x800)
     (s.rgnActive r.val = true → used ≠ (s.region r.val).cyc → used ≠ (s.region r.val).cyc + 1 →
      Completes (.tileMemBeAccess r t) s fun u =>
        (ad + h.bytes.toNat ≤ tileWord h a.done + 4 → (u.region r.val).tileAcc = (s.region r.val).tileAcc.erase a) ∧
        (tileWord h a.done + 4 < ad + h.bytes.toNat → ∃ b ∈ (u.region r.val).tileAcc, b.pkt = a.pkt ∧ b.done = a.done
          + 1 ∧
          (h.bkind = 3#3 → b.data = a.data ++ [s.readWord (tileWord h a.done)])) ∧
        (h.bkind = 3#3 → u.mem = s.mem) ∧ Only [.mem, .outbox, .regions] s u) ∧
     ((s.rgnActive r.val = false ∨ used = (s.region r.val).cyc ∨ used = (s.region r.val).cyc + 1) →
      exec (.tileMemBeAccess r t) s = .next s)) ∧
    (isNonPosted h = false → Completes (.tileMemWaitLimit r t) s fun u =>
      u.reg (rtrPage (regionNode r.val)) 0x84
        = BitVec.ofNat 32 (satAdd 32 (s.reg (rtrPage (regionNode r.val)) 0x84).toNat 1) ∧
      (u.region r.val).tileAcc = (s.region r.val).tileAcc.erase a ∧ Only [.regs, .regions] s u) ∧
    (isNonPosted h = true → Completes (.tileMemWaitLimit r t) s fun u =>
      (∃ p, u.outbox = s.outbox ++ [p] ∧ p.hdr.status = 8 ∧ p.hdr.destNode = h.srcNode ∧ p.payload = []) ∧
      (u.region r.val).tileAcc = (s.region r.val).tileAcc.erase a ∧ Only [.outbox, .regions] s u)

/-! Queues (08_millpond_queues). -/

/-- A queue bound to an attachment that holds its words in the window alone: no ring, nothing on its way, not
mirrored. -/
def Sys2Proof.Machine.DirectQueue (s : State) (k : Nat) : Prop :=
  (s.att k).bound = true ∧ (s.att k).unbind = .none ∧ (s.att k).staging = [] ∧ (s.att k).writes = [] ∧
  (s.att k).reads = [] ∧ (s.att k).skip = none ∧ (s.att k).lost = [] ∧ (s.att k).slots = [] ∧ (s.att k).window.length
    < 16 ∧
  (s.desc (s.att k).queue).ringLog2 = 0 ∧ (s.desc (s.att k).queue).rd = (s.desc (s.att k).queue).wr ∧
  (s.desc (s.att k).queue).rdWord = 0 ∧ (s.desc (s.att k).queue).state = qDirect ∧ s.mirrored (s.att k).queue = false

/-- Nothing stops the next word: no packet being spoilt or cut, no flush, no gate, no reserved code, room in PKTS. -/
def Sys2Proof.Machine.TakesWord (s : State) (k : Nat) (w : SWord) : Prop :=
  (s.att k).spoil = .none ∧ s.twin.cut.contains k = false ∧ (s.desc (s.att k).queue).flush = false ∧
  (s.desc (s.att k).queue).gated = false ∧ (s.att k).arrived < 4095 ∧
  SWord.isIdle w = false ∧ SWord.isReserved w = false ∧ (s.desc (s.att k).queue).pkts.toNat < 2 ^ 24 - 1

/-- A receive port (index below 16) of a region or millpond page. -/
def Sys2Proof.Machine.recvKey (page : Fin 132) (i : Fin 16) : Nat := portKey page ⟨i.val, by omega⟩

/-- Words in and out of a queue (R178, R186, R189, R195): a word that arrives is the window's last, an END counts a
packet; the head word is what the consumer takes, with its tag, while the packet is taken or a whole one is there; a
port without a queue gives IDLE UNBOUND. Where it rests on a choice or an inference of the model: log entry 25. -/
def Obligations.QueueWords : Prop :=
  ∀ (s : State) (page : Fin 132) (i : Fin 16),
    let k := recvKey page i
    (∀ w, DirectQueue s k → TakesWord s k w → Completes (.queueWordArrive page ⟨i.val, by omega⟩ w) s fun t =>
      (t.att k).window = (s.att k).window ++ [w] ∧
      (t.desc (s.att k).queue).pkts = (s.desc (s.att k).queue).pkts + (if SWord.isEnd w then 1 else 0) ∧
      (∀ j, j ≠ k → t.att j = s.att j) ∧ Only [.atts, .descs] s t) ∧
    (∀ w ws, DirectQueue s k → s.attClosed k = false → (s.att k).mid = true → (s.att k).window = w :: ws →
      Completes (.queueDeliver page ⟨i.val, by omega⟩) s fun t =>
        t.answer = [SWord.data w, (SWord.tag w).setWidth 32] ∧ t.status = 0 ∧ (t.att k).window = ws ∧
        (t.att k).mid = !SWord.isEnd w ∧ (∀ j, j ≠ k → t.att j = s.att j) ∧
        Only [.atts, .descs, .regions, .status, .answer] s t) ∧
    ((s.att k).bound = false → Completes (.queueDeliver page ⟨i.val, by omega⟩) s fun t =>
      t.answer = [1#32, 0x18#32] ∧ t.atts = s.atts ∧ t.descs = s.descs)

/-- The ring's transfers (R182, R183): an answered write moves WR past its slot; a refused one is kept for a retry;
one without a response waits to be reissued; a reissue is sent again under a new transaction number and counted; 64
idle cycles after an END spill a partial slot. Where it rests on a choice or an inference of the model: log entry 30. -/
def Obligations.QueueTransfers : Prop :=
  ∀ (s : State) (page : Fin 132) (i : Fin 16),
    let k := recvKey page i
    let d := s.desc (s.att k).queue
    (∀ t₀ data, (s.att k).unbind = .none → (s.att k).writes = [t₀] → (s.att k).staging = [] → (s.att k).reads = [] →
      t₀.phase = .sent → t₀.dead = false → t₀.slot = d.wr.toNat → d.state = qSpilling → d.ringLog2.toNat ≤ 28 →
      s.loader.waiting = false → Completes (.leatResponse page ⟨i.val, by omega⟩ t₀.txn 0 data) s fun t =>
        (t.desc (s.att k).queue).wr = BitVec.ofNat 29 ((t₀.slot + 1) % d.ringMod) ∧ (t.att k).writes = [] ∧
        t.mem = s.mem ∧ t.regs = s.regs) ∧
    (∀ t₀ data, (s.att k).writes = [t₀] → t₀.phase = .sent → s.loader.waiting = false →
      Completes (.leatResponse page ⟨i.val, by omega⟩ t₀.txn 4 data) s fun t =>
        (t.att k).writes = [{ t₀ with phase := .retry, issued := s.cycle }] ∧ Only [.atts] s t) ∧
    (∀ txn, Completes (.leatTimeout page ⟨i.val, by omega⟩ txn) s fun t =>
      (∀ u ∈ (t.att k).writes, ¬(u.txn = txn ∧ u.phase = .sent)) ∧ (t.att k).writes.length = (s.att k).writes.length ∧
      (t.att k).window = (s.att k).window ∧ (∀ j, j ≠ k → t.att j = s.att j) ∧ Only [.atts] s t) ∧
    (∀ t₀, (s.att k).writes = [t₀] → t₀.phase = .retry → Completes (.leatReissue page ⟨i.val, by omega⟩ t₀.txn) s fun
      t =>
      (t.att k).writes = [{ t₀ with txn := (s.att k).nextTxn, phase := .sent, issued := s.cycle }] ∧
      (∃ p rest, t.outbox = s.outbox ++ p :: rest ∧ p.hdr.bkind = 2#3 ∧ p.hdr.txn = (s.att k).nextTxn) ∧
      t.reg (attPage k) 0x44 = BitVec.ofNat 32 (satAdd 32 (s.reg (attPage k) 0x44).toNat 1) ∧
      Only [.atts, .outbox, .regs] s t) ∧
    (∀ w, (s.att k).bound = true → (s.att k).unbind = .none → (s.att k).staging = [w] → SWord.isEnd w = true →
      (s.att k).cur = [] → (s.att k).writes.length ≤ 7 → (∀ u ∈ (s.att k).writes, u.dead = false ∧ u.phase ≠ .queued) →
      ringUsable d = true → 0 < d.ringCount → d.ringCount + 7 < d.ringSize →
      Completes (.spillIdleTimeout page ⟨i.val, by omega⟩) s fun t =>
        (t.att k).staging = [] ∧ (∃ u ∈ (t.att k).writes, u.words = [w] ∧ u.phase = .sent) ∧
        (∀ j, j ≠ k → t.att j = s.att j) ∧ t.mem = s.mem)

/-- Flush and weir (R188, R191, R192): a flush waits while the consumer is inside a packet, takes effect at a
boundary by removing what is stored and arming a FLUSH-MARK that counts the packets, and is forced after its limit;
WEIR is written to the descriptor. Unbinding (R175): an empty queue of a port whose gate is CLOSED is PARKED at once
and its attachment is free; at the limit of its transfers it is left in FAULT and the words it held are counted.
Where it rests on a choice or an inference of the model: log entries 29, 31. -/
def Obligations.QueueFlushUnbind : Prop :=
  (∀ (s : State) (page : Fin 132) (i : Fin 16),
     let k := recvKey page i
     let q := (s.att k).queue
     ((s.att k).bound = true → (s.att k).mid = true → s.mirrored q = false → (s.desc q).flush = false →
       Completes (.qpFlush page ⟨i.val, by omega⟩) s fun t =>
         (t.desc q).flush = true ∧ (t.att k).flushAt = s.cycle ∧ (t.att k).window = (s.att k).window ∧ t.status = 0 ∧
         (∀ j, j ≠ q → t.desc j = s.desc j) ∧ Only [.atts, .descs, .status, .answer] s t) ∧
     (DirectQueue s k → (s.att k).cur = [] → (s.desc q).flush = true → (s.att k).mid = false →
       Completes (.flushEffect page ⟨i.val, by omega⟩) s fun t =>
         (t.att k).window = [] ∧ (t.desc q).flush = false ∧ (t.desc q).marker = true ∧ (t.desc q).pkts = 0 ∧
         (t.desc q).markCnt = BitVec.ofNat 24 (satAdd 24 (s.desc q).markCnt.toNat (s.desc q).pkts.toNat) ∧
         (∀ j, j ≠ k → t.att j = s.att j) ∧ (∀ j, j ≠ q → t.desc j = s.desc j) ∧
         Only [.regs, .outbox, .atts, .descs] s t) ∧
     (DirectQueue s k → (s.att k).cur = [] → (s.desc q).flush = true → (s.att k).mid = true → (s.desc q).pkts ≠ 0 →
       Completes (.flushForced page ⟨i.val, by omega⟩) s fun t =>
         (t.att k).window = [] ∧ (t.att k).mid = false ∧ (t.desc q).flush = false ∧ (t.desc q).marker = true ∧
         (t.desc q).pkts = 0 ∧ (∀ j, j ≠ k → t.att j = s.att j) ∧ Only [.regs, .outbox, .atts, .descs] s t) ∧
     (∀ w, (s.att k).bound = true → Completes (.qpWeirWrite page ⟨i.val, by omega⟩ w) s fun t =>
       t.desc q = { s.desc q with weir := w } ∧ t.status = 0 ∧ (∀ j, j ≠ q → t.desc j = s.desc j) ∧
       Only [.descs, .status, .answer] s t)) ∧
  (∀ (s : State) (page : Fin 132) (i : Fin 16),
     let k := recvKey page i
     let q := (s.att k).queue
     (DirectQueue s k → s.gate (attNode k) = gateClosed → (s.att k).window = [] → (s.att k).cur = [] →
       (s.att k).spoil = .none → s.loader.waiting = false → Completes (.queueUnbind page ⟨i.val, by omega⟩) s fun t =>
         t.att k = Att.reset ∧ (t.desc q).bound = false ∧ (t.desc q).state = qParked ∧
         (∀ j, j ≠ k → t.att j = s.att j) ∧ (∀ j, j ≠ q → t.desc j = s.desc j) ∧ t.mem = s.mem ∧ t.outbox = s.outbox) ∧
     ((s.att k).unbind = .draining → (s.att k).beHdr = none → s.loader.waiting = false → Completes (.unbindTimeout
       page ⟨i.val, by omega⟩) s fun t =>
       t.att k = Att.reset ∧ (t.desc q).bound = false ∧ (t.desc q).state = qFault ∧
       t.reg (attPage k) (attCnt k 4) = BitVec.ofNat 32 (satAdd 32 (s.reg (attPage k) (attCnt k 4)).toNat
         ((s.att k).window.length + (s.att k).staging.length)) ∧
       (∀ j, j ≠ k → t.att j = s.att j) ∧ Only [.regs, .descs, .lru, .atts] s t))

/-- Service operations at a quarter that serves them (R198, R199, R202): PUSH appends to and POP takes from the queue
the descriptor names, WEIR, FLUSH, STATUS and CONFIG work on the descriptor, a reserved operation is MALFORMED, and a
quarter that is not enabled answers ENDPOINT_CLOSED. The millpond's ENABLE (Table 8-15): a quarter whose ENABLE is 0
answers ENDPOINT_CLOSED and does nothing. Where it rests on a choice or an inference of the model: log entries 26,
30. -/
def Obligations.ServiceRequests : Prop :=
  (∀ (s : State) (q : Fin 1048576), s.descCached q.val = true → s.qmServes q.val false = true →
     (∀ k w, (s.desc q.val).svcKey q.val = some k → isSvc k = false → (s.att k).queue = q.val → DirectQueue s k →
       TakesWord s k w → (s.desc q.val).kind = 1#2 → Completes (.svcPush q [w]) s fun t =>
         t.status = 0 ∧ (t.att k).window = (s.att k).window ++ [w] ∧ (∀ j, j ≠ k → t.att j = s.att j) ∧ t.mem = s.mem) ∧
     (∀ k w ws, (s.desc q.val).svcKey q.val = some k → isSvc k = false → (s.att k).queue = q.val → DirectQueue s k →
       (s.att k).mid = true → (s.att k).window = w :: ws → SWord.isIdle w = false → (s.desc q.val).flush = false →
       (s.desc q.val).kind = 2#2 →
       Completes (.svcPop q 0 false) s fun t =>
         t.status = 0 ∧ t.answer = [SWord.data w, (SWord.tag w).setWidth 32] ∧ (t.att k).window = ws ∧
         (∀ j, j ≠ k → t.att j = s.att j) ∧ t.mem = s.mem) ∧
     ((s.desc q.val).bound = false → svcBarred (s.desc q.val) = false → Completes (.svcFlush q) s fun t =>
       t.status = 0 ∧ t.desc q.val = { s.desc q.val with flush := true } ∧ t.atts = s.atts ∧ t.mem = s.mem) ∧
     (∀ w, svcBarred (s.desc q.val) = false → Completes (.svcWeir q w) s fun t =>
       t.status = 0 ∧ t.desc q.val = { s.desc q.val with weir := w } ∧ (∀ j, j ≠ q.val → t.desc j = s.desc j) ∧
       Only [.regs, .descs, .lru, .status, .answer] s t) ∧
     (svcBarred (s.desc q.val) = false → Completes (.svcStatus q) s fun t =>
       t.status = 0 ∧ t.answer.length = 8 ∧ t.answer.getD 1 0 = (s.desc q.val).lead ∧ t.descs = s.descs ∧
       Only [.regs, .descs, .lru, .status, .answer] s t) ∧
     (∀ l, (s.desc q.val).bound = false → configBad l (descOf l) = false → (descOf l).bound = false →
       Completes (.svcConfig q l) s fun t =>
         t.status = 0 ∧ t.desc q.val = (descOf l).held ∧ (∀ j, j ≠ q.val → t.desc j = s.desc j) ∧ t.atts = s.atts) ∧
     (∀ op, Completes (.svcReservedOp q op) s fun t => t.status = 7 ∧ t.answer = [] ∧ Only [.status, .answer] s t)) ∧
  (∀ (s : State) (quarter : Fin 4) (on : Bool),
     (Completes (.qmEnable quarter on) s fun t =>
       t.rbit (qmPage quarter.val) 0x40 0 = on ∧ t.status = 0 ∧ RegsBut [regKey (qmPage quarter.val) 0x40] s t ∧
       Only [.regs, .status, .answer] s t) ∧
     (∀ (q : Fin 1048576) (w : BitVec 12), q.val % 4 = quarter.val → s.rbit (qmPage quarter.val) 0x40 0 = false →
       Completes (.svcWeir q w) s fun t => t.status = 3 ∧ Only [.status, .answer] s t))

/-! Governor (09_governor). -/

/-- Encoder channels (R205 to R209, R211): an accepted edge of A or B counts by the quadrature rule and moves the
axes that count the channel by AX_SCALE; a rising Z latches the count; faults on inputs in use make the VALID axes of
the channel INVALID; an SSI frame starts on the microsecond with the data input high, a good one shows its value and
one of wrong parity is discarded. Axes (R210, R212, R213): a configuration is taken while the axis is not VALID and
its sources are in their modes, and refused with its event while VALID; ARM_REF in immediate mode references the
axis; INVALIDATE ends VALID; a read of AX_POS answers the low word of the published position and latches the high
bits. Where it rests on a choice or an inference of the model: log entries 35, 36. -/
def Obligations.MotionInputs : Prop :=
  (∀ (s : State) (c : Fin 8),
     (∀ a b z, s.encMode c.val = 1 → a ≠ (s.enc c.val).a → b = (s.enc c.val).b → z = (s.enc c.val).z →
       Completes (.encLevelAccept c a b z) s fun t =>
         t.reg encPage (encOff c.val 0x10C) = s.reg encPage (encOff c.val 0x10C) + (if a ≠ b then 1#32 else
           0xFFFFFFFF#32) ∧
         (t.enc c.val).a = a ∧
         (∀ x : Fin 4, s.axCounts x.val c.val = true → (t.axis x.val).pos = (s.axis x.val).pos + BitVec.ofInt 64
           ((if (a != b) != s.axDir x.val then 1 else -1) * s.axScale x.val)) ∧
         (∀ x : Fin 4, s.axCounts x.val c.val = false → t.axis x.val = s.axis x.val) ∧ Only [.regs, .encs, .axes] s t) ∧
     (∀ a b, s.encMode c.val = 1 → a = (s.enc c.val).a → b = (s.enc c.val).b → (s.enc c.val).z = false →
       Completes (.encLevelAccept c a b true) s fun t =>
         t.reg encPage (encOff c.val 0x110) = s.reg encPage (encOff c.val 0x10C) ∧
         t.reg encPage (encOff c.val 0x10C) = s.reg encPage (encOff c.val 0x10C) ∧
         t.rbit encPage (encOff c.val 0x114) 1 = true ∧ Only [.regs, .encs, .axes, .outbox] s t) ∧
     (∀ m, (m &&& ~~~(s.enc c.val).fault &&& modeInputs (s.encMode c.val)) ≠ 0 → Completes (.lineFault c m) s fun t =>
       (t.enc c.val).fault = (s.enc c.val).fault ||| m ∧ t.rbit encPage 0x10 2 = true ∧ t.lineOk c.val = false ∧
       (∀ x : Fin 4, s.axState x.val = 2 → (s.axCounts x.val c.val || s.axFrames x.val c.val) = true →
         t.axState x.val = 3 ∧ t.rfld govPage (axOff x.val 0x11C) 8 4 = 2) ∧ Only [.regs, .encs, .outbox] s t) ∧
     (∀ m, (m &&& ~~~(s.enc c.val).fault &&& modeInputs (s.encMode c.val)) = 0 → Completes (.lineFault c m) s fun t =>
       t.enc c.val = { s.enc c.val with fault := (s.enc c.val).fault ||| m } ∧
       (∀ e, e ≠ c.val → t.enc e = s.enc e) ∧ Only [.encs] s t) ∧
     (∀ m, Completes (.lineOkReturn c m) s fun t =>
       t.enc c.val = { s.enc c.val with fault := (s.enc c.val).fault &&& ~~~m } ∧
       (∀ e, e ≠ c.val → t.enc e = s.enc e) ∧ Only [.encs] s t) ∧
     (s.encMode c.val = 2 → (s.enc c.val).frameAt = none → (s.enc c.val).nextAt ≤ s.tbDie 0 / 8000 * 8000 →
       ((s.enc c.val).a = true → Completes (.ssiFrameStart c) s fun t =>
         (t.enc c.val).frameAt = some (s.tbDie 0 / 8000 * 8000) ∧
         (t.enc c.val).nextAt = s.tbDie 0 / 8000 * 8000 + s.ssiPoll c.val ∧ Only [.encs] s t) ∧
       ((s.enc c.val).a = false → Completes (.ssiFrameStart c) s fun t =>
         (t.enc c.val).frameAt = none ∧ t.rbit encPage 0x10 1 = true ∧ t.rbit encPage (encOff c.val 0x114) 3 = false ∧
         Only [.regs, .encs, .axes, .outbox] s t)) ∧
     (∀ raw par at_, (s.enc c.val).frameAt = some at_ →
       let n := s.ssiBits c.val
       let v := raw.toNat % 2 ^ n
       let odd := (((List.range n).filter fun i => v / 2 ^ i % 2 == 1).length + b2n par) % 2 == 1
       ((s.ssiParity c.val && odd) = false → Completes (.ssiFrameEnd c raw par) s fun t =>
         t.reg encPage (encOff c.val 0x10C) = BitVec.ofNat 32 (if s.ssiGray c.val then grayToBin n v % 2 ^ n else v) ∧
         t.rbit encPage (encOff c.val 0x114) 3 = true ∧ (t.enc c.val).frameAt = none ∧
         Only [.regs, .encs, .axes, .outbox] s t) ∧
       ((s.ssiParity c.val && odd) = true → Completes (.ssiFrameEnd c raw par) s fun t =>
         t.reg encPage (encOff c.val 0x10C) = s.reg encPage (encOff c.val 0x10C) ∧
         t.rbit encPage (encOff c.val 0x114) 3 = false ∧ t.rbit encPage 0x10 1 = true ∧ (t.enc c.val).frameAt = none ∧
         Only [.regs, .encs, .axes, .outbox] s t))) ∧
  (∀ (s : State) (a : Fin 4),
     (∀ w, s.axState a.val = 0 → (w &&& axCfgMask) ≠ s.axCtrl a.val → fld w 0 2 ≠ 0 → fld w 4 2 ≠ 3 → fld w 16 4 ≤ 8 →
       s.sourcesOk w = true → bit w 30 = false → bit w 31 = false → Completes (.axCtrlWrite a w) s fun t =>
         t.axCtrl a.val = w &&& axCfgMask ∧ t.axState a.val = 1 ∧ t.status = 0 ∧
         RegsBut [regKey govPage (axOff a.val 0x100), regKey govPage (axOff a.val 0x11C)] s t ∧
         Only [.regs, .axes, .status, .answer] s t) ∧
     (∀ w, s.axState a.val = 2 → (w &&& axCfgMask) ≠ s.axCtrl a.val → Completes (.axCtrlWrite a w) s fun t =>
       t.axCtrl a.val = s.axCtrl a.val ∧ t.axState a.val = 2 ∧ t.rbit govPage 0x10 4 = true ∧
       Only [.regs, .outbox, .status, .answer] s t) ∧
     ((s.axCtrl a.val &&& axCfgMask) = s.axCtrl a.val → s.sourcesOk (s.axCtrl a.val) = true → (s.axState a.val = 1 ∨
       s.axState a.val = 3) →
       s.axRefMode a.val = 0 → Completes (.armRef a) s fun t =>
         t.axState a.val = 2 ∧ t.axArmed a.val = false ∧ (t.axis a.val).pos = s.axRef a.val ∧ (t.axis a.val).hist = [] ∧
         t.rbit govPage 0x10 1 = true ∧ t.status = 0 ∧ Only [.regs, .outbox, .axes, .status, .answer] s t) ∧
     ((s.axCtrl a.val &&& axCfgMask) = s.axCtrl a.val → s.sourcesOk (s.axCtrl a.val) = true → s.axState a.val = 2 →
       Completes (.invalidate a) s fun t =>
       t.axState a.val = 3 ∧ t.rfld govPage (axOff a.val 0x11C) 8 4 = 5 ∧ t.rbit govPage 0x10 2 = true ∧ t.status = 0 ∧
       Only [.regs, .outbox, .status, .answer] s t) ∧
     (Completes (.axPosRead a) s fun t =>
       t.answer = [(published (s.axis a.val).pos).extractLsb' 0 32] ∧ t.status = 0 ∧
       t.reg govPage (axOff a.val 0x124) = ((published (s.axis a.val).pos).extractLsb' 32 24).setWidth 32 ∧
       Only [.regs, .status, .answer] s t))

/-- The timebase (R216, R217, R233): RATE is clamped, TB_ADJ is slewed, at whose end all of it is applied and the
time has not run backwards, TB_SET steps the time unless an axis is VALID or a trigger enabled, and a read of TB_LO
latches TB_HI. Where it rests on a choice or an inference of the model: log entry 33. -/
def Obligations.Timebase : Prop :=
  ∀ (s : State) (w : Word),
    (Completes (.tbRateWrite w) s fun t =>
      (t.reg govPage 0x48).toInt = max (-2147484) (min 2147484 w.toInt) ∧ t.status = 0 ∧
      RegsBut [regKey govPage 0x48] s t ∧ Only [.regs, .status, .answer] s t) ∧
    (Completes (.tbAdjWrite w) s fun t =>
      t.tbSlew = max (-2 ^ 30) (min (2 ^ 30) w.toInt) * tbUnit ∧ t.status = 0 ∧ Only [.tbSlew, .status, .answer] s t) ∧
    (let cycles : Int := (s.tbSlew.natAbs + 2 ^ 28 - 1) / 2 ^ 28
     let end_ : Int := (s.tb : Int) + cycles * (625 * (2 ^ 32 + s.tbRate)) + s.tbSlew
     Completes .tbSlewDone s fun t => t.tbSlew = 0 ∧ t.tb = end_.toNat % (2 ^ 64 * tbUnit) ∧
      (-2147484 ≤ s.tbRate → end_ < 2 ^ 64 * tbUnit → s.tb ≤ t.tb) ∧ Only [.tb, .tbSlew] s t) ∧
    ((∀ a, a < 4 → s.axState a ≠ 2) → (∀ i, i < 8 → s.ltEnabled i = false) → Completes (.tbSet w) s fun t =>
      t.tbNs = w.toNat * 2 ^ 32 + (s.reg govPage 0x50).toNat ∧ t.status = 0 ∧ Only [.tb, .status, .answer] s t) ∧
    ((∃ a, a < 4 ∧ s.axState a = 2) → Completes (.tbSet w) s fun t =>
      t.tb = s.tb ∧ t.status = 8 ∧ t.rbit govPage 0x10 5 = true ∧ Only [.regs, .outbox, .status, .answer] s t) ∧
    (Completes .tbLoRead s fun t =>
      t.answer = [BitVec.ofNat 32 s.tbNs] ∧ t.reg govPage 0x44 = BitVec.ofNat 32 (s.tbNs / 2 ^ 32) ∧ t.status = 0 ∧
      RegsBut [regKey govPage 0x44] s t ∧ Only [.regs, .status, .answer] s t)

/-- Samples (R218): the governor's sample carries the time, a multiple of 10 ns, and every axis's state and published
position; delivered on a die, it is what the die's consumers see. Line triggers (R220, R229, R230, R437): a TIME
trigger with a pitch and a free pin is enabled and owns the pin, one whose pin is in use is refused with its event;
while enabled, a write with ENABLE 0 disables it and one with 1 writes STAMP_EN and POL alone; it fires once a pitch.
Where it rests on a choice or an inference of the model: log entries 34, 37. -/
def Obligations.SamplesAndTriggers : Prop :=
  (∀ s : State,
     (Completes .govSample s fun t =>
       ∃ g, tget (fun _ => []) t.samples 0 = tget (fun _ => []) s.samples 0 ++ [g] ∧ g.time = s.tbNs / 10 * 10 ∧
         (∀ a : Fin 4, (g.axes.get a).state = BitVec.ofNat 2 (s.axState a.val) ∧
           (g.axes.get a).pos = published (s.axis a.val).pos) ∧
         Only [.regs, .outbox, .free, .axes, .samples, .sampleOut] s t) ∧
     (∀ (d : Fin 9) g rest, tget (fun _ => []) s.samples d.val = g :: rest → Completes (.sampleDelivery d) s fun t =>
       tget (fun _ => GovSample.reset) t.sampled d.val = g ∧ tget (fun _ => []) t.samples d.val = rest ∧
       (∀ e, e ≠ d.val → tget (fun _ => GovSample.reset) t.sampled e = tget (fun _ => GovSample.reset) s.sampled e) ∧
       Only [.regs, .outbox, .regions, .atts, .trigs, .samples, .sampled, .grps] s t)) ∧
  (∀ (s : State) (i : Fin 8) (w : Word),
     (s.ltEnabled i.val = false → bit w 0 = true → bit w 1 = true → s.ltPitch i.val ≠ 0 →
       pwFunc (s.pinWord 0 (fld w 8 6)) = 0 → Completes (.ltEnable i w) s fun t =>
         t.ltEnabled i.val = true ∧ t.ltTime i.val = true ∧ t.status = 0 ∧ (t.trig i.val).next = s.tbNs + s.ltPitch
           i.val ∧
         pwFunc (t.pinWord 0 (fld w 8 6)) = 0x50 + i.val ∧ Only [.regs, .trigs, .status, .answer] s t) ∧
     (s.ltEnabled i.val = false → bit w 0 = true → s.ltPitch i.val ≠ 0 → pwFunc (s.pinWord 0 (fld w 8 6)) ≠ 0 →
       Completes (.ltEnable i w) s fun t =>
         t.ltEnabled i.val = false ∧ t.status = 8 ∧ t.rbit govPage 0x10 9 = true ∧ t.rbit govPage 0x0C 6 = true ∧
         Only [.regs, .outbox, .status, .answer] s t) ∧
     (s.ltEnabled i.val = true → bit w 0 = false → Completes (.ltEnable i w) s fun t =>
       t.ltEnabled i.val = false ∧ t.status = 0 ∧ (t.trig i.val).source = (s.trig i.val).source ∧
       Only [.regs, .trigs, .status, .answer] s t) ∧
     (s.ltEnabled i.val = true → bit w 0 = true → Completes (.ltEnable i w) s fun t =>
       t.ltCtrl i.val = putFld (s.ltCtrl i.val) 4 2 (fld w 4 2) ∧ t.status = 0 ∧ RegsBut [regKey govPage (ltOff i.val
         0x200)] s t ∧
       Only [.regs, .status, .answer] s t) ∧
     (s.ltEnabled i.val = true → s.ltTime i.val = true → (s.trig i.val).lastAt = none → (s.trig i.val).point = none →
       Completes (.triggerFire i) s fun t =>
         (t.trig i.val).next = (s.trig i.val).next + s.ltPitch i.val ∧
         t.reg govPage (ltOff i.val 0x210) = BitVec.ofNat 32 (satAdd 32 (s.reg govPage (ltOff i.val 0x210)).toNat 1) ∧
         RegsBut [regKey govPage (ltOff i.val 0x210)] s t ∧ Only [.regs, .trigs] s t) ∧
     (∀ tp, s.ltEnabled i.val = true → s.ltTime i.val = false → (s.trig i.val).tp = some tp →
       exec (.triggerFire i) s = .next (((s.trigPulse i.val tp false).trigNext i.val).trigSample i.val)) ∧
     ((s.ltEnabled i.val = false ∨ (s.ltTime i.val = false ∧ (s.trig i.val).tp = none)) →
       exec (.triggerFire i) s = .next s))

/-! User I/O (09_governor, 18_physical). -/

/-- Stamped output (R222 to R226, R433): the first word of a packet is held with its target and predicted crossing,
or is LATE and counted; while the axis is not valid the packet becomes POISON, made and counted at its END (R33); a
held packet is given its I/O edge and tap; at them a whole packet is driven and counted. Streams, captures and pins
(R314, R429 to R438, R501): a data word queues at its beat slot; a captured word is packed, ended at the packet's
length; calibration settles NC and T0 or counts a failure; pin and group words, their reserved bits ignored, are
written when no one else owns the pin; a bank's VCCIO falls and returns. Where it rests on a choice or an inference
of the model: log entries 38, 39, 86, 101. -/
def Obligations.InputOutput : Prop :=
  (∀ (s : State) (d g : Fin 8),
     let e := sailDie d
     let gw := s.grpWord e g.val
     let smp := s.delivered e (gwAxis gw)
     (∀ w tgt, gwMode gw = 2 → (s.grp e g.val).inPkt = false → s.grpLive e g.val = true → SWord.isIdle w = false →
       SWord.isPoison w = false → SWord.isPos w = true → smp.valid = true → (SWord.arg w).toNat % 4 = gwAxis gw →
       stampTarget w smp.pos = some tgt →
         (∀ tp, s.judge e tgt smp = some tp → (s.grp e g.val).stored < 2048 → Completes (.ioStampedArrive d g w) s
           fun t =>
           (t.grp e g.val).pkts = (s.grp e g.val).pkts ++ [⟨tgt, tp, [], 1, SWord.isEnd w, none, false⟩] ∧
           (∀ h, h < 8 → h ≠ g.val → t.grp e h = s.grp e h) ∧ Only [.grps] s t) ∧
         (s.judge e tgt smp = none → Completes (.ioStampedArrive d g w) s fun t =>
           (t.grp e g.val).pkts = (s.grp e g.val).pkts ∧ t.rbit (iobPage e) 0x10 0 = true ∧
           t.reg (iobPage e) (grpOff g.val + 0x10) = counted (s.reg (iobPage e) (grpOff g.val + 0x10)) ∧
           PagesBut [iobPage e] s t ∧ Only [.regs, .outbox, .grps] s t)) ∧
     (∀ w, gwMode gw = 2 → (s.grp e g.val).inPkt = false → s.grpLive e g.val = true → SWord.isIdle w = false →
       SWord.isPoison w = false → smp.valid = false →
         (SWord.isEnd w = false → Completes (.ioStampedArrive d g w) s fun t =>
           (t.grp e g.val).rest = .poison 1 1 ∧ (t.grp e g.val).inPkt = true ∧
           (t.grp e g.val).pkts = (s.grp e g.val).pkts ∧ Only [.grps] s t) ∧
         (SWord.isEnd w = true → Completes (.ioStampedArrive d g w) s fun t =>
           (t.grp e g.val).inPkt = false ∧ (t.grp e g.val).pkts = (s.grp e g.val).pkts ∧
           t.reg (iobPage e) (grpOff g.val + 0x14) = counted (s.reg (iobPage e) (grpOff g.val + 0x14)) ∧
           t.rbit (iobPage e) 0x10 1 = true ∧ PagesBut [iobPage e] s t ∧ Only [.regs, .outbox, .grps] s t)) ∧
     (∀ i p tp, nextHeld (s.grp e g.val).pkts = some (i, tp) → (s.grp e g.val).pkts[i]? = some p →
       s.rfld (iobPage e) 0x44 0 9 ≠ 0 →
       let f := placeAt tp (s.t0At e) (s.tIo e) (s.rfld (iobPage e) 0x44 0 9)
       (((s.grp e g.val).pkts.take i).any (fun q => q.first.isNone) = false → Moment.lt f.2.2 (s.grp e g.val).busy =
         false →
         Completes (.stampCommit d g) s fun t =>
           (t.grp e g.val).pkts = (s.grp e g.val).pkts.set i { p with first := some f } ∧ Only [.grps] s t) ∧
       (((s.grp e g.val).pkts.take i).any (fun q => q.first.isNone) = true ∨ Moment.lt f.2.2 (s.grp e g.val).busy =
         true →
         Completes (.stampCommit d g) s fun t =>
           (t.grp e g.val).pkts = (s.grp e g.val).pkts.eraseIdx i ∧
           t.reg (iobPage e) (grpOff g.val + 0x10) = counted (s.reg (iobPage e) (grpOff g.val + 0x10)) ∧
           Only [.regs, .outbox, .grps] s t)) ∧
     (∀ p rest, (s.grp e g.val).pkts = p :: rest → p.first.isSome = true → p.driving = false → p.ended = false →
       p.words ≠ [] → Completes (.stampDriveStart d g) s fun t =>
         (t.grp e g.val).pkts = { p with driving := true } :: rest ∧ (t.grp e g.val).last = p.words.getLast? ∧
         Only [.grps] s t) ∧
     (∀ p tp, (s.grp e g.val).pkts = [p] → p.first = none → p.tp = some tp → s.rfld (iobPage e) 0x44 0 9 ≠ 0 →
       let f := placeAt tp (s.t0At e) (s.tIo e) (s.rfld (iobPage e) 0x44 0 9)
       Moment.lt f.2.2 (s.grp e g.val).busy = false → Completes (.stampCommit d g) s fun t =>
         (t.grp e g.val).pkts = [{ p with first := some f }] ∧ Only [.grps] s t) ∧
     (∀ p rest, (s.grp e g.val).pkts = p :: rest → p.first.isSome = true → p.driving = false → p.ended = true →
       Completes (.stampDriveStart d g) s fun t =>
         (t.grp e g.val).pkts = rest ∧ (t.grp e g.val).last = p.words.getLast? ∧
         t.reg (iobPage e) (grpOff g.val + 0xC) = counted (s.reg (iobPage e) (grpOff g.val + 0xC)) ∧
         PagesBut [iobPage e, twnPage] s t ∧ Only [.regs, .grps, .twin] s t)) ∧
  (∀ (s : State) (d g : Fin 8),
     let e := sailDie d
     let gw := s.grpWord e g.val
     let x := s.grp e g.val
     (∀ w, gwMode gw = 1 → SWord.kind w = 0#2 → SWord.isIdle w = false → s.grpLive e g.val = true → x.stream = [] →
       x.rest ≠ .drop → Completes (.ioStreamWord d g w) s fun t =>
         (t.grp e g.val).stream = [(w, slotFrom (Moment.max ((s.nowAt e).add 2 (s.tIo e)) x.busy) (s.t0At e)
           (s.beatTime e gw))] ∧ (t.grp e g.val).last = some w ∧ Only [.grps] s t) ∧
     (∀ w, gwMode gw = 1 → (SWord.kind w = 0#2 ∨ SWord.kind w = 1#2) → SWord.isIdle w = false → s.grpLive e g.val =
       false →
       x.rest ≠ .drop → Completes (.ioStreamWord d g w) s fun t =>
         t.reg (iobPage e) (grpOff g.val + 0x18) = counted (s.reg (iobPage e) (grpOff g.val + 0x18)) ∧
         Only [.regs, .grps] s t) ∧
     (∀ v, gwMode gw = 3 → gwStampIn gw = false → x.capDrop = false → x.cap.length < 64 →
       Completes (.ioCaptureWord d g v) s fun t =>
       (t.grp e g.val).cap = x.cap ++ [mkWord (if gwPkt gw ≤ x.capCnt + 1 then 0x20#6 else 0) v] ∧
       (t.grp e g.val).capCnt = (if gwPkt gw ≤ x.capCnt + 1 then 0 else x.capCnt + 1) ∧ Only [.grps] s t) ∧
     (∀ nc t0, Completes (.calRun d true nc t0) s fun t =>
       t.rfld (iobPage e) 0x44 0 9 = nc.toNat ∧ t.rbit (iobPage e) 0x44 31 = true ∧ t.reg (iobPage e) 0x48 = t0 ∧
       RegsBut [regKey (iobPage e) 0x44, regKey (iobPage e) 0x48] s t ∧ Only [.regs, .calT0] s t) ∧
     (∀ nc t0, Completes (.calRun d false nc t0) s fun t =>
       t.rfld (iobPage e) 0x44 24 7 = satAdd 7 (s.rfld (iobPage e) 0x44 24 7) 1 ∧ t.rbit (iobPage e) 0x10 5 = true ∧
       t.reg (iobPage e) 0x48 = s.reg (iobPage e) 0x48 ∧ PagesBut [iobPage e] s t ∧ Only [.regs, .outbox] s t) ∧
     (∀ (c : Fin 9) (p : Fin 64) (v : DWord), p.val < (if c.val = 0 then 64 else 48) →
       let w := v &&& pinMask true
       (s.pinOwned c.val p.val w = false → (w = 0 ∨ pinWordOk c.val p.val w = true) → Completes (.iobPinWrite c p v)
         s fun t =>
         t.pinWord c.val p.val = w ∧ t.pinIsSet c.val p.val = (w != 0) ∧ t.status = 0 ∧ t.rbit (iobPage c.val) 0x0C 6
           = false ∧
         RegsBut [regKey (iobPage c.val) (pinOff p.val), regKey (iobPage c.val) (pinOff p.val + 4),
           regKey (iobPage c.val) 0x0C] s t ∧ Only [.regs, .pinSet, .status, .answer] s t) ∧
       (s.pinOwned c.val p.val w = false → w ≠ 0 → pinWordOk c.val p.val w = false → Completes (.iobPinWrite c p v) s
         fun t =>
         t.status = 8 ∧ Only [.status, .answer] s t) ∧
       (s.pinOwned c.val p.val w = true → Completes (.iobPinWrite c p v) s fun t =>
         t.pinWord c.val p.val = s.pinWord c.val p.val ∧ t.status = 8 ∧ t.rbit (iobPage c.val) 0x0C 6 = true ∧
         t.rbit (iobPage c.val) 0x10 4 = true ∧ PagesBut [iobPage c.val] s t ∧ Only [.regs, .outbox, .status,
           .answer] s t)) ∧
     (∀ w, gwMode w = 0 → Completes (.iobGrpWrite d g w) s fun t =>
       t.grpWord e g.val = w &&& grpMask ∧ t.grp e g.val = Grp.reset ∧ t.status = 0 ∧
       (∀ h, h < 8 → h ≠ g.val → t.grp e h = s.grp e h) ∧ PagesBut [iobPage e] s t ∧
       Only [.regs, .grps, .status, .answer] s t) ∧
     (∀ v : DWord, let w := v &&& grpMask
       gwMode w ≠ 0 → gwMode gw = 0 → s.grpClash e g.val w = false → pwPin w = 0x80 + g.val →
       grpWordOk (s.pinWord e) (s.ioStamps e) w = true → Completes (.iobGrpWrite d g v) s fun t =>
         t.grpWord e g.val = w ∧ t.status = 0 ∧ PagesBut [iobPage e] s t ∧ Only [.regs, .status, .answer] s t) ∧
     (∀ (c : Fin 9) (b : Fin 4), Completes (.vccioLoss c b) s fun t =>
       t.board.vccioBad.getLsbD (c.val * 4 + b.val) = true ∧ PagesBut [iobPage c.val] s t ∧
       Only [.board, .regs, .grps] s t) ∧
     (∀ (c : Fin 9) (b : Fin 4), Completes (.vccioReturn c b) s fun t =>
       t.board.vccioBad.getLsbD (c.val * 4 + b.val) = false ∧
       (∀ i, i < 36 → i ≠ c.val * 4 + b.val → t.board.vccioBad.getLsbD i = s.board.vccioBad.getLsbD i) ∧ Only
         [.board] s t))

/-! Banks (10_memory). -/

/-- A bank's words are all 0. -/
def Sys2Proof.Machine.BankZero (t : State) (b : Nat) : Prop := ∀ i, i < 0x8000 → t.bankWord b i = 0

/-- Every byte outside `n` bytes at `a` reads as before. -/
def Sys2Proof.Machine.BytesBut (a n : Nat) (s t : State) : Prop := ∀ k, k < a ∨ a + n ≤ k → t.readByte k = s.readByte k

/-- The answer to a request at a node: the response leaves at once where the node owes its initiator no earlier one. -/
def Sys2Proof.Machine.Answered (n : Nat) (h : Header) (st : Nat) (data : List Byte) (s t : State) : Prop :=
  isNonPosted h = true → (s.router n).owed = [] → t.outbox = s.outbox ++ [responseTo h n st data] ∧ t.routers =
    s.routers

/-- The bank port (R239, R240): a served READ takes the word at its cycle, POISON when its check fails; a WRITE
stores the word; any other word and any command while the region is not served is counted; read data appear in order;
a corrected word is written back in a free cycle. BE transfers to a bank (R241, R243, R244): in a free cycle the next
word of the oldest transfer is served: a read takes the bytes it names, a write replaces them; the last word ends the
transfer with its response, an uncorrectable read with DATA_ERROR; a transfer or a held request that has waited to
its limit is DENIED. Where it rests on a choice or an inference of the model: log entry 18. -/
def Obligations.BankAccess : Prop :=
  (∀ (s : State) (b : Fin 768) (i : BitVec 15),
     (s.portServes b.val = true → Completes (.bankPortRead b i .clean) s fun t =>
       (t.bank b.val).reads = (s.bank b.val).reads ++ [⟨(s.region (b.val / 6)).cyc,
         mkWord 0 ((s.bankWord b.val i.toNat).extractLsb' 0 32), mkWord 0 ((s.bankWord b.val i.toNat).extractLsb' 32
           32)⟩] ∧
       (∀ c, c ≠ b.val → t.bank c = s.bank c) ∧ Only [.banks] s t) ∧
     (s.portServes b.val = true → Completes (.bankPortRead b i .bad) s fun t =>
       (t.bank b.val).reads = (s.bank b.val).reads ++ [⟨(s.region (b.val / 6)).cyc, poisonWord 2 (pageNode (bankPage
         b.val)) 0,
         poisonWord 2 (pageNode (bankPage b.val)) 0⟩] ∧ t.rbit (bankPage b.val) 0x10 0 = true ∧
       t.rfld (bankPage b.val) 0x4C 16 16 = satAdd 16 (s.rfld (bankPage b.val) 0x4C 16 16) 1 ∧
       PagesBut [bankPage b.val] s t ∧ Only [.regs, .outbox, .banks] s t) ∧
     (∀ w, s.portServes b.val = true → Completes (.bankPortWrite b i w) s fun t =>
       t.bankWord b.val i.toNat = w ∧ BytesBut (wordAddr b.val i.toNat) 8 s t ∧
       (∀ c, c ≠ b.val → t.bank c = s.bank c) ∧ Only [.banks, .mem] s t) ∧
     (∀ w, s.portServes b.val = false → Completes (.bankPortWrite b i w) s fun t =>
       t.reg (bankPage b.val) 0x54 = counted (s.reg (bankPage b.val) 0x54) ∧
       RegsBut [regKey (bankPage b.val) 0x54] s t ∧ Only [.regs] s t) ∧
     (∀ w, SWord.isIdle w = false → s.portServes b.val = true → Completes (.bankPortBadcmd b w) s fun t =>
       t.reg (bankPage b.val) 0x54 = counted (s.reg (bankPage b.val) 0x54) ∧ t.rbit (bankPage b.val) 0x10 3 = true ∧
       PagesBut [bankPage b.val] s t ∧ Only [.regs, .outbox, .banks] s t) ∧
     (∀ r rest, (s.bank b.val).reads = r :: rest → Completes (.bankReadPresent b) s fun t =>
       (t.bank b.val).reads = rest ∧
       tget (fun _ => idleWord) (t.region (b.val / 6)).lanes (s.portLane b.val) = r.lo ∧
       tget (fun _ => idleWord) (t.region (b.val / 6)).lanes (s.portLane b.val + 1) = r.hi ∧ Only [.banks, .regions]
         s t) ∧
     (∀ j w rest, (s.bank b.val).wback = (j, w) :: rest → s.bankFree b.val false = true → Completes (.bankWriteback
       b) s fun t =>
       t.bankWord b.val j = w ∧ BytesBut (wordAddr b.val j) 8 s t ∧
       tget (fun _ => 0) (t.bank b.val).wback j = 0 ∧ Only [.banks, .mem] s t)) ∧
  (∀ (s : State) (b : Fin 768),
     let node := pageNode (bankPage b.val)
     (∀ a rest, (s.bank b.val).access = a :: rest → s.bankFree b.val (s.bankRmw b.val) = true →
       let i := firstWord a.pkt.hdr + a.done
       let part := wordPart a.pkt.hdr a.done
       let read := a.data ++ ((dwordBytes (s.bankWord b.val i)).drop part.1).take part.2
       (a.pkt.hdr.bkind = 3#3 → Completes (.bankBeAccess b .clean) s fun t =>
         (if wordCount a.pkt.hdr ≤ a.done + 1 then (t.bank b.val).access = rest ∧ Answered node a.pkt.hdr 0 read s t
           else (t.bank b.val).access = { a with done := a.done + 1, data := read } :: rest ∧ t.outbox = s.outbox) ∧
         Only [.banks, .outbox, .routers] s t) ∧
       (a.pkt.hdr.bkind = 3#3 → Completes (.bankBeAccess b .bad) s fun t =>
         (t.bank b.val).access = rest ∧ t.rbit (bankPage b.val) 0x10 0 = true ∧
         t.rfld (bankPage b.val) 0x4C 16 16 = satAdd 16 (s.rfld (bankPage b.val) 0x4C 16 16) 1 ∧
         PagesBut [bankPage b.val] s t ∧ Only [.regs, .banks, .outbox, .routers] s t) ∧
       (a.pkt.hdr.bkind = 1#3 ∨ a.pkt.hdr.bkind = 2#3 → Completes (.bankBeAccess b .clean) s fun t =>
         t.bankWord b.val i = patchWord (s.bankWord b.val i) part.1 (((flitBytes a.pkt.payload
           a.pkt.hdr.bytes.toNat).drop
           (a.done * 8 - (if a.done = 0 then 0 else a.pkt.hdr.addr.toNat % 8))).take part.2) ∧
         BytesBut (wordAddr b.val i) 8 s t ∧
         (if wordCount a.pkt.hdr ≤ a.done + 1 then (t.bank b.val).access = rest ∧ Answered node a.pkt.hdr 0 a.data s t
           else (∃ a', (t.bank b.val).access = a' :: rest ∧ a'.pkt = a.pkt ∧ a'.done = a.done + 1) ∧ t.outbox =
             s.outbox) ∧
         Only [.banks, .outbox, .routers, .mem] s t)) ∧
     (∀ a rest, (s.bank b.val).access = a :: rest → Completes (.bankBeWaitLimit b) s fun t =>
       (t.bank b.val).access = rest ∧ Answered node a.pkt.hdr 8 [] s t ∧ Only [.regs, .banks, .outbox, .routers] s t ∧
       (isNonPosted a.pkt.hdr = true → t.regs = s.regs) ∧
       (isNonPosted a.pkt.hdr = false → t.reg (bankPage b.val) 0x50 = counted (s.reg (bankPage b.val) 0x50))) ∧
     (∀ p rest, (s.bank b.val).held = p :: rest → Completes (.heldRequestTimeout b) s fun t =>
       (t.bank b.val).held = rest ∧ Answered node p.hdr 8 [] s t ∧ Only [.regs, .banks, .outbox, .routers] s t ∧
       (isNonPosted p.hdr = true → t.regs = s.regs) ∧
       (isNonPosted p.hdr = false → t.reg (bankPage b.val) 0x50 = counted (s.reg (bankPage b.val) 0x50))))

/-- Owners, power and wipes of a bank (R244 to R246, R249): a write of OWNER starts a handover, or is refused with
its event while one is pending; the handover installs the owner; a power request starts a transition, which ends in
the state asked for, the contents 0 when it comes from or goes to OFF; a wipe leaves 0. Where it rests on a choice or
an inference of the model: log entry 57. -/
def Obligations.BankStates : Prop :=
  ∀ (s : State) (b : Fin 768),
    let p := bankPage b.val
    (∀ w, s.fullLoad = false → s.underTest p = false → s.bankPending b.val = false → s.bankSecure b.val = false →
      s.rbit p 0x30 0 = false →
      fld w 4 4 < 5 → (fld w 4 4 = 1 → s.rgnActive (b.val / 6) = true) → Completes (.bankOwnerWrite b w) s fun t =>
        t.bankPending b.val = true ∧ t.bankKind b.val = s.bankKind b.val ∧ t.status = 0 ∧
        (t.bank b.val).next = some (fld w 4 4, if fld w 4 4 = 2 ∨ fld w 4 4 = 4 then fld w 0 3 else 0) ∧
        RegsBut [regKey p 0x34] s t ∧ Only [.regs, .banks, .status, .answer] s t) ∧
    (∀ w, s.fullLoad = true ∨ s.underTest p = false ∧ s.bankPending b.val = true → Completes (.bankOwnerWrite b w) s
      fun t =>
      t.reg p 0x34 = s.reg p 0x34 ∧ t.status = 8 ∧ t.rbit p 0x10 2 = true ∧ t.banks = s.banks ∧
      PagesBut [p] s t ∧ Only [.regs, .outbox, .status, .answer] s t) ∧
    (∀ kind index, kind < 16 → index < 8 → (s.bank b.val).next = some (kind, index) → (s.bank b.val).reads = [] →
      (s.bank b.val).access = [] → s.rbit p 0x40 16 = false →
      Completes (.ownerDone b) s fun t =>
        t.bankKind b.val = kind ∧ t.bankIndex b.val = index ∧ t.bankPending b.val = false ∧ t.rbit p 0x10 1 = true ∧
        (t.bank b.val).next = none ∧ (t.bank b.val).held = [] ∧ (t.bank b.val).queued = none ∧
        ((s.bank b.val).held = [] → PagesBut [p] s t ∧ Only [.regs, .outbox, .banks] s t)) ∧
    (∀ req, req.toNat < 3 → s.rbit p 0x0C 4 = false → (s.bankSecure b.val = true → req = 0) → s.rbit p 0x40 16 = false →
      s.bankPending b.val = false → s.underTest p = false → s.bankPower b.val ≠ req.toNat →
      Completes (.bankPwrReq b req) s fun t =>
        t.rfld p 0x40 0 2 = req.toNat ∧ t.rbit p 0x40 16 = true ∧ (t.bank b.val).target = some req.toNat ∧ t.status =
          0 ∧
        t.bankPower b.val = s.bankPower b.val ∧ RegsBut [regKey p 0x40] s t ∧ Only [.regs, .banks, .status, .answer]
          s t) ∧
    (∀ req, req.toNat < 3 → s.rbit p 0x0C 4 = false → (s.bankSecure b.val = true → req = 0) →
      s.rbit p 0x40 16 = true ∨ s.bankPending b.val = true ∨ s.underTest p = true → Completes (.bankPwrReq b req) s
        fun t =>
        t.rfld p 0x40 0 2 = req.toNat ∧ (t.bank b.val).queued = some req.toNat ∧ t.bankPower b.val = s.bankPower b.val ∧
        t.status = 0 ∧ RegsBut [regKey p 0x40] s t ∧ Only [.regs, .banks, .status, .answer] s t) ∧
    (∀ q, q < 4 → (s.bank b.val).target = some q → (s.bank b.val).reads = [] → (s.bank b.val).access = [] →
      (s.bank b.val).queued = none → Completes (.bankPwrDone b) s fun t =>
        t.bankPower b.val = q ∧ t.rbit p 0x40 16 = false ∧ (t.bank b.val).target = none ∧
        (if s.bankPower b.val = 2 ∨ q = 2 then BankZero t b.val ∧ BytesBut (bankBase b.val) 0x40000 s t else t.mem =
          s.mem) ∧
        RegsBut [regKey p 0x40] s t ∧ Only [.regs, .banks, .mem] s t) ∧
    ((s.bank b.val).wiping = true → (s.bank b.val).access = [] → (s.bank b.val).reads = [] → s.sec.lcJob = none →
      s.scanActive = false → Completes (.secureWipeDone b) s fun t =>
      BankZero t b.val ∧ BytesBut (bankBase b.val) 0x40000 s t ∧ (t.bank b.val).wiping = false ∧
      t.rfld p 0x48 16 16 = satAdd 16 (s.rfld p 0x48 16 16) 1 ∧ t.rbit p 0x10 4 = true ∧
      PagesBut [p] s t ∧ Only [.regs, .outbox, .banks, .mem] s t)

/-! HBM and DMA (10_memory). -/

/-- HBM stacks (R250, R252 to R254, R501): a restore or a training without a failing channel brings a stack into
service, a failing one out of it; a READ is answered with its bytes, a WRITE stores them; 85 °C starts the doubled
refresh, less ends it; a supply drop takes the stack out of service. Where it rests on a choice or an inference of
the model: log entries 40, 41. -/
def Obligations.HbmStacks : Prop :=
  ∀ (s : State) (k : Fin 4),
    let p := hbmPage k.val
    (∀ (rate : Fin 4) e, s.hbmTraining k.val = true → s.grn.current (hbmRecord k.val) = some e →
      Completes (.hbmRestoreDone k rate 0) s fun t =>
        t.hbmServes k.val = true ∧ t.rfld p 0x40 6 2 = rate.val ∧
        t.reg p 0x54 = s.reg p 0x54 ||| BitVec.ofNat 32 (num (s.entryData e) 4 2) ∧
        RegsBut [regKey p 0x40, regKey p 0x54] s t ∧ Only [.regs] s t) ∧
    (∀ (rate : Fin 4) failing, s.hbmTraining k.val = true → failing ≠ 0 ∨ s.grn.current (hbmRecord k.val) = none →
      Completes (.hbmRestoreDone k rate failing) s fun t =>
        t.rbit p 0x40 4 = true ∧ RegsBut [regKey p 0x40] s t ∧ Only [.regs] s t) ∧
    (s.hbmTraining k.val = false → ∀ (rate : Fin 4) failing repaired, exec (.hbmRestoreDone k rate failing) s = .next
      s ∧
      exec (.hbmTrainDone k rate failing repaired) s = .next s) ∧
    (∀ (rate : Fin 4) failing repaired, s.hbmTraining k.val = true → Completes (.hbmTrainDone k rate failing
      repaired) s fun t =>
      (failing = 0 → t.hbmServes k.val = true ∧ t.rfld p 0x40 6 2 = rate.val ∧ t.outbox = s.outbox) ∧
      (failing ≠ 0 → t.hbmServes k.val = false ∧ t.rbit p 0x10 1 = true) ∧
      t.reg p 0x54 = s.reg p 0x54 ||| repaired.setWidth 32 ∧ PagesBut [p] s t ∧ Only [.regs, .outbox] s t) ∧
    (∀ q (ch : Fin 16), ((tget (fun _ => []) s.hbmReq k.val).find? (fun x => x.hdr.prio.toNat == s.leatPrio)).orElse
        (fun _ => (tget (fun _ => []) s.hbmReq k.val).head?) = some q →
      s.hbmServes k.val = true → (s.router (stackHome k.val)).owed = [] →
      (q.hdr.bkind = 3#3 → Completes (.hbmRequest k .clean ch) s fun t =>
        t.outbox = s.outbox ++ [responseTo q.hdr (stackHome k.val) 0
          (s.readBytes (hbmBase + q.hdr.addr.toNat % 2 ^ 40) q.hdr.bytes.toNat)] ∧
        tget (fun _ => []) t.hbmReq k.val = (tget (fun _ => []) s.hbmReq k.val).erase q ∧ Only [.outbox, .hbmReq] s t) ∧
      (q.hdr.bkind = 2#3 → (inDescTable (q.hdr.addr.toNat % 2 ^ 40) = true → isMillpond q.hdr.srcNode.toNat = true) →
        Completes (.hbmRequest k .clean ch) s fun t =>
          (∀ i, i < q.hdr.bytes.toNat → i < q.payload.length * 32 → t.readByte (hbmBase + q.hdr.addr.toNat % 2 ^ 40 + i)
            = (flitBytes q.payload q.hdr.bytes.toNat).getD i 0) ∧
          BytesBut (hbmBase + q.hdr.addr.toNat % 2 ^ 40) q.hdr.bytes.toNat s t ∧
          t.outbox = s.outbox ++ [responseTo q.hdr (stackHome k.val) 0 []] ∧ Only [.mem, .outbox, .hbmReq] s t)) ∧
    (∀ c : BitVec 8, 85 ≤ c.toInt → Completes (.hotRefresh k c) s fun t =>
      t.rfld p 0x48 0 8 = c.toNat ∧ t.rbit p 0x40 5 = true ∧ t.rbit p 0x10 2 = true ∧ PagesBut [p] s t ∧
      Only [.regs, .outbox] s t) ∧
    (∀ c : BitVec 8, c.toInt < 85 → Completes (.hotRefreshEnd k c) s fun t =>
      t.rfld p 0x48 0 8 = c.toNat ∧ t.rbit p 0x40 5 = false ∧ RegsBut [regKey p 0x40, regKey p 0x48] s t ∧
      Only [.regs] s t) ∧
    (Completes (.hbmVccDrop k) s fun t =>
      t.hbmServes k.val = false ∧ t.rbit p 0x10 1 = true ∧ PagesBut [p] s t ∧ Only [.regs, .outbox] s t)

/-- DMA engines (R255 to R257): GO cuts the request into its segments and reads the first transfers; the answered
READ writes the data on, as WRITE_NP where the engine is so set; the last answer ends the request with its result and
event; STOP with nothing outstanding ends it STOPPED; a transfer without an answer fails its segment. Where it rests
on a choice or an inference of the model: log entry 40. -/
def Obligations.DmaEngines : Prop :=
  ∀ (s : State) (e : Fin 8),
    let ctl := dmaOff e.val 0x118
    let res := dmaOff e.val 0x11C
    (∀ g, s.dmaBusy e.val = false → s.dmaHeld e.val = false →
      s.dmaAddr e.val 0x100 % 4 = 0 → s.dmaAddr e.val 0x108 % 4 = 0 →
      (s.reg dmaPage (dmaOff e.val 0x110)).toNat % 4 = 0 → 0 < (s.reg dmaPage (dmaOff e.val 0x110)).toNat →
      (s.reg dmaPage (dmaOff e.val 0x110)).toNat ≤ 0x1000000 →
      segmentsOf s.intlv4k 65 (s.dmaAddr e.val 0x100) (s.dmaAddr e.val 0x108)
        (s.reg dmaPage (dmaOff e.val 0x110)).toNat = [g] → xferLen g 0 = g.len → Completes (.dmaGo e) s fun t =>
        t.dmaBusy e.val = true ∧ t.dma e.val = { Dma.reset with segs := [g], cur := 1, txn := 1, outs := [⟨0, 0,
          false, g.dst, g.len⟩] } ∧
        t.outbox = s.outbox ++ [requestTo dmaNode (0x30 + e.val) 3 (s.dmaPrio e.val) 0 g.src g.len []] ∧ t.status = 0 ∧
        (∀ f, f ≠ e.val → t.dma f = s.dma f) ∧ RegsBut [regKey dmaPage ctl] s t ∧
        Only [.regs, .outbox, .dmas, .status, .answer] s t) ∧
    (s.dmaBusy e.val = false → s.dmaHeld e.val = false →
      s.dmaAddr e.val 0x100 % 4 = 0 → s.dmaAddr e.val 0x108 % 4 = 0 →
      (s.reg dmaPage (dmaOff e.val 0x110)).toNat % 4 = 0 → 0 < (s.reg dmaPage (dmaOff e.val 0x110)).toNat →
      (s.reg dmaPage (dmaOff e.val 0x110)).toNat ≤ 0x1000000 →
      (segmentsOf s.intlv4k 65 (s.dmaAddr e.val 0x100) (s.dmaAddr e.val 0x108)
        (s.reg dmaPage (dmaOff e.val 0x110)).toNat).length ≤ 64 → Completes (.dmaGo e) s fun t =>
        t.dmaBusy e.val = true ∧ t.status = 0 ∧ (t.dma e.val).outs ≠ [] ∧
        (t.dma e.val).segs = segmentsOf s.intlv4k 65 (s.dmaAddr e.val 0x100) (s.dmaAddr e.val 0x108)
          (s.reg dmaPage (dmaOff e.val 0x110)).toNat ∧
        RegsBut [regKey dmaPage ctl] s t ∧ Only [.regs, .outbox, .dmas, .status, .answer] s t) ∧
    (s.dmaBusy e.val = true ∨ s.dmaHeld e.val = true → Completes (.dmaGo e) s fun t =>
      t.dma e.val = s.dma e.val ∧ t.rbit dmaPage 0x10 1 = true ∧ t.status = 0 ∧ PagesBut [dmaPage] s t ∧
      Only [.regs, .outbox, .status, .answer] s t) ∧
    (s.dmaBusy e.val = true → (s.dma e.val).outs = [] → Completes (.dmaStop e) s fun t =>
      t.dmaBusy e.val = false ∧ t.dma e.val = Dma.reset ∧ t.rfld dmaPage res 0 8 = 3 ∧ t.rbit dmaPage 0x10 0 = true ∧
      t.status = 0 ∧ PagesBut [dmaPage] s t ∧ Only [.regs, .outbox, .dmas, .status, .answer] s t) ∧
    (∀ (txn : BitVec 8) o data, (s.dma e.val).outs = [o] → o.txn = txn.toNat → (s.dma e.val).cur = (s.dma
      e.val).segs.length →
      (o.write = false → s.dmaNp e.val = true → Completes (.dmaTransferResponse e txn 0 data) s fun t =>
        (t.dma e.val).outs = [{ o with write := true }] ∧ Only [.dmas, .outbox] s t ∧
        t.outbox = s.outbox ++ [requestTo dmaNode (0x30 + e.val) 2 (s.dmaPrio e.val) txn.toNat o.dst o.len data]) ∧
      (o.write = true → s.dmaBusy e.val = true → (s.dma e.val).stop = false → (s.dma e.val).failed = [] →
        (s.dma e.val).first = none → Completes (.dmaTransferResponse e txn 0 data) s fun t =>
          t.dma e.val = Dma.reset ∧ t.dmaBusy e.val = false ∧ t.reg dmaPage res = 0 ∧ t.rbit dmaPage 0x10 0 = true ∧
          PagesBut [dmaPage] s t ∧ Only [.regs, .outbox, .dmas] s t) ∧
      (s.dmaBusy e.val = true → (s.dma e.val).stop = false → Completes (.dmaTransferTimeout e txn) s fun t =>
        t.dma e.val = Dma.reset ∧ t.dmaBusy e.val = false ∧ t.rfld dmaPage res 0 8 = 1 ∧ t.rbit dmaPage 0x10 0 = true ∧
        PagesBut [dmaPage] s t ∧ Only [.regs, .outbox, .dmas, .free] s t))

/-! The SEC engine (12_security). -/

/-- SEC is idle and admits the command of a secure task whose block stands at SEC.CMD_ADDR (R289). -/
def Sys2Proof.Machine.SecAdmits (s : State) (op : Nat) (b : CmdBlock) : Prop :=
  b = s.cmdBlock (s.rfld secPage 0x48 0 20) ∧ s.rbit secPage 0x4C 0 = false ∧ s.sec.lcJob = none ∧
  s.cmdRefusal op (cmdStates op) (s.cmdSigned op) true b = none

/-- No secure window is there to be wiped. -/
def Sys2Proof.Machine.NoWipe (s : State) : Prop :=
  ∀ k, k ∈ secureBanks → s.bankSecure k = false ∧ (s.bank k).wiping = false

/-- Step 4 of a life-cycle transition runs (R292): keys and slots are gone, the secure windows are being wiped, the
transition `j` waits, the fuses are as they were. -/
def Sys2Proof.Machine.LcWaits (s t : State) (j : LcJob) : Prop :=
  t.sec.lcJob = some j ∧ t.rbit secPage 0x4C 0 = true ∧ t.sec.keys = none ∧ t.sec.slots = [] ∧ t.sec.nonceOk = false ∧
  (∀ k, k ∈ secureBanks → s.bankSecure k = true → (t.bank k).wiping = true) ∧ t.fuses = s.fuses ∧ t.braked = true ∧
  t.status = 0

/-- A command has ended with a result (R289, R290): the nonce is consumed, CMD_DONE is raised. -/
def Sys2Proof.Machine.SecEnded (t : State) (res : Nat) : Prop :=
  t.rfld secPage 0x4C 8 4 = res ∧ t.rbit secPage 0x4C 0 = false ∧ t.sec.nonceOk = false ∧ t.reg secPage 0x54 = 0 ∧
  t.reg secPage 0x58 = 0 ∧ t.rbit secPage 0x10 2 = true ∧ t.status = 0

/-- Commands of Table 12-5 (R285 to R294): an admitted command that programs fuses programs them, transitions end in
a cold reset, keys are installed in and deleted from their slots, the DIK goes to the block; a reserved opcode gives
BAD_ARG; a writer that is not secure is DENIED. Where it rests on a choice or an inference of the model: log entries
45, 46, 47, 101. -/
def Obligations.SecCommands : Prop :=
  ∀ (s : State) (b : CmdBlock),
    (SecAdmits s 1 b → s.powerFail = false → b.len = 48 → BitVec.ofNat 384 (octets b.operands 0) ≠ 0 → NoWipe s →
      s.fuses.ownerHash 0 &&& ~~~(BitVec.ofNat 384 (octets b.operands 0)) = 0 → Completes (.secTakeOwnership true
        true) s fun t =>
        AfterCapReset { s with fuses := { s.fuses with hash := s.fuses.hash.set 0 (BitVec.ofNat 384 (octets
          b.operands 0)),
                                                       lc := s.fuses.lc ||| 1 } } t 4 false) ∧
    (SecAdmits s 4 b → s.powerFail = false → NoWipe s → Completes (.secToField true true) s fun t =>
      AfterCapReset { s with fuses := { s.fuses with lc := s.fuses.lc ||| 2 } } t 4 false) ∧
    (SecAdmits s 5 b → s.powerFail = false → NoWipe s → Completes (.secToReturn true true) s fun t =>
      AfterCapReset { s with fuses := { s.fuses with lc := s.fuses.lc ||| 4 } } t 4 false) ∧
    (SecAdmits s 6 b → s.powerFail = false → NoWipe s → Completes (.secToVoid true true) s fun t =>
      AfterCapReset { s with fuses := { s.fuses with lc := s.fuses.lc ||| 8 } } t 4 false) ∧
    (∀ ok k, k ∈ secureBanks → s.bankSecure k = true → s.powerFail = false →
      (SecAdmits s 1 b → b.len = 48 → BitVec.ofNat 384 (octets b.operands 0) ≠ 0 →
        Completes (.secTakeOwnership true ok) s fun t => LcWaits s t ⟨1, 0, some (BitVec.ofNat 384 (octets b.operands
          0)), ok⟩) ∧
      (SecAdmits s 4 b → Completes (.secToField true ok) s fun t => LcWaits s t ⟨4, 1, none, ok⟩) ∧
      (SecAdmits s 5 b → Completes (.secToReturn true ok) s fun t => LcWaits s t ⟨5, 2, none, ok⟩) ∧
      (SecAdmits s 6 b → Completes (.secToVoid true ok) s fun t => LcWaits s t ⟨6, 3, none, ok⟩)) ∧
    (∀ (k : Fin 768) j, s.sec.lcJob = some j → j.hash = none → j.fuseOk = true → s.powerFail = false →
      (s.bank k.val).wiping = true → (s.bank k.val).access = [] → (s.bank k.val).reads = [] →
      (∀ i, i ∈ secureBanks → i ≠ k.val → (s.bank i).wiping = false) → Completes (.secureWipeDone k) s fun t =>
        AfterCapReset { s with fuses := { s.fuses with lc := s.fuses.lc ||| BitVec.ofNat 4 (2 ^ j.bit) } } t 4 false) ∧
    (∀ h, SecAdmits s 2 b → s.powerFail = false → b.len = 52 → h = BitVec.ofNat 384 (octets (b.operands.drop 4) 0) →
      h ≠ 0 →
      (b.arg 0 = 1 ∨ b.arg 0 = 2) → s.fuses.ownerHash (b.arg 0) = 0 → Completes (.secAddOwnerKey true true) s fun t =>
        SecEnded t 0 ∧ t.fuses = { s.fuses with hash := s.fuses.hash.setIfInBounds (b.arg 0) h } ∧
        PagesBut [secPage] s t ∧ Only [.regs, .outbox, .sec, .fuses, .status, .answer] s t) ∧
    (SecAdmits s 3 b → s.powerFail = false → b.len = 4 → b.arg 0 < 3 → (s.fuses.ownerUsable (b.arg 0) = true →
      ∃ j, j < 3 ∧ j ≠ b.arg 0 ∧ s.fuses.ownerUsable j = true) → Completes (.secRevokeOwnerKey true true) s fun t =>
        SecEnded t 0 ∧ t.fuses = { s.fuses with revoke := s.fuses.revoke ||| BitVec.ofNat 3 (2 ^ b.arg 0) } ∧
        PagesBut [secPage] s t ∧ Only [.regs, .outbox, .sec, .fuses, .status, .answer] s t) ∧
    (∀ top, SecAdmits s 7 b → s.powerFail = false → b.len = 8 → b.arg 0 < 4 → b.arg 1 ≤ 64 →
      s.fuses.rollbackOf (b.arg 0) ≤ b.arg 1 → (if b.arg 0 = 3 then some 64 else s.ranVersion (b.arg 0)) = some top →
      b.arg 1 ≤ top → Completes (.secAdvanceRollback true true) s fun t =>
        SecEnded t 0 ∧
        (let field := s.fuses.rollback.toList.getD (b.arg 0) 0 ||| thermometer (b.arg 1)
         t.fuses = { s.fuses with rollback := s.fuses.rollback.setIfInBounds (b.arg 0) field }) ∧
        PagesBut [secPage] s t ∧ Only [.regs, .outbox, .sec, .fuses, .status, .answer] s t) ∧
    (∀ c kek key, SecAdmits s 8 b → b.len = 140 → 2 ≤ b.arg 0 → b.arg 0 < 8 → s.sec.keys = some c →
      s.ecdhKey ((b.operands.drop 4).take 96) = some kek →
      Config.keyUnwrap kek (b.operands.drop 100) = some key → Completes (.secInstallKey true) s fun t =>
        SecEnded t 0 ∧ tget (fun _ => []) t.sec.slots (b.arg 0) = key ∧ t.sec.keys = s.sec.keys ∧ t.fuses = s.fuses ∧
        Only [.regs, .mem, .outbox, .sec, .free, .banks, .grn, .resv, .status, .answer] s t) ∧
    (SecAdmits s 9 b → b.len = 4 → 2 ≤ b.arg 0 → b.arg 0 < 8 → Completes (.secDeleteKey true) s fun t =>
      SecEnded t 0 ∧ tget (fun _ => []) t.sec.slots (b.arg 0) = [] ∧ t.sec.keys = s.sec.keys ∧ t.fuses = s.fuses ∧
      Only [.regs, .mem, .outbox, .sec, .free, .banks, .grn, .resv, .status, .answer] s t) ∧
    (∀ l, SecAdmits s 10 b → s.dikBytes = some l → Completes (.secGetDik true) s fun t =>
      SecEnded t 0 ∧ t.readBytes (sramBase + s.rfld secPage 0x48 0 20 + 216) 96 = l ∧
      BytesBut (sramBase + s.rfld secPage 0x48 0 20 + 216) 96 s t ∧ PagesBut [secPage] s t ∧
      Only [.regs, .mem, .outbox, .sec, .resv, .status, .answer] s t) ∧
    (∀ op : BitVec 16, (op = 0 ∨ 11 ≤ op.toNat) → s.rbit secPage 0x4C 0 = false →
      Completes (.secReservedOpcode op true) s fun t =>
        SecEnded t 4 ∧ PagesBut [secPage] s t ∧ Only [.regs, .outbox, .sec, .status, .answer] s t) ∧
    (∀ op : BitVec 16, (op = 0 ∨ 11 ≤ op.toNat) → s.rbit secPage 0x4C 0 = true →
      Completes (.secReservedOpcode op true) s fun t =>
        t.rbit secPage 0x10 3 = true ∧ t.status = 0 ∧ PagesBut [secPage] s t ∧ Only [.regs, .outbox, .status,
          .answer] s t) ∧
    (∀ ok, s.rbit secPage 0x4C 0 = true → s.sec.lcJob = none → Completes (.secToField true ok) s fun t =>
      t.rbit secPage 0x10 3 = true ∧ t.status = 0 ∧ PagesBut [secPage] s t ∧ Only [.regs, .outbox, .status, .answer]
        s t) ∧
    (∀ ok, s.rbit secPage 0x30 0 = true → s.sec.lcJob = none → Completes (.secToField false ok) s fun t =>
      t.status = 8 ∧ Only [.status, .answer] s t)

/-- Nonces, the mesh and the TRNG (R289, R295, R300, R302): each draw is a free value; a nonce expires; a failed TRNG
delivers nothing until it recovers; the tamper log is cleared by the boot ROM before LOCK. Tamper responses and the
debug unlock (R295 to R298, R301, R302): a sensor that trips is logged, and its response is carried out: WIPE
zeroises every key, HALT also stops the regions and brakes the pins; an unlock token that holds opens its level, one
that does not is counted as failed and trips the DEBUG sensor. Where it rests on a choice or an inference of the
model: log entries 6, 48, 49, 50, 51. -/
def Obligations.SecurityEvents : Prop :=
  (∀ s : State,
     (s.trngFailed = false → Completes (.secNonceGen true) s fun t =>
       t.reg secPage 0x54 = Config.freeValue s.free ∧ t.reg secPage 0x58 = Config.freeValue (s.free + 1) ∧
       t.sec.nonceOk = true ∧ t.status = 0 ∧ RegsBut [regKey secPage 0x54, regKey secPage 0x58] s t ∧
       Only [.regs, .sec, .free, .status, .answer] s t) ∧
     (s.trngFailed = true → Completes (.secNonceGen true) s fun t =>
       t.rfld secPage 0x4C 8 4 = 3 ∧ t.status = 0 ∧ RegsBut [regKey secPage 0x4C] s t ∧ Only [.regs, .status,
         .answer] s t) ∧
     (Completes (.secNonceGen false) s fun t => t.status = 8 ∧ Only [.status, .answer] s t) ∧
     (Completes .nonceExpire s fun t =>
       t.sec = { s.sec with nonceOk := false } ∧ t.reg secPage 0x54 = 0 ∧ t.reg secPage 0x58 = 0 ∧
       RegsBut [regKey secPage 0x54, regKey secPage 0x58] s t ∧ Only [.regs, .sec] s t) ∧
     (Completes .meshRefresh s fun t =>
       t.sec = { s.sec with mesh := if s.trngFailed then s.sec.mesh else Config.freeValue s.free } ∧
       t.rbit secPage 0x74 9 = s.trngFailed ∧ RegsBut [regKey secPage 0x74] s t ∧ Only [.regs, .sec, .free] s t) ∧
     (∀ w, fld w 0 5 ≠ 0 → s.rbit secPage 0x30 0 = false → Completes (.tamperLogClear w true) s fun t =>
       t.reg secPage 0x78 = 0 ∧ t.status = 0 ∧ RegsBut [regKey secPage 0x78] s t ∧ Only [.regs, .status, .answer] s t) ∧
     (s.sec.words ≠ 0 → Completes (.trngRead false) s fun t =>
       t.answer = [Config.freeValue s.free] ∧ t.status = 0 ∧ t.sec = { s.sec with words := s.sec.words - 1 } ∧
       RegsBut [regKey secPage 0x80] s t ∧ Only [.regs, .sec, .free, .status, .answer] s t) ∧
     (s.sec.words = 0 → Completes (.trngRead false) s fun t => t.answer = [0] ∧ t.status = 0 ∧ Only [.status,
       .answer] s t) ∧
     (Completes (.trngRead true) s fun t =>
       t.answer = [0] ∧ t.status = 0 ∧ RegsBut [regKey secPage 0x80] s t ∧ Only [.regs, .status, .answer] s t) ∧
     (∀ p, Completes (.trngHealthFail p) s fun t =>
       t.trngFailed = true ∧ t.sec = { s.sec with words := 0 } ∧ t.rbit secPage 0x74 9 = true ∧ t.rbit secPage 0x10 6
         = true ∧
       PagesBut [secPage] s t ∧ Only [.regs, .sec, .outbox] s t) ∧
     (Completes .trngRecover s fun t => t.trngFailed = false ∧ RegsBut [regKey secPage 0x80] s t ∧ Only [.regs] s t)) ∧
  (∀ s : State,
     (∀ (sensors : BitVec 5) (i : Fin 5) under,
       (sensors &&& ~~~(BitVec.ofNat 5 (s.rfld secPage 0x74 0 5))) = BitVec.ofNat 5 (2 ^ i.val) →
       Completes (.tamperTrip sensors under) s fun t =>
         t.rfld secPage 0x74 0 5 = sensors.toNat ∧ t.rbit secPage 0x10 0 = true ∧
         t.rfld secPage 0x78 0 5 = (if s.rfld secPage 0x78 0 5 = 0 then 2 ^ i.val else s.rfld secPage 0x78 0 5) ∧
         t.rfld secPage 0x78 8 2 = s.tamperResponse i.val under ∧
         t.rfld secPage 0x78 16 16 = satAdd 16 (s.rfld secPage 0x78 16 16) 1 ∧
         (s.tamperResponse i.val under = 0 → PagesBut [secPage] s t ∧ Only [.regs, .outbox] s t) ∧
         (1 ≤ s.tamperResponse i.val under → t.sec.keys = none ∧ t.sec.slots = []) ∧
         (s.tamperResponse i.val under = 2 → t.sec.halt = true ∧ t.braked = true ∧ t.capBraked = true)) ∧
     (∀ (level : BitVec 2) ok, (level = 1 ∨ level = 2) → (s.fuses.state = 1 ∨ s.fuses.state = 2) →
       (∀ c, s.sec.failedAt = some c → c + 1600000000 ≤ s.cycle) → s.fuses.unlockLeft ≠ 0 →
       s.cmdRefusal (0x100 + level.toNat) [1, 2] true false (s.cmdBlock (s.rfld secPage 0x88 0 20)) = none →
       Completes (.debugUnlock level true ok) s fun t =>
         t.rfld secPage 0x40 12 2 = level.toNat ∧ t.rbit secPage 0x10 5 = true ∧ t.sec = { s.sec with nonceOk :=
           false } ∧
         t.status = 0 ∧ PagesBut [secPage] s t ∧ Only [.regs, .outbox, .sec, .status, .answer] s t) ∧
     (∀ level : BitVec 2, s.fuses.state = 2 → (∀ c, s.sec.failedAt = some c → c + 1600000000 ≤ s.cycle) → s.powerFail
       = false → s.fuses.unlockLeft ≠ 0 →
       (s.cmdRefusal (0x100 + level.toNat) [1, 2] true false (s.cmdBlock (s.rfld secPage 0x88 0 20))).isSome = true →
       Completes (.debugUnlock level true true) s fun t =>
         t.fuses.unlockFail = s.fuses.unlockFail ||| thermometer (65 - s.fuses.unlockLeft) ∧ t.sec.failedAt = some
           s.cycle ∧
         t.rbit secPage 0x10 4 = true ∧ t.rfld secPage 0x40 12 2 = s.rfld secPage 0x40 12 2))

/-! Configuration (13_configuration) and self-test (19_test_and_debug). -/

/-- A load is in progress that has written nothing and is not the boot ROM's: its end changes only the loader. -/
def Sys2Proof.Machine.QuietLoad (s : State) : Prop :=
  s.cfgBusy = true ∧ s.loader.boot = false ∧ s.loader.direct = [] ∧ s.staged = 0 ∧ s.loader.partialKind = false

/-- A load has failed with a code (R310, Table 13-10): idle, counted, CFG_ERR raised, only the loader changed. -/
def Sys2Proof.Machine.LoadFailed (s t : State) (code : Nat) : Prop :=
  t.cfgBusy = false ∧ t.phase = 0 ∧ t.rfld cfgPage 0x44 0 8 = code ∧ t.rbit cfgPage 0x10 0 = true ∧
  t.reg cfgPage 0x8C = counted (s.reg cfgPage 0x8C) ∧ t.loader.recs = [] ∧ t.loader.hdr = [] ∧ t.loader.tact = none ∧
  PagesBut [cfgPage] s t ∧ Only [.regs, .outbox, .loader, .status, .answer] s t

/-- The source still has `n` bytes of the stream and more: the flash image does not end with them (R310). -/
def Sys2Proof.Machine.MoreThan (s : State) (n : Nat) : Prop :=
  ∀ m, s.loader.limit = some m → (s.reg cfgPage 0x58).toNat + n < m

/-- `n` bytes more have been counted in CFG.BYTES. -/
def Sys2Proof.Machine.BytesTaken (s t : State) (n : Nat) : Prop :=
  t.rfld cfgPage 0x58 0 32 = satAdd 32 (s.rfld cfgPage 0x58 0 32) n

/-- The record commands and their types (Table 13-2). -/
def Sys2Proof.Machine.recordCmds : List (Nat × (BitVec 8 → DWord → List Byte → Instr)) :=
  [(0x01, .recordCell), (0x02, .recordCellInit), (0x03, .recordTile), (0x04, .recordRegion), (0x05, .recordBank),
   (0x06, .recordCog), (0x07, .recordXing), (0x08, .recordQueue), (0x09, .recordMemory), (0x0A, .recordZero),
   (0x0B, .recordPackage), (0x0C, .recordGovernor), (0x0D, .recordSecurity), (0x0E, .recordCore), (0x0F, .recordIob),
   (0x10, .recordRestore), (0x11, .recordCogSwap)]

/-- Staging admits a record (R306 to R309, R322). -/
def Sys2Proof.Machine.RecordFits (s : State) (r : Rec) : Prop :=
  s.cfgBusy = true ∧ s.phase = 2 ∧ s.loader.ended = false ∧ recOk r (s.streamRounds.getD 0) = true ∧
  (r.type = 6 → s.streamRounds.isSome = true) ∧ (∀ q ∈ s.loader.recs, sameTarget q r = false) ∧ s.clockBad r = false ∧
  s.loader.off + 16 + r.data.length + 32 ≤ hLen s.loader.hdr ∧
  (s.loader.partialKind = true → scopeFlaw (hScope s.loader.hdr) r = none) ∧ s.stageStatus r = none ∧
  stageFull s.loader.partialKind (s.loader.recs ++ [r]) = false ∧ MoreThan s (16 + r.data.length)

/-- Records (R306 to R309, R313): one that fits is staged, its bytes counted; one for a region without an error
stages the region; MEMORY and ZERO of a full image outside tile memory take effect at once; others change only the
loader; a reserved type fails the load. MEMORY and ZERO at a register page go there as WRITE packets. The stages of a
load (R305, R308 to R313, R320, R321, R324): GO and the sluice begin one, the header opens staging, END closes it
when every check of the whole image holds, the tag leads to the commit and its T_act, and activation ends the load;
an abort, a timeout and a read error fail it; a chain device passes its bytes on. Where it rests on a choice or an
inference of the model: log entries 7, 54, 55, 56, 57, 60, 61, 102. -/
def Obligations.ConfigurationLoad : Prop :=
  (∀ (s : State) (x : Nat × (BitVec 8 → DWord → List Byte → Instr)) (cond : BitVec 8) (target : DWord) (data : List
    Byte),
     x ∈ recordCmds →
     let r : Rec := ⟨x.1, cond.toNat, target, data⟩
     (∀ g, RecordFits s r → r.plane = some g →
       (s.setLoader { s.loader with recs := s.loader.recs ++ [r] }).recErr r = none →
       Completes (x.2 cond target data) s fun t =>
         t.loader.recs = s.loader.recs ++ [r] ∧ t.loader.text = s.loader.text ++ r.bytes ∧
         t.loader.off = s.loader.off + 16 + data.length ∧ BytesTaken s t (16 + data.length) ∧
         (∀ h, h < 128 → t.staged.getLsbD h = (s.staged.getLsbD h || (h == g && !s.loader.bad.contains g))) ∧
         PagesBut [cfgPage, rgnPage g] s t ∧ Only [.regs, .loader] s t) ∧
     (RecordFits s r → r.plane = none → (x.1 = 9 ∨ x.1 = 10) → s.loader.partialKind = false →
       windowOf r.addr (max r.span 1) = .regs → Completes (x.2 cond target data) s fun t =>
         t.loader.recs = s.loader.recs ++ [r] ∧ t.loader.direct = s.loader.direct ∧
         t.outbox = s.outbox ++ (List.range (r.span / 4)).map (fun i => requestTo 0x44 0x30 2 0 0 (r.addr + 4 * i) 4
           (wordBytes (if x.1 = 10 then 0 else r.word (4 * i)))) ∧
         RegsBut [regKey cfgPage 0x58] s t ∧ Only [.regs, .outbox, .loader] s t) ∧
     (RecordFits s r → r.plane = none → (x.1 = 9 ∨ x.1 = 10) → s.loader.partialKind = false →
       windowOf r.addr (max r.span 1) ≠ .regs → Completes (x.2 cond target data) s fun t =>
         t.loader.recs = s.loader.recs ++ [r] ∧ t.loader.direct = s.loader.direct ++ [(r.addr, r.span)] ∧
         BytesBut r.addr (if x.1 = 10 then r.span else data.length) s t ∧
         (x.1 = 9 → ∀ i, i < data.length → t.readByte (r.addr + i) = data.getD i 0) ∧
         (x.1 = 10 → ∀ i, i < r.span → t.readByte (r.addr + i) = memReset (r.addr + i)) ∧
         RegsBut [regKey cfgPage 0x58] s t ∧ Only [.regs, .mem, .resv, .loader] s t) ∧
     (RecordFits s r → r.plane = none → (x.1 ≠ 9 ∧ x.1 ≠ 10) → Completes (x.2 cond target data) s fun t =>
       t.loader.recs = s.loader.recs ++ [r] ∧ t.loader.text = s.loader.text ++ r.bytes ∧
       t.loader.off = s.loader.off + 16 + data.length ∧ BytesTaken s t (16 + data.length) ∧
       RegsBut [regKey cfgPage 0x58] s t ∧ Only [.regs, .loader] s t) ∧
     (∀ type : BitVec 8, QuietLoad s → s.phase = 2 → s.loader.ended = false → MoreThan s 16 →
       Completes (.recordReserved type target) s fun t => LoadFailed s t 9)) ∧
  (∀ s : State,
     (∀ src : BitVec 2, src.toNat < 2 → s.loader.dead = false → s.cfgBusy = false → Completes (.cfgGo src) s fun t =>
       t.cfgBusy = true ∧ t.phase = 1 ∧ t.loadSource = (if src = 0 then 4 else 1) ∧ t.loader.recs = [] ∧ t.status = 0 ∧
       RegsBut [regKey cfgPage 0x40, regKey cfgPage 0x44, regKey cfgPage 0x58] s t ∧
       Only [.regs, .loader, .status, .answer] s t) ∧
     (s.loader.dead = false → s.cfgBusy = false → Completes (.sluiceWord (mkWord 0x1B#6 0)) s fun t =>
       t.cfgBusy = true ∧ t.phase = 1 ∧ t.loadSource = 3 ∧ t.loader.sluice = true ∧
       RegsBut [regKey cfgPage 0x44, regKey cfgPage 0x58] s t ∧ Only [.regs, .loader] s t) ∧
     (∀ w, (SWord.kind w = 0#2 ∨ SWord.kind w = 1#2) → SWord.isIdle w = false → s.loader.dead = false → s.cfgBusy =
       true →
       s.loader.sluice = true → s.loadSource = 3 →
       (s.phase = 1 → s.loader.buf.length + 4 < 352 → MoreThan s 4 → Completes (.sluiceWord w) s fun t =>
         t.loader = { s.loader with buf := s.loader.buf ++ wordBytes (SWord.data w) } ∧ BytesTaken s t 4 ∧
         RegsBut [regKey cfgPage 0x58] s t ∧ Only [.regs, .loader] s t) ∧
       (s.phase = 1 → s.loader.buf.length + 4 = 352 → MoreThan s 4 → Completes (.sluiceWord w) s fun t =>
         t = (((s.countBytes 4).setLoader { s.loader with buf := [] }).headerIn
           (s.loader.buf ++ wordBytes (SWord.data w))).sourceEnd) ∧
       (s.phase ≤ 3 → exec (.sluiceWord w) s = .next (s.streamBytes (wordBytes (SWord.data w)))) ∧
       (3 < s.phase → Completes (.sluiceWord w) s fun t =>
         t.reg cfgPage 0x90 = counted (s.reg cfgPage 0x90) ∧ RegsBut [regKey cfgPage 0x90] s t ∧ Only [.regs] s t)) ∧
     (∀ h, s.cfgBusy = true → s.phase = 1 → s.headerCheck h = none → MoreThan s h.length →
       Completes (.imageHeader h) s fun t =>
       t.phase = 2 ∧ t.loader.hdr = h ∧ t.loader.off = 352 ∧ t.cfgBusy = true ∧ BytesTaken s t h.length ∧
       (hKind h = 1 → t.mem = s.mem) ∧ Only [.regs, .mem, .banks, .loader] s t) ∧
     (let c := s.countBytes 16
      let u := (c.setLoader { c.loader with ended := true, text := s.loader.text ++ (⟨0x7F, 0, 0, []⟩ : Rec).bytes,
                                            off := s.loader.off + 16 }).setPhase 3
      let sets := if s.loader.partialKind then [] else u.alternates.map (·.2.1)
      s.cfgBusy = true → s.phase = 2 → s.loader.ended = false → s.loader.off + 32 = hLen s.loader.hdr → MoreThan s 16 →
       (s.loader.partialKind = true ∨ s.streamRounds.isSome = true) → u.endErrs = [] →
       (∀ d, d < 9 → u.grpErr s.loader.good d = none ∧ u.pinErr s.loader.good d = none) →
       bindErr (bindings s.loader.good) = none → bankErr s.loader.good = none →
       u.cogEncErr sets (s.streamRounds.getD 1) = none → u.cogBroken sets (s.streamRounds.getD 1) = none →
       Completes (.recordEnd 0) s fun t =>
         t.phase = 3 ∧ t.loader.ended = true ∧ t.loader.recs = s.loader.recs ∧ t.loader.off = s.loader.off + 16 ∧
           BytesTaken s t 16 ∧
         RegsBut [regKey cfgPage 0x44, regKey cfgPage 0x58] s t ∧ Only [.regs, .loader] s t) ∧
     (∀ tag, s.cfgBusy = true → s.phase = 3 → s.loader.ended = true → s.loader.partialKind = false →
       (s.imageKey (hSlot s.loader.hdr) (hEph s.loader.hdr)).isSome = true →
       (∀ m, s.loader.limit = some m → (s.reg cfgPage 0x58).toNat + tag.length ≤ m) →
       Config.imageTag (s.headerKey s.loader.hdr) s.loader.hdr s.loader.text = tag →
       (∀ r ∈ s.loader.recs, s.stageStatus r = none) → Completes (.imageTag tag) s fun t =>
         t.phase = 5 ∧ t.loader.tact = some (actTime s.tbNs) ∧ t.loader.waiting = false ∧
         Only [.regs, .mem, .outbox, .cells, .cellCtl, .slots, .tileCtl, .switch, .regions, .free, .routers,
           .dieCogs, .cogTab, .descs, .lru, .atts, .mirrorOut, .banks, .grps, .pinSet, .resv, .loader, .clearing] s t) ∧
     (s.loader.tact.isSome = true → s.loader.partialKind = false → Completes .loadActivate s fun t =>
       t.cfgBusy = false ∧ t.phase = 0 ∧ t.staged = 0 ∧ t.rbit cfgPage 0x44 31 = true ∧ t.rbit cfgPage 0x10 1 = true ∧
       t.rbit cfgPage 0x10 2 = true ∧ t.loader.recs = [] ∧ t.loader.tact = none ∧
       tget (fun _ => none) t.loader.ran s.loader.kind = some (hVersion s.loader.hdr) ∧ Only [.regs, .mem, .outbox,
         .cells, .regions, .free, .descs, .lru, .atts, .trigs, .banks, .grn, .pinSet, .cores, .resv, .loader] s t) ∧
     (QuietLoad s → s.reg cfgPage 0x40 &&& ~~~3#32 = 0 → Completes .cfgAbort s fun t => LoadFailed s t 0x19 ∧
       t.status = 0) ∧
     (QuietLoad s → s.phase ≤ 3 → Completes .streamTimeout s fun t => LoadFailed s t 0x0C) ∧
     (∀ chain off, QuietLoad s → s.phase ≤ 3 → s.loadSource = (if chain then 2 else 0) →
       Completes (.sourceReadError chain off) s fun t => LoadFailed s t 0x17) ∧
     (∀ b, s.loader.forward = true → s.loader.ownLen ≤ s.loader.chainIn → Completes (.chainByteArrive b) s fun t =>
       t.loader = { s.loader with chainOut := some b, chainIn := s.loader.chainIn + 1 } ∧ Only [.loader] s t) ∧
     (∀ b, (s.loader.forward = false ∨ s.loader.chainIn < s.loader.ownLen) →
       (s.cfgBusy = true → s.loadSource = 2 → s.phase ≤ 3 → (s.reg cfgPage 0x58).toNat = s.loader.chainIn →
         exec (.chainByteArrive b) s = .next (s.streamBytes [b])) ∧
       (s.cfgBusy = false → Completes (.chainByteArrive b) s fun t =>
         t.loader = { s.loader with chainIn := s.loader.chainIn + (if s.loader.chainIn = 0 then 0 else 1) } ∧
         Only [.loader] s t)) ∧
     (∀ b, s.cfgBusy = true → s.loadSource = 2 → s.phase = 1 → s.loader.forward = false →
       (s.reg cfgPage 0x58).toNat = s.loader.chainIn → s.loader.limit = none → s.loader.buf.length + 1 < 352 →
       Completes (.chainByteArrive b) s fun t =>
         t.loader = { s.loader with buf := s.loader.buf ++ [b], chainIn := s.loader.chainIn + 1 } ∧ BytesTaken s t 1 ∧
         RegsBut [regKey cfgPage 0x58] s t ∧ Only [.regs, .loader] s t))

/-- A unit is under test with its engine: its page shows it (R459), and the list of running tests holds it. -/
def Sys2Proof.Machine.TestBegun (s t : State) (u : TestUnit) (online : Bool) (d next : Nat) : Prop :=
  t.bist.running = s.bist.running ++ [(u, online)] ∧ t.nextUnit d = next ∧ t.rbit (unitPage u) 0x0C 5 = true ∧
  t.bist.failed = s.bist.failed ∧ t.bist.fails = s.bist.fails

/-- A unit of each type after its failure (R455). -/
def Sys2Proof.Machine.MarkedFailed (t : State) (u : TestUnit) : Prop :=
  (u.type = 1 → t.rgnState (unitRegion u) = stUnusable ∧ t.usable.getLsbD (unitRegion u) = false ∧
    t.rbit (bistPage u.die) 0x40 u.index = true ∧ t.rbit (unitPage u) 0x0C 4 = true) ∧
  (u.type = 2 → t.rbit (unitPage u) 0x0C 4 = true ∧ t.bankPower (unitBank u) = 2 ∧ BankZero t (unitBank u) ∧
    t.rbit (bistPage u.die) (0x50 + 4 * (u.index / 32)) (u.index % 32) = true) ∧
  (u.type = 3 → t.releasedTo u.die = 0 ∧ t.rbit (rstPage 0) 0x50 (u.die - 1) = true ∧ t.rbit (bistPage u.die) 0x48
    u.index = true) ∧
  (u.type = 4 → t.rbit (bistPage 0) 0x4C u.index = true ∧ t.rbit (unitPage u) 0x0C 4 = true) ∧
  (u.type = 5 ∨ u.type = 6 → t.rbit (bistPage 0) 0x4C (u.type - 1) = true ∧ t.rbit (unitPage u) 0x0C 4 = true) ∧
  (u.type = 7 → t.rbit (bistPage 0) 0x4C 0 = true ∧ t.loader.dead = true)

/-- Self-test (R453 to R458): an engine starts its next boot unit when no other phase's unit runs and the power limit
admits it, and online the next eligible one; a unit that passes is counted, one that fails is counted, marked by its
type and recorded; the end of the boot test sets the usable sails, releases the blocks that did not fail and starts
the choice of an image. Where it rests on a choice or an inference of the model: log entry 84. -/
def Obligations.SelfTest : Prop :=
  ∀ s : State,
    (∀ d : Fin 9, s.bistDone = false → s.sec.halt = false → s.training.done = true → s.hbmReady = true →
      s.engineUsed d.val = true → s.bootDepth ≠ 0 → s.loader.dead = false →
      let b := s.bootBegin
      (∀ u, bootUnit d.val (b.nextUnit d.val) = some u → b.bist.power + testPower u.type ≤ 1600 →
        (d.val ≠ 0 → (∀ x, x ∈ b.bist.running → x.1.die = d.val → x.1.type = u.type) ∧
          (b.bist.running.filter fun x => x.1.die == d.val).length < together u.type) →
        Completes (.bistUnitStart d) s fun t => TestBegun b t u false d.val (b.nextUnit d.val + 1) ∧
          t.rfld (bistPage 0) 0x48 0 2 = b.rfld (bistPage 0) 0x48 0 2 ∧ Only [.regs, .bist] s t) ∧
      ((bootUnit d.val (b.nextUnit d.val) = none ∨
        (∃ u, bootUnit d.val (b.nextUnit d.val) = some u ∧ 1600 < b.bist.power + testPower u.type)) →
        exec (.bistUnitStart d) s = .next b) ∧
      (s.rfld (bistPage 0) 0x48 0 2 ≠ 0 → b = s) ∧
      (s.rfld (bistPage 0) 0x48 0 2 = 0 → b.bist.running = [] ∧ b.bist.began = s.cycle ∧ b.nextUnit d.val = 0 ∧
        b.rfld (bistPage 0) 0x48 0 2 = s.bootDepth)) ∧
    (∀ sail : Fin 8, s.booted = true → s.sec.halt = false → s.rbit (bistPage 0) 0x40 0 = true →
      s.isIsolated (sail.val + 1) = false → (∀ x, x ∈ s.bist.running → x.1.die ≠ sail.val + 1) →
      let pick := ((List.range 112).map fun i => (s.nextUnit (sail.val + 1) + i) % 112).find? fun i =>
        s.eligible (onlineUnit (sail.val + 1) i)
      (∀ i, pick = some i →
        s.bist.power + testPower (onlineUnit (sail.val + 1) i).type ≤ s.rfld (bistPage 0) 0x44 0 12 →
        Completes (.bistOnlineTick sail) s fun t =>
          TestBegun s t (onlineUnit (sail.val + 1) i) true (sail.val + 1) ((i + 1) % 112) ∧
          t.rfld (bistPage 0) 0x48 8 8 = (s.rfld (bistPage 0) 0x48 8 8 + 1) % 256 ∧ Only [.regs, .bist] s t) ∧
      ((pick = none ∨ ∃ i, pick = some i ∧
        s.rfld (bistPage 0) 0x44 0 12 < s.bist.power + testPower (onlineUnit (sail.val + 1) i).type) →
        exec (.bistOnlineTick sail) s = .next s)) ∧
    (∀ (type : Fin 8) (d : Fin 9) (i : Fin 96) (online : Bool),
      let u : TestUnit := ⟨type.val, d.val, i.val⟩
      (s.bist.running.find? (fun x => x.1 == u)) = some (u, online) →
      (Completes (.bistUnitEnd type d i true) s fun t =>
        t.bist = { s.bist with running := s.bist.running.filter fun x => x.1 != u } ∧
        t.reg (bistPage 0) 0x50 = counted (s.reg (bistPage 0) 0x50) ∧ t.rbit (unitPage u) 0x0C 5 = false ∧
        (online = true → t.rfld (bistPage 0) 0x48 8 8 = s.rfld (bistPage 0) 0x48 8 8 - 1) ∧
        Only [.regs, .mem, .cells, .cellCtl, .slots, .tileCtl, .switch, .regions, .cogTab, .banks, .cores, .bist] s t ∧
        (5 ≤ type.val → Only [.regs, .bist] s t)) ∧
      (Completes (.bistUnitEnd type d i false) s fun t =>
        t.bist.running = (s.bist.running.filter fun x => x.1 != u) ∧ t.bist.fails = s.bist.fails + 1 ∧
        t.bist.failed = (if s.bist.failed.contains (unitEntry u) then s.bist.failed else s.bist.failed ++ [unitEntry
          u]) ∧
        t.reg (bistPage 0) 0x50 = counted (s.reg (bistPage 0) 0x50) ∧
        t.reg (bistPage 0) 0x54 = counted (s.reg (bistPage 0) 0x54) ∧ t.rbit (bistPage 0) 0x10 1 = true ∧
        (unitOk u = true → MarkedFailed t u) ∧
        (online = false → type.val = 5 ∨ type.val = 6 →
          PagesBut [bistPage 0, unitPage u, rtrPage (pageNode (unitPage u))] s t ∧ Only [.regs, .outbox, .bist] s t))) ∧
    (∀ (type : Fin 8) (d : Fin 9) (i : Fin 96) pass, (∀ x, x ∈ s.bist.running → x.1 ≠ ⟨type.val, d.val, i.val⟩) →
      exec (.bistUnitEnd type d i pass) s = .next s) ∧
    (s.bistDone = false → s.training.done = true → s.hbmReady = true → s.bist.running = [] → s.loader.dead = false →
      (s.bootDepth ≠ 0 → ∀ d, d < 9 → s.engineUsed d = true → bootUnit d (s.nextUnit d) = none) →
      Completes .bootBistEnd s fun t =>
        t.bistDone = true ∧ t.bist.running = [] ∧ t.bist.nextIdx = [] ∧
        (s.bootDepth = 2 ∨ s.storedFails = [] → (∀ i, i < 8 → t.rbit (pkgPage 0) 0x44 (8 + i) = s.sailUsable (i + 1)) ∧
          (∀ p ∈ bootPages, s.failedBlock p = false → t.rbit p 0x08 0 = true)))
/-! Clocks and power (14_islands_resets_and_power). -/

/-- Health monitors (R423, R424): a second's readings show the worst monitor of the die; a power-on hour counts, and
shows the life used and what remains. Island clocks and telemetry (R330 to R333, R338 to R341): a clock select that
passes R332 is taken and settles, a fixed island's is refused; telemetry is shown and summed over the period, at
whose end P, TJ's and HALT's flags are set; the setpoint lies from 100 W to 450 W; a lost REFCLK is flagged. Where it
rests on a choice or an inference of the model: log entries 64, 65, 66, 85. -/
def Obligations.HealthAndClocks : Prop :=
  (∀ s : State,
     (∀ (d : Fin 9) (v : Vector (BitVec 16) 32) w, (∀ m, m < 32 → readingBad (v.toList.getD m 0) = false) →
       tget (fun _ => 0#32) s.health.bad d.val = 0 → worstOf ((List.range 32).map fun m => (m, v.toList.getD m 0)) =
         some w →
       Completes (.monitorRead d v) s fun t =>
         t.reg hlthPage (0x80 + 4 * d.val) = BitVec.ofNat 32 (w.2.toNat + w.1 * 2 ^ 16 + 32 * 2 ^ 24) ∧
         RegsBut [regKey hlthPage (0x80 + 4 * d.val)] s t ∧ Only [.regs, .health] s t) ∧
     (Completes .lifeHour s fun t =>
       t.reg hlthPage 0x40 = s.reg hlthPage 0x40 + 1 ∧
       t.health.hist = (s.lifeWorst.2 :: s.health.hist).take 1000 ∧
       t.reg hlthPage 0x48 = BitVec.ofNat 32 (remaining ((s.lifeWorst.2 :: s.health.hist).take 1000)) ∧
       t.reg hlthPage 0x44 = BitVec.ofNat 32 (min (s.lifeWorst.2 / 30) 10000 + s.lifeWorst.1 * 2 ^ 16
         + b2n (decide (168 ≤ ((s.lifeWorst.2 :: s.health.hist).take 1000).length)) * 2 ^ 31) ∧
       (s.grn.queue = [] → t.mem = s.mem) ∧ Only [.regs, .mem, .outbox, .free, .banks, .grn, .health, .resv] s t)) ∧
  (∀ (s : State) (d : Fin 9),
     (∀ (i : Fin 22) w, i.val < islandCount d.val → throttleable d.val i.val = true →
       s.clockCause d.val i.val w (if d.val ≠ 0 ∧ i.val < 16 then s.chainLongest (islandRegion d.val i.val) else 0) =
         none →
       s.rbit (clkPage d.val) (islStat i.val) 31 = false → Completes (.clkIslCtrlWrite d i w) s fun t =>
         t.reg (clkPage d.val) (islCtrl i.val) = w &&& islMask ∧ t.rbit (clkPage d.val) (islStat i.val) 31 = true ∧
         t.status = 0 ∧ RegsBut [regKey (clkPage d.val) (islCtrl i.val), regKey (clkPage d.val) (islStat i.val)] s t ∧
         Only [.regs, .status, .answer] s t) ∧
     (∀ (i : Fin 22) w, i.val < islandCount d.val → i.val ≠ 17 → throttleable d.val i.val = false →
       Completes (.clkIslCtrlWrite d i w) s fun t =>
         t.reg (clkPage d.val) (islCtrl i.val) = s.reg (clkPage d.val) (islCtrl i.val) ∧ t.status = 8 ∧
         t.rbit (clkPage d.val) 0x10 1 = true ∧ PagesBut [clkPage d.val] s t ∧ Only [.regs, .outbox, .status,
           .answer] s t) ∧
     (∀ i : Fin 22, s.rbit (clkPage d.val) (islStat i.val) 31 = true → Completes (.clkChangeDone d i) s fun t =>
       t.rbit (clkPage d.val) (islStat i.val) 31 = false ∧
       t.rfld (clkPage d.val) (islStat i.val) 0 3 = s.rfld (clkPage d.val) (islCtrl i.val) 0 3 ∧
       t.rfld (clkPage d.val) (islStat i.val) 8 6 = divEff (s.reg (clkPage d.val) (islCtrl i.val))
         (s.rfld (clkPage d.val) (islStat i.val) 16 6) % 64 ∧
       RegsBut [regKey (clkPage d.val) (islStat i.val)] s t ∧ Only [.regs] s t) ∧
     (Completes (.refLost d) s fun t =>
       t.rbit (clkPage d.val) 0x40 0 = false ∧ t.rbit (clkPage d.val) 0x10 2 = true ∧ PagesBut [clkPage d.val] s t ∧
       Only [.regs, .outbox] s t) ∧
     (∀ power temp, Completes (.telemetryMsg d power temp) s fun t =>
       t.reg (pwrPage 0) (0x60 + 4 * d.val) = BitVec.ofNat 32 (power.toNat + temp.toNat * 2 ^ 16) ∧
       (d.val ≠ 0 → t.reg (pwrPage d.val) 0x40 = BitVec.ofNat 32 (power.toNat + temp.toNat * 2 ^ 16)) ∧
       tget (fun _ => (0, 0)) t.power.acc d.val = ((tget (fun _ => (0, 0)) s.power.acc d.val).1 + power.toNat,
         (tget (fun _ => (0, 0)) s.power.acc d.val).2 + 1) ∧ PagesBut [pwrPage 0, pwrPage d.val] s t ∧
       Only [.regs, .power] s t) ∧
     (Completes (.telemLost d) s fun t =>
       t.rfld (pwrPage 0) (0x60 + 4 * d.val) 0 16 = allOn d.val ∧ t.rbit (pwrPage 0) (0x60 + 4 * d.val) 24 = true ∧
       t.rbit (pwrPage 0) 0x10 4 = true ∧ PagesBut [pwrPage 0, pwrPage d.val] s t ∧ Only [.regs, .outbox, .power] s t) ∧
     (Completes .controlPeriod s fun t =>
       t.rfld (pwrPage 0) 0x44 0 16 = s.packagePower % 2 ^ 16 ∧ t.rbit (pwrPage 0) 0x44 18 = s.halted ∧
       t.rbit (pwrPage 0) 0x44 17
         = decide ((s.rfld (pwrPage 0) 0x48 0 8 : Int) ≤ (BitVec.ofNat 8 (s.rfld (pwrPage 0) 0x48 8 8)).toInt) ∧
       t.power.acc = [] ∧ (s.packagePower ≤ 10 * s.rfld (pwrPage 0) 0x40 0 9 → t.power.overrun = 0 ∧
         t.rbit (pwrPage 0) 0x44 16 = false) ∧ t.reg (pwrPage 0) 0x40 = s.reg (pwrPage 0) 0x40 ∧
       Only [.regs, .outbox, .power] s t) ∧
     (∀ w, 100 ≤ fld w 0 9 → fld w 0 9 ≤ 450 → Completes (.pwrSetpointWrite w) s fun t =>
       t.reg (pwrPage 0) 0x40 = BitVec.ofNat 32 (fld w 0 9) ∧ t.status = 0 ∧ RegsBut [regKey (pwrPage 0) 0x40] s t ∧
       Only [.regs, .status, .answer] s t) ∧
     (∀ w, (fld w 0 9 < 100 ∨ 450 < fld w 0 9) → Completes (.pwrSetpointWrite w) s fun t =>
       t.reg (pwrPage 0) 0x40 = s.reg (pwrPage 0) 0x40 ∧ t.status = 8 ∧ t.rbit (pwrPage 0) 0x10 3 = true ∧
       PagesBut [pwrPage 0] s t ∧ Only [.regs, .outbox, .status, .answer] s t))

/-- A request for a domain is refused with a result and an event, and nothing else comes of it (R344). -/
def Sys2Proof.Machine.DomRefused (s t : State) (res : Nat) : Prop :=
  t.rfld (pwrPage 0) 0x54 0 4 = res ∧ t.rbit (pwrPage 0) 0x10 3 = true ∧ t.status = 0 ∧ PagesBut [pwrPage 0] s t ∧
  Only [.regs, .outbox, .status, .answer] s t

/-- Power domains (R342 to R344): a request for a region or a cap domain is taken and shown BUSY, one for a bank goes
to its own power register; one that names no domain is refused INVALID, one while another runs BUSY, one at an
isolated die ISOLATED; a SLEEP drains its gate ASLEEP and then turns the domain OFF, a WAKE turns it on; PWR_DONE is
raised. Where it rests on a choice or an inference of the model: log entry 68. -/
def Obligations.PowerDomains : Prop :=
  ∀ s : State,
    let p := pwrPage 0
    (∀ (die : Fin 9) (kind : Fin 5) (index : BitVec 7), domExists die.val kind.val index.toNat = true → kind.val ≠ 1 →
      s.isIsolated die.val = false → s.rbit p 0x54 31 = false →
      let r := 16 * (die.val - 1) + index.toNat
      (kind.val = 0 → s.rgnState r ≠ stUnusable) →
      (Completes (.pwrWake die kind index) s fun t =>
        t.rbit p 0x54 31 = true ∧ t.rfld p 0x54 0 4 = 0 ∧ t.status = 0 ∧
        t.power = { s.power with req := some ⟨0, die.val, kind.val, index.toNat, false⟩ } ∧
        RegsBut [regKey p 0x50, regKey p 0x54] s t ∧ Only [.regs, .power, .status, .answer] s t) ∧
      (∀ force, s.domTested die.val kind.val index.toNat = false → (kind.val = 0 → s.rgnState r ≠ stLoading ∧
          s.staged.getLsbD r = false ∧ s.loaderHolds r = false ∧ (force = true ∨ s.gsReserved (regionNode r) = false)) →
        Completes (.pwrSleep die kind index force) s fun t =>
          t.rbit p 0x54 31 = true ∧ t.rfld p 0x54 0 4 = 0 ∧ t.status = 0 ∧
          t.power = { s.power with req := some ⟨1, die.val, kind.val, index.toNat, false⟩ } ∧
          (kind.val = 0 → s.rgnState r ≠ stOff → t.closeBit (regionNode r) = true ∧ t.gate (regionNode r) ≠ gateOpen) ∧
          Only [.regs, .outbox, .status, .answer, .banks, .power] s t)) ∧
    (∀ (die : Fin 9) (index : BitVec 7), let b := 96 * (die.val - 1) + index.toNat
      1 ≤ die.val → index.toNat < 96 → s.isIsolated die.val = false → s.rbit (bankPage b) 0x0C 4 = false →
      s.rbit (bankPage b) 0x40 16 = false → s.bankPending b = false → s.underTest (bankPage b) = false →
      let taken := fun (q : Nat) (t : State) =>
        t.rfld p 0x54 0 4 = 0 ∧ t.rbit (bankPage b) 0x40 16 = true ∧ (t.bank b).target = some q ∧ t.status = 0 ∧
        RegsBut [regKey p 0x50, regKey p 0x54, regKey (bankPage b) 0x40] s t ∧
        Only [.regs, .banks, .status, .answer] s t
      (s.bankSecure b = false → s.bankPower b ≠ 1 → Completes (.pwrRetain die 1 index) s (taken 1)) ∧
      (s.bankSecure b = false → s.bankPower b ≠ 2 → s.rbit p 0x54 31 = false →
        ∀ force, Completes (.pwrSleep die 1 index force) s (taken 2)) ∧
      (s.bankPower b ≠ 0 → s.rbit p 0x54 31 = false → Completes (.pwrWake die 1 index) s (taken 0)) ∧
      (s.bankSecure b = true → Completes (.pwrRetain die 1 index) s fun t => DomRefused s t 4)) ∧
    (∀ (op : BitVec 2) (die kind : BitVec 4) (index : BitVec 7), (op = 3 ∨ 5 ≤ kind.toNat) →
      Completes (.pwrInvalid op die kind index) s fun t =>
        DomRefused s t (if op.toNat ≤ 1 ∧ s.rbit p 0x54 31 = true then 2 else 5)) ∧
    (∀ (die : Fin 9) (kind : Fin 5) (index : BitVec 7) force,
      (s.rbit p 0x54 31 = true → (Completes (.pwrWake die kind index) s fun t => DomRefused s t 2) ∧
        Completes (.pwrSleep die kind index force) s fun t => DomRefused s t 2) ∧
      (s.rbit p 0x54 31 = false → domExists die.val kind.val index.toNat = false →
        (Completes (.pwrWake die kind index) s fun t => DomRefused s t 5) ∧
        Completes (.pwrSleep die kind index force) s fun t => DomRefused s t 5) ∧
      (s.rbit p 0x54 31 = false → domExists die.val kind.val index.toNat = true → s.isIsolated die.val = true →
        (Completes (.pwrWake die kind index) s fun t => DomRefused s t 6) ∧
        Completes (.pwrSleep die kind index force) s fun t => DomRefused s t 6)) ∧
    (∀ q, s.power.req = some q → q.op = 1 → q.asleep = false → Completes .sleepDrainEnd s fun t =>
      let r := 16 * (q.die - 1) + q.index
      t.power = { s.power with req := some { q with asleep := true } } ∧
      (q.kind = 0 → 1 ≤ q.die → q.die ≤ 8 → q.index < 16 → t.gate (regionNode r) = gateAsleep ∧
        t.rgnState r = if s.rgnState r = stOff then stOff else if s.rgnState r = stUnusable then stUnusable else
          stCleared) ∧
      (q.kind = 3 → t.gate 0x76 = gateAsleep) ∧ (q.kind = 2 → s.coreRun q.index = 1 → t.coreRun q.index = 0) ∧
      Only [.regs, .mem, .outbox, .cells, .cellCtl, .slots, .tileCtl, .switch, .regions, .routers, .descs, .lru,
        .atts, .mirrorOut, .power, .grps, .pinSet, .loader, .clearing] s t) ∧
    ((∀ q, s.power.req = some q → q.op ≠ 1 ∨ q.asleep = true) → exec .sleepDrainEnd s = .next s) ∧
    (∀ q, s.power.req = some q → q.op = 1 → q.asleep = true → q.kind = 0 → Completes .pwrDone s fun t =>
      t.rgnState (16 * (q.die - 1) + q.index)
        = (if s.rgnState (16 * (q.die - 1) + q.index) = stUnusable then stUnusable else stOff) ∧
      t.power.req = none ∧ t.rbit p 0x54 31 = false ∧
      t.rbit p 0x10 2 = true ∧ PagesBut [p, rgnPage (16 * (q.die - 1) + q.index)] s t ∧ Only [.regs, .outbox, .power]
        s t) ∧
    (∀ q, s.power.req = some q → q.op = 0 → q.kind = 0 → Completes .pwrDone s fun t =>
      let r := 16 * (q.die - 1) + q.index
      t.rgnState r = (if s.rgnState r = stOff then stCleared else s.rgnState r) ∧
      (s.rgnState r = stOff → t.gate (regionNode r) ≠ gateAsleep) ∧
      t.power.req = none ∧ t.rbit p 0x54 31 = false ∧ t.rbit p 0x10 2 = true ∧
      PagesBut [p, rgnPage r, rtrPage (regionNode r)] s t ∧ Only [.regs, .outbox, .dmas, .power, .cores, .resv,
        .trace] s t) ∧
    (∀ q, s.power.req = some q → q.op = 1 → q.asleep = true → q.kind = 2 → 1 ≤ q.index → q.index ≤ 3 →
      Completes .pwrDone s fun t =>
        t.power.off.getLsbD q.index = true ∧ t.core q.index = Core.reset ∧ t.power.req = none ∧
        t.rbit p 0x54 31 = false ∧ t.rbit p 0x10 2 = true ∧ PagesBut [p, glcPage q.index, tskPage q.index] s t ∧
        Only [.regs, .outbox, .power, .cores, .resv] s t) ∧
    (∀ q, s.power.req = some q → (q.op = 0 ∨ q.op = 1 ∧ q.asleep = true) → 2 ≤ q.kind → q.kind ≤ 4 →
      (q.kind = 2 → 1 ≤ q.index ∧ q.index ≤ 3) → Completes .pwrDone s fun t =>
        t.power.off.getLsbD (offBit q.kind q.index) = decide (q.op = 1) ∧ t.power.req = none ∧
        t.rbit p 0x54 31 = false ∧ t.rbit p 0x10 2 = true ∧
        (q.kind = 3 → (q.op = 1 ∨ s.power.off.getLsbD 4 = true) → t.dmas = []) ∧
        (q.kind = 4 → (q.op = 1 ∨ s.power.off.getLsbD 5 = true) → t.trace = [] ∧ t.reg ⟨.trc, 0⟩ 0x34 = 0) ∧
        Only [.regs, .outbox, .dmas, .power, .cores, .resv, .trace] s t)
/-! The twin pair (15_twin). -/

/-- What the header of a message taken acknowledges is done with (R357). -/
def Sys2Proof.Machine.State.acked (s : State) (h : FtHead) : State :=
  match h.ack with
  | some a => s.ftAck a
  | none => s

/-- A fantail message that is taken: the link is up, its CRC holds; a reliable one comes in order. -/
def Sys2Proof.Machine.FtGood (s : State) (h : FtHead) (reliable : Bool) : Prop :=
  s.ftUp = true ∧ h.crcOk = true ∧
  (reliable = true → h.seq = (match s.twin.rxSeq with | some q => q + 1 | none => 1#16))

/-- Roles and ownership (R351 to R354, R359, R360, R367 to R374): ENABLE, HELLO's absence, training, the ownership
wires, the fence, takeovers and switches, and the actions of TWN.CTRL each move ROLE, OWN and the link as Tables 15-4
to 15-6 say; they touch only the TWN page and block, and a failure brakes the pins too. Fantail messages (R355 to
R358, R361 to R366, R370, R372): HELLO, BEAT and POSCHK go out while the link is up; each message taken has the
effect of its TYPE, one whose CRC fails is only counted; the unacknowledged messages are resent; silence takes the
link DOWN; a span closes with its digest and a digest that does not come is a mismatch. Where it rests on a choice or
an inference of the model: log entries 69, 71, 72, 73. -/
def Obligations.Fantail : Prop :=
  (∀ s : State,
     (s.rbit twnPage 0x40 0 = false → s.role = roOff → Completes (.twnEnable true) s fun t =>
       t.rbit twnPage 0x40 0 = true ∧ t.ftLink = 1 ∧ t.twin = { s.twin with awaiting := true, peer := none } ∧
         t.status = 0 ∧
       RegsBut [regKey twnPage 0x40, regKey twnPage 0x44] s t ∧ Only [.regs, .twin, .status, .answer] s t) ∧
     (s.rbit twnPage 0x40 0 = true → s.role ≠ roFailed → Completes (.twnEnable false) s fun t =>
       t.rbit twnPage 0x40 0 = false ∧ t.role = roOff ∧ t.own = false ∧ t.ftLink = 0 ∧ t.twin.unacked = [] ∧ t.status
         = 0 ∧
       RegsBut [regKey twnPage 0x40, regKey twnPage 0x44] s t ∧ Only [.regs, .twin, .status, .answer] s t) ∧
     (s.twin.awaiting = true → s.role = roOff → Completes .helloTimeout s fun t =>
       t.role = roOwner ∧ t.twin.raising = true ∧ t.twin.awaiting = false ∧ RegsBut [regKey twnPage 0x44] s t ∧
       Only [.regs, .twin] s t) ∧
     (s.rbit twnPage 0x40 0 = true → s.ftUp = false → Completes (.fantailTrainDone 15) s fun t =>
       t.ftLink = 2 ∧ t.rbit twnPage 0x10 7 = true ∧ t.twin = s.twin ∧ PagesBut [twnPage] s t ∧ Only [.regs, .outbox]
         s t) ∧
     (s.rbit twnPage 0x40 0 = true → s.ftUp = false → s.rbit twnPage 0x40 6 = true → Completes (.fantailTrainDone 3)
       s fun t =>
       t.ftLink = 3 ∧ t.rbit twnPage 0x10 7 = true ∧ t.twin = s.twin ∧ PagesBut [twnPage] s t ∧ Only [.regs, .outbox]
         s t) ∧
     (∀ locked, s.rbit twnPage 0x40 0 = true → s.ftUp = false → locked ≠ 15#4 →
       (locked ≠ 3#4 ∨ s.rbit twnPage 0x40 6 = false) → Completes (.fantailTrainDone locked) s fun t =>
         t.ftLink = 0 ∧ t.rbit twnPage 0x10 6 = true ∧ t.twin.unacked = [] ∧ PagesBut [twnPage] s t ∧
         Only [.regs, .outbox, .twin] s t) ∧
     (Completes .peerOwnRise s fun t => t.peerOwn = true ∧ RegsBut [regKey twnPage 0x44] s t ∧ Only [.regs] s t) ∧
     (s.role = roStandby → s.twin.taking = none → s.switching = false → Completes .peerOwnFall s fun t =>
       t.peerOwn = false ∧ t.twin.taking = some (s.tbNs, false) ∧ t.rbit twnPage 0x44 10 = true ∧ t.role = roStandby ∧
       RegsBut [regKey twnPage 0x44, regKey twnPage 0x64, regKey twnPage 0x68] s t ∧ Only [.regs, .twin] s t) ∧
     (s.role = roStandby → s.twin.taking = none → s.switching = true → 0 ≤ posDiff s.twnPos s.twin.switchAt →
       Completes .peerOwnFall s fun t =>
         t.peerOwn = false ∧ t.twin.taking = some (s.tbNs, true) ∧ t.rbit twnPage 0x44 10 = s.rbit twnPage 0x44 10 ∧
         RegsBut [regKey twnPage 0x44, regKey twnPage 0x64, regKey twnPage 0x68] s t ∧ Only [.regs, .twin] s t) ∧
     (s.role ≠ roStandby → Completes .peerOwnFall s fun t =>
       t.peerOwn = false ∧ RegsBut [regKey twnPage 0x44] s t ∧ Only [.regs] s t) ∧
     (s.peerOwn = false → s.twin.taking = none → s.twin.raising = true → s.role = roOwner → Completes .ownRaise s fun
       t =>
       t.own = true ∧ t.twin = { s.twin with raising := false } ∧ RegsBut [regKey twnPage 0x44] s t ∧ Only [.regs,
         .twin] s t) ∧
     (∀ at_ planned, s.peerOwn = false → s.twin.taking = some (at_, planned) → Completes .ownRaise s fun t =>
       t.own = true ∧ t.role = roOwner ∧ t.twin.taking = none ∧ t.switching = false ∧ t.rbit twnPage 0x10 0 = true ∧
       (planned = true → t.rbit twnPage 0x10 3 = true) ∧ t.reg twnPage 0xA8 = counted (s.reg twnPage 0xA8) ∧ PagesBut
         [twnPage] s t ∧ Only [.regs, .outbox, .twin] s t) ∧
     (s.role ≠ roFailed → Completes .fenceInHigh s fun t =>
       t.rbit twnPage 0x44 9 = true ∧ t.role = roFailed ∧ t.own = false ∧ t.braked = true ∧ t.capBraked = true ∧
       t.twin.taking = none ∧ t.rbit twnPage 0x10 2 = true ∧ Only [.regs, .outbox, .grps, .braked, .capBraked, .twin]
         s t) ∧
     (s.role = roFailed → Completes .fenceInHigh s fun t =>
       t.rbit twnPage 0x44 9 = true ∧ t.rbit twnPage 0x10 2 = true ∧ t.role = roFailed ∧ PagesBut [twnPage] s t ∧
       Only [.regs, .outbox] s t) ∧
     (s.twin.taking = none ∨ s.peerOwn = false → exec .takeoverBlocked s = .next s) ∧
     (s.twin.taking.isSome = true → s.peerOwn = true → Completes .takeoverBlocked s fun t =>
       t.twin = { s.twin with taking := none } ∧ t.rbit twnPage 0x10 1 = true ∧ t.role = s.role ∧ PagesBut [twnPage]
         s t ∧
       Only [.regs, .outbox, .twin] s t) ∧
     (s.role = roOwner → s.rbit twnPage 0x5C 0 = false → s.ftUp = true → s.twin.unacked.length < 256 →
       Completes .twnSwitchGo s fun t =>
         t.rbit twnPage 0x5C 0 = true ∧ (∃ m, t.twin.unacked = s.twin.unacked ++ [m] ∧ m.type = 9 ∧ m.seq =
           s.twin.nextSeq) ∧
         t.status = 0 ∧ RegsBut [regKey twnPage 0x5C] s t ∧ Only [.regs, .twin, .status, .answer] s t) ∧
     (s.rbit twnPage 0x5C 0 = true → s.switching = false → Completes .switchAckTimeout s fun t =>
       t.rbit twnPage 0x5C 0 = false ∧ t.rbit twnPage 0x10 12 = true ∧ PagesBut [twnPage] s t ∧ Only [.regs, .outbox]
         s t) ∧
     (s.role = roOwner → s.switching = true → 0 ≤ posDiff s.twnPos ((s.reg64 twnPage 0x54).extractLsb' 0 56) →
       (s.grps.any fun e => e.2.pkts.any fun q => q.first.isSome) = false → Completes .switchHandover s fun t =>
         t.role = roStandby ∧ t.own = false ∧ t.switching = false ∧ t.rbit twnPage 0x10 3 = true ∧
         t.reg twnPage 0xA8 = counted (s.reg twnPage 0xA8) ∧ PagesBut [twnPage] s t ∧ Only [.regs, .outbox, .twin] s
           t) ∧
     (s.role = roDetached → Completes .twnJoin s fun t =>
       t.role = roJoining ∧ t.twin.step = 1 ∧ t.status = 0 ∧ RegsBut [regKey twnPage 0x44] s t ∧
       Only [.regs, .twin, .status, .answer] s t) ∧
     ((s.role = roStandby ∨ s.role = roJoining) → Completes .twnDetach s fun t =>
       t.role = roDetached ∧ t.twin.step = 0 ∧ t.twin.taking = none ∧ t.status = 0 ∧ RegsBut [regKey twnPage 0x44] s t ∧
       Only [.regs, .twin, .status, .answer] s t) ∧
     (Completes .twnUnfence s fun t =>
       t.rbit twnPage 0x44 10 = false ∧ t.status = 0 ∧ RegsBut [regKey twnPage 0x44] s t ∧
       Only [.regs, .status, .answer] s t) ∧
     (s.role ≠ roFailed → Completes .twnFail s fun t =>
       t.role = roFailed ∧ t.own = false ∧ t.braked = true ∧ t.capBraked = true ∧ t.status = 0 ∧
       Only [.regs, .grps, .braked, .capBraked, .twin, .status, .answer] s t) ∧
     (s.role = roJoining → s.twin.step ≠ 6 → Completes .joinStepTimeout s fun t =>
       t.role = roDetached ∧ t.twin.step = 0 ∧ t.rbit twnPage 0x10 9 = true ∧ PagesBut [twnPage] s t ∧
       Only [.regs, .outbox, .twin] s t)) ∧
  (∀ (s : State) (h : FtHead),
     (s.role ≠ roFailed → s.ftUp = true → Completes .ftHelloSend s fun t => ∃ m, m.type = 1 ∧ m.ack = s.twin.rxSeq ∧
       t.twin = { s.twin with sent := some m } ∧ Only [.twin] s t) ∧
     (s.ftUp = true → Completes .ftBeatSend s fun t => ∃ m, m.type = 2 ∧ m.ts = BitVec.ofNat 64 s.tbNs ∧
       t.twin = { s.twin with sent := some m } ∧ Only [.twin] s t) ∧
     (s.ftUp = true → Completes .ftPoschkSend s fun t => ∃ m, m.type = 3 ∧
       t.twin = { s.twin with sent := some m } ∧ Only [.twin] s t) ∧
     (∀ id (role : Fin 6) mode axis span hash, FtGood s h false → s.role = roStandby →
       Completes (.ftHelloRx h id role mode axis span hash) s fun t =>
         t.twin = { (s.acked h).twin with peer := some (id, role.val, mode.toNat, axis.toNat, span.toNat) } ∧
         t.rbit twnPage 0x44 6 = true ∧ t.reg64 twnPage 0x80 = hash ∧
         RegsBut [regKey twnPage 0x44, regKey twnPage 0x80, regKey twnPage 0x84] s t ∧ Only [.regs, .twin] s t) ∧
     (∀ ts at_, FtGood s h false → Completes (.ftBeatRx h ts at_) s fun t =>
       t.twin.beat = some (h.ts.toNat, s.tbNs) ∧ t.rbit twnPage 0x44 6 = true ∧
       RegsBut [regKey twnPage 0x44, regKey twnPage 0x60] s t ∧ Only [.regs, .twin] s t) ∧
     (∀ ts at_, s.ftUp = true → h.crcOk = false → Completes (.ftBeatRx h ts at_) s fun t =>
       t.reg twnPage 0x98 = counted (s.reg twnPage 0x98) ∧ RegsBut [regKey twnPage 0x98] s t ∧ Only [.regs] s t) ∧
     (∀ ts at_ a, FtGood s h false → h.ack = some a → Completes (.ftBeatRx h ts at_) s fun t =>
       let left := s.twin.unacked.filter fun m => decide (0 < (m.seq - a).toInt)
       t.twin.unacked = (left ++ s.twin.waiting).take 256 ∧ t.twin.waiting = (left ++ s.twin.waiting).drop 256) ∧
     (∀ a0 a1 a2 a3, FtGood s h false → (s.role = roOwner ∨ s.role = roStandby) →
       let x := [a0, a1, a2, a3].getD s.twnAxis a0
       let gap := s.posGap s.twnAxis x
       let limit := s.rfld twnPage 0x4C 0 16 * 256
       (gap ≤ limit → Completes (.ftPoschkRx h a0 a1 a2 a3) s fun t =>
         t.twin = { (s.acked h).twin with differ := 0 } ∧ Only [.twin] s t) ∧
       (limit < gap → s.twin.differ = 0 → Completes (.ftPoschkRx h a0 a1 a2 a3) s fun t =>
         t.twin = { (s.acked h).twin with differ := 1 } ∧ Only [.twin] s t) ∧
       (limit < gap → s.twin.differ ≠ 0 → (s.role = roOwner → s.axState s.twnAxis = 2) → Completes (.ftPoschkRx h a0
         a1 a2 a3) s fun t =>
         t.twin.differ = 0 ∧ t.rbit twnPage 0x10 5 = true ∧ t.reg twnPage 0x94 = counted (s.reg twnPage 0x94) ∧
         t.role = (if s.role = roStandby ∧ x.state = 2#2 then roDetached else s.role) ∧
         PagesBut [twnPage] s t ∧ Only [.regs, .outbox, .twin] s t)) ∧
     (∀ span digest pkts, FtGood s h false → s.role = roStandby →
       tget (fun _ => none) s.twin.closed span.toNat = some digest → Completes (.ftDigestRx h span digest pkts) s fun
         t =>
         t.reg twnPage 0x88 = span ∧ tget (fun _ => none) t.twin.closed span.toNat = none ∧
         RegsBut [regKey twnPage 0x88] s t ∧ Only [.regs, .twin] s t) ∧
     (∀ (q : Word) w k, FtGood s h true → s.role = roStandby → q.getLsbD 31 = false →
       s.queueAtt (q.toNat % 2 ^ 20) = some k → isSvc k = false → DirectQueue s k → TakesWord s k w →
       Completes (.ftMirqRx h q [w]) s fun t =>
         (t.att k).window = (s.att k).window ++ [w] ∧ t.twin = { (s.acked h).twin with rxSeq := some h.seq } ∧
         (∀ j, j ≠ k → t.att j = s.att j) ∧ Only [.atts, .descs, .twin] s t) ∧
     (∀ (q : Word) ws k, FtGood s h true → s.role = roStandby → s.queueAtt (q.toNat % 2 ^ 20) = some k →
       let u := (s.acked h).setTwin { (s.acked h).twin with rxSeq := some h.seq }
       exec (.ftMirqRx h q ws) s = .next (if q.getLsbD 31 then u.qpFlush k
         else (((ws.take 12).foldl (fun v w => v.arriveWord k w) u).svcFinish k))) ∧
     (∀ (span : Word) pairs, FtGood s h true → s.role = roStandby → pairs.length ≤ 11 → s.twin.ckpts.1 ≠ span.toNat →
       s.twin.counts.1 ≠ span.toNat → Completes (.ftCkptRx h span pairs) s fun t =>
         t.twin = { (s.acked h).twin with rxSeq := some h.seq, ckpts := (span.toNat, pairs.map fun p => (p.1.toNat,
           p.2)) } ∧
         Only [.twin] s t) ∧
     (∀ id data, FtGood s h true → s.role = roStandby → data.length ≤ 92 →
       Completes (.ftGranRx h id 0 false data) s fun t =>
         t.twin = { (s.acked h).twin with rxSeq := some h.seq, gran := some (id, data) } ∧ Only [.twin] s t) ∧
     (FtGood s h false → s.role = roStandby → s.twin.taking = none → Completes (.ftFailRx h) s fun t =>
       t.twin = { (s.acked h).twin with taking := some (s.tbNs, false) } ∧ t.rbit twnPage 0x44 10 = true ∧
       RegsBut [regKey twnPage 0x44, regKey twnPage 0x64, regKey twnPage 0x68] s t ∧ Only [.regs, .twin] s t) ∧
     (∀ p, FtGood s h true → s.role = roStandby → Completes (.ftSwitchRx h p false) s fun t =>
       t.switching = true ∧ t.twin.switchAt = p ∧ t.twin.rxSeq = some h.seq ∧ t.role = roStandby ∧
       RegsBut [regKey twnPage 0x44] s t ∧ Only [.regs, .twin] s t) ∧
     (∀ p, FtGood s h true → s.role = roOwner → s.rbit twnPage 0x5C 0 = true → Completes (.ftSwitchRx h p true) s fun
       t =>
       t.switching = true ∧ t.twin = { (s.acked h).twin with rxSeq := some h.seq } ∧ t.role = roOwner ∧
       RegsBut [regKey twnPage 0x44] s t ∧ Only [.regs, .twin] s t) ∧
     (∀ (a : BitVec 48) data, FtGood s h true → s.role = roJoining → s.twin.step = 3 → data.length ≤ 96 →
       a.toNat / 2 ^ 40 = 0xFF → inDescTable (a.toNat % 2 ^ 40) = false → Completes (.ftStateRx h a data) s fun t =>
         (∀ i, i < data.length → t.readByte (a.toNat + i) = data.getD i 0) ∧ BytesBut a.toNat data.length s t ∧
         t.twin = { (s.acked h).twin with rxSeq := some h.seq } ∧ Only [.mem, .twin] s t) ∧
     (∀ m l, s.twin.unacked = l ++ [m] → s.twin.resends < 7 → Completes .ftResendTimeout s fun t =>
       t.twin = { s.twin with resends := s.twin.resends + 1, sent := some m } ∧
       t.reg twnPage 0x9C = BitVec.ofNat 32 (satAdd 32 (s.reg twnPage 0x9C).toNat s.twin.unacked.length) ∧
       RegsBut [regKey twnPage 0x9C] s t ∧ Only [.regs, .twin] s t) ∧
     (∀ m l, s.twin.unacked = l ++ [m] → 7 ≤ s.twin.resends → s.ftUp = true → s.role = roOwner →
       Completes .ftResendTimeout s fun t =>
         t.ftLink = 0 ∧ t.twin.unacked = [] ∧ t.rbit twnPage 0x10 6 = true ∧ PagesBut [twnPage] s t ∧
         Only [.regs, .outbox, .twin] s t) ∧
     (s.ftUp = true → Completes .ftSilenceTimeout s fun t =>
       t.ftLink = 0 ∧ t.twin.unacked = [] ∧ t.twin.waiting = [] ∧ t.rbit twnPage 0x10 6 = true ∧
       t.role = (if s.role = roJoining ∨ s.role = roStandby ∧ s.twin.taking = none then roDetached else s.role) ∧
       PagesBut [twnPage] s t ∧ Only [.regs, .outbox, .twin] s t) ∧
     (s.role = roOwner → Completes .spanClose s fun t =>
       let j := (s.twnPos.toNat / 256 / s.spanSize + 2 ^ 32 - 1) % 2 ^ 32
       t.twin.counts.1 = j ∧ tget (fun _ => 0) t.twin.packets j = 0 ∧ (∀ e ∈ t.twin.crcs, e.1 / 512 ≠ j) ∧
       Only [.twin] s t) ∧
     (∀ j d l, s.twin.closed = (j, d) :: l → s.role = roStandby → Completes .digestTimeout s fun t =>
       tget (fun _ => none) t.twin.closed j = none ∧ t.reg twnPage 0x90 = counted (s.reg twnPage 0x90) ∧
       t.rbit twnPage 0x10 4 = true ∧
       t.role = (if s.lockstep = true ∧ s.twin.taking = none then roDetached else roStandby) ∧ PagesBut [twnPage] s t
         ∧ Only [.regs, .outbox, .twin] s t))

/-! The granary and the health monitors (17_granary_and_health). -/

/-- No request is in the granary. -/
def Sys2Proof.Machine.GrnIdle (s : State) : Prop :=
  s.rbit grnPage 0x54 31 = false ∧ s.grn.flight = none ∧ s.grn.queue = []

/-- The granary as a request of the command register finds it: VHOLD measured, the operation shown, BUSY. -/
def Sys2Proof.Machine.State.grnShown (s : State) (op : Nat) : State :=
  (s.setFld grnPage 0x40 0 3 op).setBit grnPage 0x54 31 true

/-- The request that the command register holds. -/
def Sys2Proof.Machine.State.grnAsked (s : State) (op : Nat) (w : GrnWho) : GrnReq :=
  ⟨op, w, s.reg grnPage 0x44, s.rfld grnPage 0x48 0 13, s.rfld grnPage 0x50 0 16 * 2 ^ 32 + (s.reg grnPage
    0x4C).toNat, []⟩

/-- Requests (R416, R417): an admitted COMMIT or DELETE of a scanned area is put in flight, the data fetched; a READ
is answered with the current version's bytes and SEQ; a reserved OP is BAD_ARG. The journal (R416, R418 to R422): a
commit that verifies is the current version under the next SEQ, its bytes in flash and nothing else of the flash
changed; a compaction's erase frees its sector; POWERFAIL drops OWN and is cleared again; a scanned area takes
requests. Where it rests on a choice or an inference of the model: log entries 62, 82, 101. -/
def Obligations.GranaryStore : Prop :=
  (∀ s : State, GrnIdle s →
     (∀ (who : Fin 3) v a, let u := (s.setVhold v).grnShown 1
       let q := s.grnAsked 1 (grnSender who)
       let r := u.fetchAll 0x47 0x30 q.addr q.len 8
       idArea q.id = some a → s.grn.scanned.getLsbD a = true → u.grnRefusal q a q.len = none → r.2.1 = 0 →
       Completes (.grnCommit who v) s fun t =>
         t.grn = { s.grn with flight := some ⟨grnSender who, q.id, false, r.2.2⟩ } ∧ t.rbit grnPage 0x54 31 = true ∧
         t.rbit grnPage 0x54 30 = true ∧ t.rfld grnPage 0x5C 8 8 = v.toNat ∧
         RegsBut [regKey grnPage 0x54] r.1 t ∧ Only [.regs, .grn] r.1 t) ∧
     (∀ (who : Fin 3) v a res, let u := (s.setVhold v).grnShown 1
       let q := s.grnAsked 1 (grnSender who)
       idArea q.id = some a → s.grn.scanned.getLsbD a = true → u.grnRefusal q a q.len = some res →
       Completes (.grnCommit who v) s fun t =>
         t.rfld grnPage 0x54 0 4 = res ∧ t.rbit grnPage 0x54 31 = false ∧ t.rbit grnPage 0x10 1 = true ∧ t.grn = s.grn ∧
         t.reg grnPage 0x7C = counted (s.reg grnPage 0x7C) ∧ PagesBut [grnPage] s t ∧ Only [.regs, .outbox] s t) ∧
     (∀ (who : Fin 3) v a, let u := (s.setVhold v).grnShown 2
       let q := s.grnAsked 2 (grnSender who)
       idArea q.id = some a → s.grn.scanned.getLsbD a = true → u.grnRefusal q a 0 = none →
       Completes (.grnDelete who v) s fun t =>
         t.grn = { s.grn with flight := some ⟨grnSender who, q.id, true, []⟩ } ∧ t.rbit grnPage 0x54 31 = true ∧
         RegsBut [regKey grnPage 0x40, regKey grnPage 0x54, regKey grnPage 0x5C] s t ∧ Only [.regs, .grn] s t) ∧
     (∀ (who : Fin 3) a e, let u := s.grnShown 3
       let q := s.grnAsked 3 (grnSender who)
       idArea q.id = some a → s.grn.scanned.getLsbD a = true → s.grn.current q.id = some e →
       let r := u.storeAll 0x47 0x30 q.addr ((u.entryData e).take (min q.len e.len)) 8
       r.2 = 0 → Completes (.grnRead who) s fun t =>
         t.mem = r.1.mem ∧ t.reg grnPage 0x58 = e.seq ∧
         t.rfld grnPage 0x54 0 4 = 0 ∧ t.rbit grnPage 0x54 31 = false ∧ t.rfld grnPage 0x54 12 13 = e.len % 2 ^ 13 ∧
         t.grn = s.grn ∧ Only [.regs, .mem, .outbox, .free, .banks, .grn, .resv] s t) ∧
     (∀ (who : Fin 3) a, let q := s.grnAsked 3 (grnSender who)
       idArea q.id = some a → s.grn.scanned.getLsbD a = true → s.grn.current q.id = none → Completes (.grnRead who) s
         fun t =>
         t.rfld grnPage 0x54 0 4 = 8 ∧ t.rbit grnPage 0x54 31 = false ∧ t.rbit grnPage 0x10 1 = true ∧ t.grn = s.grn ∧
         PagesBut [grnPage] s t ∧ Only [.regs, .outbox] s t) ∧
     (∀ op : Fin 5, Completes (.grnBadOp op) s fun t =>
       t.rfld grnPage 0x54 0 4 = 1 ∧ t.rbit grnPage 0x10 1 = true ∧ t.grn = s.grn ∧
       t.reg grnPage 0x7C = counted (s.reg grnPage 0x7C) ∧ PagesBut [grnPage] s t ∧ Only [.regs, .outbox] s t)) ∧
  (∀ s : State,
     (∀ c g off, s.grn.flight = some c → s.grn.queue = [] → s.grn.place (c.id.toNat / 2 ^ 30) (entryUnits
       c.data.length) = some (g, off) →
       4 ≤ (g.freeOf (c.id.toNat / 2 ^ 30)).length → Completes (.commitDone 0) s fun t =>
         (let e : GrnEntry := ⟨off, tget (fun _ => 0) s.grn.seq (c.id.toNat / 2 ^ 30) + 1, c.tomb, c.data.length⟩
          tget (fun _ => none) t.grn.index c.id.toNat = some e ∧ t.entryData e = c.data) ∧
         (∀ i, i ≠ c.id.toNat → tget (fun _ => none) t.grn.index i = tget (fun _ => none) s.grn.index i) ∧
         t.grn.flight = none ∧ BytesBut (flashBase + off) (16 * entryUnits c.data.length) s t ∧
         t.reg grnPage 0x78 = counted (s.reg grnPage 0x78) ∧ t.rbit grnPage 0x10 0 = true ∧
         PagesBut [grnPage] s t ∧ Only [.regs, .mem, .outbox, .grn, .health, .twin] s t) ∧
     (∀ n m, s.grn.erasing = some n → s.grn.usedOf (sectorArea n) = [n, m] → n ≠ m → n < 256 → s.eraseCount n < 100000 →
       Completes .compactionDone s fun t =>
         t.grn.erasing = none ∧ t.grn.usedOf (sectorArea n) = [m] ∧ t.eraseCount n = s.eraseCount n + 1 ∧
         (∀ i, 4 ≤ i → i < sectorSize → t.readByte (flashBase + n * sectorSize + i) = 0xFF) ∧
         BytesBut (flashBase + n * sectorSize) sectorSize s t ∧ t.rbit grnPage 0x54 29 = false ∧
         RegsBut [regKey grnPage 0x54] s t ∧ Only [.regs, .mem, .grn] s t) ∧
     (∀ v, s.grn.queue = [] → s.grn.erasing = none → s.cfgBusy = false → Completes (.powerfail v) s fun t =>
       t.powerFail = true ∧ t.rfld grnPage 0x5C 8 8 = v.toNat ∧ t.rbit grnPage 0x10 3 = true ∧ t.own = false ∧
       t.role = (if s.role = roOff then roOff else roFailed) ∧
       t.grn = s.grn ∧ PagesBut [grnPage, twnPage] s t ∧ Only [.regs, .outbox, .twin, .grn] s t) ∧
     (∀ v, s.grn.queue = [] → Completes (.powerfailClear v) s fun t =>
       t.powerFail = false ∧ t.rfld grnPage 0x5C 8 8 = v.toNat ∧ RegsBut [regKey grnPage 0x54, regKey grnPage 0x5C] s
         t ∧
       Only [.regs, .grn] s t) ∧
     (∀ who : Fin 3, s.rbit grnPage 0x54 31 = true → Completes (.grnRead who) s fun t =>
       t.rbit grnPage 0x10 2 = true ∧ t.grn = s.grn ∧ PagesBut [grnPage] s t ∧ Only [.regs, .outbox] s t) ∧
     (∀ a : Fin 3, Completes (.areaScanDone a) s fun t => t.grn.scanned.getLsbD a.val = true ∧ Only [.regs, .mem,
       .outbox, .free, .banks, .sec, .grn, .health, .resv] s t))

/-! External interfaces (18_io_and_interfaces). -/

/-- Transceivers, MACs and serial controllers (R439, R440, R444, R446, R450): a RAW word waits at its lane's source;
a good frame waits at its MAC's, a bad one is counted, a whole frame leaves padded with its FCS; bytes enter and
leave the FIFOs of UARTs, SPI and IIC, whose transfers start at GO and end with their bytes sent. Where it rests on a
choice or an inference of the model: log entries 87, 88, 90, 101. -/
def Obligations.LanesMacsSerial : Prop :=
  ∀ s : State,
    (∀ (l : Fin 32) w, laneMode s l.val = 1 → s.released1 (xcvPage (l.val / 16)) = true →
      (s.lane l.val).rx.length < Config.xcvDepth → Completes (.xcvRawRx l w) s fun t =>
        let n := s.rfld (xcvPage (l.val / 16)) (laneOff l.val 0x100) 16 12
        let last := decide ((if n = 0 then 4096 else n) ≤ (s.lane l.val).cnt + 1)
        t.lane l.val = { s.lane l.val with cnt := if last then 0 else (s.lane l.val).cnt + 1,
                                           rx := (s.lane l.val).rx ++ [mkWord (if last then 0x20#6 else 0#6) w] } ∧
        (∀ m, m ≠ l.val → t.lane m = s.lane m) ∧ Only [.outer] s t) ∧
    (∀ (m : Fin 8) l, s.macOn m.val = true → 60 ≤ l.length → l.length + 4 ≤ 9216 → l.length + 4 ≤ s.maxLen m.val →
      isPause l = false → s.macAdmits m.val l = true → s.rbit ethPage (ethOff m.val 0x100) 3 = false →
      (s.mac m.val).rx.length + (frameWords l).length ≤ 4096 → Completes (.ethFrameRx m l true) s fun t =>
        t.mac m.val = { s.mac m.val with rx := (s.mac m.val).rx ++ frameWords l } ∧
        t.reg ethPage (ethOff m.val 0x11C) = counted (s.reg ethPage (ethOff m.val 0x11C)) ∧
        RegsBut [regKey ethPage (ethOff m.val 0x11C)] s t ∧ Only [.regs, .outer] s t) ∧
    (∀ (m : Fin 8) l, s.macOn m.val = true → Completes (.ethFrameRx m l false) s fun t =>
      t.reg ethPage (ethOff m.val 0x120) = counted (s.reg ethPage (ethOff m.val 0x120)) ∧
      RegsBut [regKey ethPage (ethOff m.val 0x120)] s t ∧ Only [.regs] s t) ∧
    (∀ (m : Fin 8) ws rest, (s.mac m.val).tx = ws :: rest → s.macOn m.val = true → Completes (.ethFrameTx m) s fun t =>
      let l := wordsFrame ws ++ List.replicate (60 - (wordsFrame ws).length) 0#8
      t.mac m.val = { s.mac m.val with tx := rest } ∧
      tget (fun _ => []) t.outer.ethOut m.val = l ++ wordBytes (crc32 l) ∧
      t.reg ethPage (ethOff m.val 0x128) = counted (s.reg ethPage (ethOff m.val 0x128)) ∧
      RegsBut [regKey ethPage (ethOff m.val 0x110), regKey ethPage (ethOff m.val 0x114),
        regKey ethPage (ethOff m.val 0x128)] s t ∧ Only [.regs, .outer] s t) ∧
    (∀ (m : Fin 8) lock link, Completes (.ethLinkChange m lock link) s fun t =>
      t.reg ethPage (ethOff m.val 0x10C) = BitVec.ofNat 32 (b2n lock + 2 * b2n link) ∧ t.rbit ethPage 0x10 0 = true ∧
      PagesBut [ethPage] s t ∧ Only [.regs, .outbox] s t) ∧
    (∀ (k : Fin 4) b, s.released1 uartPage = true → (s.serial k.val).tx.length < 64 →
      Completes (.uartDataWrite k b) s fun t =>
        t.serial k.val = { s.serial k.val with tx := (s.serial k.val).tx ++ [b] } ∧ t.status = 0 ∧
        (∀ m, m ≠ k.val → t.serial m = s.serial m) ∧ Only [.outer, .status, .answer] s t) ∧
    (∀ (k : Fin 4) b rest, (s.serial k.val).rx = b :: rest → Completes (.uartDataRead k false) s fun t =>
      t.answer = [b.setWidth 32] ∧ t.status = 0 ∧ t.serial k.val = { s.serial k.val with rx := rest } ∧
      (∀ m, m ≠ k.val → t.serial m = s.serial m) ∧ Only [.outer, .status, .answer] s t) ∧
    (∀ (k : Fin 14) b, s.serOn k.val = true → (s.serial k.val).rx.length < serDepth k.val →
      Completes (.serialRxByte k b false) s fun t =>
        t.serial k.val = { s.serial k.val with rx := (s.serial k.val).rx ++ [b] } ∧
        (∀ m, m ≠ k.val → t.serial m = s.serial m) ∧ Only [.outer] s t) ∧
    (∀ (k : Fin 14) b, s.serOn k.val = true → serDepth k.val ≤ (s.serial k.val).rx.length →
      Completes (.serialRxByte k b false) s fun t =>
        t.rbit (serPage k.val) 0x10 0 = true ∧ PagesBut [serPage k.val] s t ∧ Only [.regs, .outbox] s t) ∧
    (∀ (i : Fin 6) n, s.serOn (4 + i.val) = true → s.rbit spiPage (serOff (4 + i.val) 4) 30 = false →
      (i.val < 4 ∨ s.booted = true) → Completes (.spiGo i n) s fun t =>
        t.rbit spiPage (serOff (4 + i.val) 4) 30 = true ∧ t.rfld spiPage (serOff (4 + i.val) 4) 0 13 = n.toNat ∧
        t.status = 0 ∧ RegsBut [regKey spiPage (serOff (4 + i.val) 4)] s t ∧ Only [.regs, .status, .answer] s t) ∧
    (∀ (i : Fin 4) w, s.serOn (10 + i.val) = true → s.rbit iicPage (serOff (10 + i.val) 0x0C) 0 = false →
      Completes (.iicGo i w false) s fun t =>
        t.reg iicPage (serOff (10 + i.val) 0x0C) = 1 ∧ t.reg iicPage (serOff (10 + i.val) 4) = w &&& 0x201FF7FF#32 ∧
        t.status = 0 ∧ RegsBut [regKey iicPage (serOff (10 + i.val) 4), regKey iicPage (serOff (10 + i.val) 0x0C)] s t ∧
        Only [.regs, .status, .answer] s t) ∧
    (∀ (k : Fin 14) nack lost, 4 ≤ k.val → k.val < 10 → s.rbit spiPage (serOff k.val 4) 30 = true →
      Completes (.serialTransferDone k nack lost) s fun t =>
        t.rbit spiPage (serOff k.val 4) 30 = false ∧ t.serial k.val = { s.serial k.val with
          tx := (s.serial k.val).tx.drop (s.rfld spiPage (serOff k.val 4) 0 13) } ∧
        RegsBut [regKey spiPage (serOff k.val 4)] s t ∧ Only [.regs, .outer] s t) ∧
    (∀ (k : Fin 14) nack, 10 ≤ k.val → s.rbit iicPage (serOff k.val 0x0C) 0 = true →
      Completes (.serialTransferDone k nack false) s fun t =>
        t.reg iicPage (serOff k.val 0x0C) = BitVec.ofNat 32 (2 * b2n nack) ∧ t.serial k.val = { s.serial k.val with
          tx := (s.serial k.val).tx.drop (if s.rbit iicPage (serOff k.val 4) 10 then 0 else s.rfld iicPage (serOff
            k.val 4) 12 9) } ∧
        RegsBut [regKey iicPage (serOff k.val 0x0C)] s t ∧ Only [.regs, .outer] s t)

/-- The host interface (R439, R441 to R443, R447): the link comes up over the lanes it claims and lets them go; BAR0
reaches package memory; BAR2 feeds the stream of a load; a vector is raised or pending; host DMA copies both ways and
ends with its status. Where it rests on a choice or an inference of the model: log entries 89, 103. -/
def Obligations.HostInterface : Prop :=
  ∀ s : State,
    (∀ (gen : Fin 6) (width : Fin 5), let g := min gen.val (s.rfld pciePage 0x40 1 3)
      let w := min width.val (s.rfld pciePage 0x40 4 3)
      s.released1 pciePage = true → s.rbit pciePage 0x40 0 = true → s.pcieLink = false → 0 < g → 2 ≤ w →
      (∀ l, l < widthLanes w → laneOwner s l ≠ 1) → Completes (.pcieLinkChange true gen width) s fun t =>
        t.reg pciePage 0x44 = BitVec.ofNat 32 (1 + g * 2 + w * 16) ∧ (∀ l, l < widthLanes w → laneOwner t l = 3) ∧
        t.outer = { s.outer with pcieLanes := widthLanes w } ∧ t.rbit pciePage 0x10 1 = true ∧
        PagesBut [pciePage, xcvPage 0] s t ∧ Only [.regs, .outbox, .outer] s t) ∧
    (∀ (gen : Fin 6) (width : Fin 5), s.pcieLink = true → s.cfgBusy = false → s.outer.pcieLanes ≤ 16 →
      Completes (.pcieLinkChange false gen width) s fun t =>
        t.pcieLink = false ∧ (∀ l, l < s.outer.pcieLanes → laneOwner t l ≠ 3) ∧ t.rbit pciePage 0x10 1 = true ∧
        t.outer = { s.outer with pcieLanes := 0 } ∧ PagesBut [pciePage, xcvPage 0] s t ∧
        Only [.regs, .outbox, .outer] s t) ∧
    (∀ (f : Fin 2) (off : BitVec 28) data, let a := s.barAddr f.val off.toNat
      s.pcieLink = true → (∀ c, c < 4 → s.coreRun c ≠ 1) → isRegAddr a = false →
      s.busStatus barWho a data.length true = 0 → (s.memWrite a data).2 = 0 → Completes (.pcieBar0Write f off data) s
        fun t =>
        (∀ i, i < data.length → t.readByte (a + i) = data.getD i 0) ∧ BytesBut a data.length s t ∧
        (windowOf a data.length = .sram → Only [.mem, .resv] s t) ∧
        Only [.regs, .mem, .outbox, .free, .banks, .resv] s t) ∧
    (∀ (f : Fin 2) (off : BitVec 28) (n : BitVec 12), let a := s.barAddr f.val off.toNat
      s.pcieLink = true → (∀ c, c < 4 → s.coreRun c ≠ 1) → isRegAddr a = false →
      s.busStatus barWho a n.toNat false = 0 → (s.memRead a n.toNat).2.1 = 0 → s.seen barWho.node a n.toNat 0 = 0 →
      Completes (.pcieBar0Read f off n) s fun t =>
        t.status = 0 ∧ t.answer = bytesWords (n.toNat / 4 + 1) (s.readBytes a n.toNat) ∧
        (windowOf a n.toNat = .sram → Only [.status, .answer] s t) ∧
        Only [.regs, .outbox, .free, .banks, .status, .answer] s t) ∧
    (∀ bs, s.pcieLink = true → s.loadSource = 1 → s.cfgBusy = true →
      (s.phase = 1 → s.loader.buf.length + bs.length < 352 → MoreThan s bs.length →
        Completes (.pcieBar2Write bs) s fun t =>
          t.loader = { s.loader with buf := s.loader.buf ++ bs } ∧ BytesTaken s t bs.length ∧
          RegsBut [regKey cfgPage 0x58] s t ∧ Only [.regs, .loader] s t) ∧
      exec (.pcieBar2Write bs) s = .next (s.streamBytes bs)) ∧
    (∀ (msg : BitVec 11) masked, Completes (.msixMessage msg masked) s fun t =>
      (if masked = true ∨ s.pcieLink = false then tget (fun _ => false) t.outer.pba msg.toNat = true ∧ t.outer.msi =
        s.outer.msi
       else t.outer = { s.outer with msi := some msg.toNat }) ∧ Only [.outer] s t) ∧
    (∀ c : Fin 4, s.released1 pciePage = true → s.hdmaBusy c.val = false → 0 < s.hdmaLen c.val →
      s.hdmaLen c.val ≤ 0x1000000 → s.hdmaLen c.val % 4 = 0 →
      (s.rbit pciePage (hdmaOff c.val 0x114) 1 = false → Completes (.hdmaGo c) s fun t =>
        t.hdmaBusy c.val = true ∧ t.hdmaDone c.val = 0 ∧ t.status = 0 ∧
        RegsBut [regKey pciePage (hdmaOff c.val 0x118), regKey pciePage (hdmaOff c.val 0x11C)] s t ∧
        Only [.regs, .outer, .status, .answer] s t) ∧
      (let u := ((s.setReg pciePage (hdmaOff c.val 0x118) 0x80000000#32).setReg pciePage (hdmaOff c.val 0x11C)
        0).setOuter
          { s.outer with hdma := tset (fun _ => 0) s.outer.hdma c.val 0 }
       let r := u.hdmaRead (s.hdmaPkg c.val) (s.hdmaLen c.val) (s.hdmaLen c.val / 1024 + 4) []
       s.rbit pciePage (hdmaOff c.val 0x114) 1 = true → s.pcieLink = true → Completes (.hdmaGo c) s fun t =>
        t.hdmaBusy c.val = false ∧ t.outer.hostOut = some (s.hdmaHost c.val, r.2.1) ∧ t.rbit pciePage 0x10 0 = true ∧
        t.reg pciePage (hdmaOff c.val 0x118) = (if r.2.2 then 0 else 1) ∧
        t.reg pciePage (hdmaOff c.val 0x11C) = (if r.2.2 then 0 else BitVec.ofNat 32 r.2.1.length) ∧
        t.status = 0 ∧ t.mem = s.mem ∧ PagesBut [pciePage] r.1 t ∧
        Only [.regs, .outbox, .free, .banks, .outer, .status, .answer] s t)) ∧
    (∀ (c : Fin 4) timeout, s.hdmaBusy c.val = true → Completes (.hdmaTimeout c timeout) s fun t =>
      t.reg pciePage (hdmaOff c.val 0x118) = 1 ∧ t.reg pciePage (hdmaOff c.val 0x11C) = BitVec.ofNat 32 (s.hdmaDone
        c.val) ∧
      t.rbit pciePage 0x10 0 = true ∧ t.hdmaDone c.val = 0 ∧ PagesBut [pciePage] s t ∧ Only [.regs, .outbox, .outer]
        s t) ∧
    (∀ (c : Fin 4) bs, let a := s.hdmaPkg c.val + s.hdmaDone c.val
      let x := s.hdmaStore a bs (bs.length / 1024 + 4) 0
      s.hdmaBusy c.val = true → s.rbit pciePage (hdmaOff c.val 0x114) 1 = false →
      bs.length + s.hdmaDone c.val ≤ s.hdmaLen c.val →
      (x.2.2 = true → Completes (.hostCompletionRx c bs) s fun t =>
        t.mem = x.1.mem ∧
        (if bs.length + s.hdmaDone c.val = s.hdmaLen c.val then t.reg pciePage (hdmaOff c.val 0x118) = 0 ∧
            t.rbit pciePage 0x10 0 = true ∧ PagesBut [pciePage] x.1 t
          else t.hdmaDone c.val = s.hdmaDone c.val + bs.length ∧ t.regs = x.1.regs) ∧
        Only [.regs, .mem, .outbox, .free, .banks, .resv, .outer] s t) ∧
      (x.2.2 = false → Completes (.hostCompletionRx c bs) s fun t =>
        t.reg pciePage (hdmaOff c.val 0x118) = 1 ∧
        t.reg pciePage (hdmaOff c.val 0x11C) = BitVec.ofNat 32 (s.hdmaDone c.val + x.2.1) ∧
        t.rbit pciePage 0x10 0 = true ∧ t.hdmaBusy c.val = false ∧ PagesBut [pciePage] x.1 t) ∧
      (bs ≠ [] → bs.length ≤ 2048 → a % 0x1000 + bs.length ≤ 0x1000 → (s.store 0x54 hdmaPort a bs false).2 = 0 →
        Completes (.hostCompletionRx c bs) s fun t =>
          (∀ i, i < bs.length → t.readByte (a + i) = bs.getD i 0) ∧ BytesBut a bs.length s t))
/-! Self-test, scan and debug (19_test_and_debug). -/

/-- No core is in RUN. -/
def Sys2Proof.Machine.NoCoreRuns (s : State) : Prop := ∀ c, c < 4 → s.coreRun c ≠ 1

/-- The word of memory at an address. -/
def Sys2Proof.Machine.State.wordFrom (s : State) (a : Nat) : Word := bytesWord (s.readBytes a 4)

/-- The debug master's initiator: QUIET reads come from return port 0x3E (R468). -/
def Sys2Proof.Machine.State.dbgWho (s : State) (read : Bool) : Who :=
  ⟨0x77, if read && s.rbit dbgPage 0x44 4 then 0x3E else 0x3F, false⟩

/-- The task of core c that runs keeps the core at a boundary. -/
def Sys2Proof.Machine.State.keepsTask (s : State) (c : Nat) : Prop :=
  ∃ t, (s.core c).task = some t ∧ s.taskState c t = 2 ∧ (s.core c).turnDue = false ∧ ∀ u, s.bestTask c = some u →
    s.taskPrio c u ≤ s.taskPrio c t

/-- A core's watchdog as a halt leaves it: HALT_FREEZE stops it (R407). -/
def Sys2Proof.Machine.State.frozenWdt (s : State) (c : Nat) : Countdown :=
  if s.rbit (wdtPage c) (wdtOff c 0x100) 1 then (s.core c).wdt.stop s.cycle else (s.core c).wdt

/-- The TAP and the debug master (R462 to R467): an instruction is loaded where its condition holds and BYPASS
otherwise; DBGACC and SECACC read and write package memory and leave their status; FUSE programs a brake fuse;
without the instruction, the unlock or VCC_DBG nothing happens. Where it rests on a choice or an inference of the
model: log entries 52, 91, 92, 94, 103. -/
def Obligations.TapAccess : Prop :=
  ∀ s : State,
    (∀ (d : Fin 9) (code : BitVec 8), s.board.vccDbg = true → s.scanActive = false → isScan code.toNat = false →
      s.tapAdmits d.val code.toNat = true → Completes (.tapInstructionLoad d code) s fun t =>
        t.tapIr d.val = code.toNat ∧ (∀ e, e ≠ d.val → t.tapIr e = s.tapIr e) ∧
        t.dbg = { s.dbg with ir := t.dbg.ir } ∧ RegsBut [regKey dbgPage 0x40] s t ∧ Only [.regs, .dbg] s t) ∧
    (∀ (d : Fin 9) (code : BitVec 8), s.board.vccDbg = true → s.scanActive = false →
      s.tapAdmits d.val code.toNat = false → Completes (.tapInstructionLoad d code) s fun t =>
        t.tapIr d.val = 0xFF ∧ (∀ e, e ≠ d.val → t.tapIr e = s.tapIr e) ∧
        t.dbg = { s.dbg with ir := t.dbg.ir } ∧ Only [.regs, .mem, .outbox, .cells, .cellCtl, .slots, .tileCtl,
          .switch, .regions, .tb, .free, .routers, .descs, .lru, .atts, .mirrorOut, .banks, .sec, .grn, .health,
            .grps, .pinSet, .braked, .capBraked, .twin, .resv, .loader, .bist, .dbg, .clearing] s t) ∧
    (∀ (d : Fin 9) (code : BitVec 8), s.board.vccDbg = true → isScan code.toNat = true → s.scanOpen = true →
      (s.scanActive = false → Completes (.tapInstructionLoad d code) s fun t =>
        t.tapIr d.val = code.toNat ∧ t.scanTaint = true ∧ t.sec.keys = none ∧ t.sec.slots = [] ∧ t.braked = true ∧
        (∀ b, b ∈ secureBanks → (t.bank b).wiping = ((s.bank b).wiping || s.bankSecure b)) ∧
        t.rbit dbgPage 0x40 20 = (secureBanks.all fun b => !(s.bank b).wiping && !s.bankSecure b) ∧
        Only [.regs, .mem, .outbox, .cells, .cellCtl, .slots, .tileCtl, .switch, .regions, .tb, .free, .routers,
          .descs, .lru, .atts, .mirrorOut, .banks, .sec, .grn, .health, .grps, .pinSet, .braked, .capBraked, .twin,
            .resv, .loader, .bist, .dbg, .clearing] s t) ∧
      (s.scanActive = true → Completes (.tapInstructionLoad d code) s fun t =>
        t.tapIr d.val = code.toNat ∧ t.rbit dbgPage 0x40 20 = (secureBanks.all fun b => !(s.bank b).wiping) ∧
        RegsBut [regKey dbgPage 0x40] s t ∧ Only [.regs, .dbg] s t)) ∧
    (∀ (d : Fin 9) (code : BitVec 8), s.board.vccDbg = true → isScan code.toNat = false → isScan (s.tapIr d.val) =
      true →
      (∀ e, e < 9 → e ≠ d.val → isScan (s.tapIr e) = false) → s.tapAdmits d.val code.toNat = true →
      Completes (.tapInstructionLoad d code) s fun t =>
        AfterCapReset { s with dbg := { s.dbg with ir := tset (fun _ => 0x02) s.dbg.ir d.val code.toNat } } t 2 false) ∧
    (∀ (d : Fin 9) code, s.board.vccDbg = false → Completes (.tapInstructionLoad d code) s fun t => t = s) ∧
    (∀ (bank : BitVec 6) (value : BitVec 2), s.tapIr 0 = 0x30 → s.board.vccDbg = true → bank.toNat < 36 →
      s.scanTaint = false → (s.fuses.state = 0 ∨ s.fuses.state = 1) → s.powerFail = false →
      let k := (if bank.toNat < 32 then bank.toNat / 4 + 1 else 0) * 4 + bank.toNat % 4
      tget (fun _ => 0) s.fuses.brake k ||| value.toNat = value.toNat → Completes (.fuseDrUpdate bank value true
        true) s fun t =>
        tget (fun _ => 0) t.fuses.brake k = value.toNat ∧
        (∀ j, j ≠ k → tget (fun _ => 0) t.fuses.brake j = tget (fun _ => 0) s.fuses.brake j) ∧
        t.fuses = { s.fuses with brake := t.fuses.brake } ∧ t.dbg = { s.dbg with fuse := srOK } ∧
        Only [.fuses, .dbg] s t) ∧
    (s.tapIr 0 = 0x10 → s.dbgActs = true → s.dbg.busy = false →
      (∀ a v, Completes (.dbgNop a v) s fun t =>
        t.dbg = { s.dbg with op := 0#2, addr := a, data := v } ∧ Only [.dbg] s t) ∧
      (∀ a : BitVec 48, NoCoreRuns s → s.heldAt (s.dbgWho true) a.toNat = none → isRegAddr a.toNat = false →
        s.busStatus (s.dbgWho true) a.toNat 4 false = 0 → (s.memRead a.toNat 4).2.1 = 0 → s.seen 0x77 a.toNat 4 0 = 0 →
        Completes (.dbgRead a) s fun t =>
          t.dbg = { s.dbg with op := 1#2, addr := a, busy := false, dstatus := 0#4, data := s.wordFrom a.toNat } ∧
          (windowOf a.toNat 4 = .sram → Only [.dbg] s t) ∧ Only [.regs, .outbox, .free, .banks, .dbg] s t) ∧
      (∀ a : BitVec 48, NoCoreRuns s → s.heldAt (s.dbgWho true) a.toNat = none →
        let st := s.busStatus (s.dbgWho true) a.toNat 4 false
        st ≠ 0 → (s.seen 0x77 a.toNat 4 st = st → st ≠ 0xF → Completes (.dbgRead a) s fun t =>
          t.dbg = { s.dbg with op := 1#2, addr := a, busy := false, dstatus := BitVec.ofNat 4 st } ∧
          Only [.regs, .outbox, .dbg] s t) ∧
        (s.seen 0x77 a.toNat 4 st = 0xF → Completes (.dbgRead a) s fun t =>
          t.dbg = { s.dbg with op := 1#2, addr := a, busy := true } ∧ Only [.regs, .dbg] s t)) ∧
      (∀ (a : BitVec 48) (b : Nat), s.heldAt (s.dbgWho true) a.toNat = some b → Completes (.dbgRead a) s fun t =>
        t.dbg = { s.dbg with op := 1#2, addr := a, busy := true } ∧
        (∃ q, (t.bank b).held = (s.bank b).held ++ [q] ∧ q.hdr.bkind = 3#3) ∧ Only [.banks, .dbg] s t) ∧
      (∀ (a : BitVec 48) (v : Word), NoCoreRuns s → s.heldAt (s.dbgWho false) a.toNat = none → isRegAddr a.toNat =
        false →
        s.busStatus (s.dbgWho false) a.toNat 4 true = 0 → (s.memWrite a.toNat (wordBytes v)).2 = 0 →
        s.seen 0x77 a.toNat 4 0 = 0 → ∀ x ∈ [(Instr.dbgWriteNp a v, 2#2), (Instr.dbgWrite a v, 3#2)],
        Completes x.1 s fun t =>
          (∀ i, i < 4 → t.readByte (a.toNat + i) = (wordBytes v).getD i 0) ∧ BytesBut a.toNat 4 s t ∧
          t.dbg = { s.dbg with op := x.2, addr := a, busy := false, dstatus := 0#4, data := v } ∧
          (windowOf a.toNat 4 = .sram → Only [.mem, .resv, .dbg] s t) ∧
          Only [.regs, .mem, .outbox, .free, .banks, .resv, .dbg] s t)) ∧
    (s.tapIr 0 = 0x11 → s.board.vccDbg = true → s.dbg.busy = false →
      (∀ a v, Completes (.secaccAccess 0 a v) s fun t =>
        t.dbg = { s.dbg with op := 0#2, addr := a, data := v } ∧ Only [.dbg] s t) ∧
      (∀ (a : BitVec 48) v, secaccReach a.toNat false = true → isRegAddr a.toNat = false →
        s.busStatus { s.dbgWho true with tap := true } a.toNat 4 false = 0 → s.seen 0x77 a.toNat 4 0 = 0 → Completes
          (.secaccAccess 1 a v) s fun t =>
          t.dbg = { s.dbg with op := 1#2, addr := a, busy := false, dstatus := 0#4, data := s.wordFrom a.toNat } ∧
          Only [.dbg] s t) ∧
      (∀ (op : Fin 4) (a : BitVec 48) v, 2 ≤ op.val → secaccReach a.toNat true = true → isRegAddr a.toNat = false →
        s.busStatus ⟨0x77, 0x3F, true⟩ a.toNat 4 true = 0 → s.seen 0x77 a.toNat 4 0 = 0 → Completes (.secaccAccess op
          a v) s fun t =>
          (∀ i, i < 4 → t.readByte (a.toNat + i) = (wordBytes v).getD i 0) ∧ BytesBut a.toNat 4 s t ∧
          t.dbg = { s.dbg with op := BitVec.ofNat 2 op.val, addr := a, busy := false, dstatus := 0#4, data := v } ∧
          Only [.mem, .resv, .dbg] s t) ∧
      (∀ (op : Fin 4) (a : BitVec 48) v, op ≠ 0 → secaccReach a.toNat (op.val != 1) = false →
        Completes (.secaccAccess op a v) s fun t =>
          t.dbg.dstatus = 8#4 ∧ t.dbg.busy = false ∧ t.rbit dbgPage 0x10 1 = true ∧ PagesBut [dbgPage] s t ∧
          Only [.regs, .outbox, .dbg] s t)) ∧
    (s.tapIr 0 ≠ 0x10 ∨ s.dbgActs = false ∨ s.dbg.busy = true → ∀ a v, ∀ c ∈ [Instr.dbgNop a v, .dbgRead a,
      .dbgWriteNp a v,
      .dbgWrite a v], Completes c s fun t => t = s) ∧
    (s.tapIr 0 ≠ 0x11 ∨ s.board.vccDbg = false ∨ s.dbg.busy = true → ∀ op a v,
      Completes (.secaccAccess op a v) s fun t => t = s) ∧
    (s.dbg.busy = true → Completes .dbgResponseTimeout s fun t =>
      t.dbg = { s.dbg with busy := false, dstatus := 0xF#4 } ∧ Only [.dbg] s t)

/-- Run control (R469, R470): a halt stops a running core outside a locked sequence, a resume or a step lets a halted
core run on; a halted core's registers are read and written; a running core's are refused; the debug domain's reset
and the loss and return of its supply. Where it rests on a choice or an inference of the model: log entry 92. -/
def Obligations.RunControl : Prop :=
  ∀ s : State,
    (s.dbgActs = true →
      (∀ c : Fin 4, s.reg dbgPage (dbgOff c.val 0x100) &&& 7#32 = 0 →
        (s.coreRun c.val = 1 → s.reserved c.val = none → Completes (.dbgHalt c) s fun t =>
          t.coreRun c.val = 2 ∧ t.reg dbgPage (dbgOff c.val 0x104) = 5#32 ∧ t.rbit dbgPage 0x10 0 = true ∧
          t.core c.val = { s.core c.val with haltAsk := false, stepping := false, wdt := s.frozenWdt c.val } ∧
          (∀ d, d ≠ c.val → t.core d = s.core d) ∧ t.status = 0 ∧ PagesBut [dbgPage, glcPage c.val] s t ∧
          Only [.regs, .outbox, .cores, .status, .answer] s t) ∧
        (s.coreRun c.val = 1 → s.reserved c.val ≠ none → Completes (.dbgHalt c) s fun t =>
          t.coreRun c.val = 1 ∧ t.core c.val = { s.core c.val with haltAsk := true } ∧
          t.rbit dbgPage (dbgOff c.val 0x104) 1 = true ∧ (∀ d, d ≠ c.val → t.core d = s.core d) ∧ t.status = 0 ∧
          PagesBut [dbgPage] s t ∧ Only [.regs, .cores, .status, .answer] s t) ∧
        (s.coreRun c.val = 2 → s.sec.halt = false → (s.core c.val).haltAsk = false → s.keepsTask c.val →
          Completes (.dbgResume c) s fun t =>
            t.coreRun c.val = 1 ∧ (t.core c.val).stepping = false ∧ (t.core c.val).pc = s.cpc c.val ∧
            (∀ r, t.creg c.val r = s.creg c.val r) ∧ (∀ d, d ≠ c.val → t.core d = s.core d) ∧ t.status = 0 ∧
            PagesBut [dbgPage, glcPage c.val] s t ∧ Only [.regs, .cores, .status, .answer] s t) ∧
        (s.coreRun c.val = 2 → s.sec.halt = false → Completes (.dbgStep c) s fun t =>
          t.coreRun c.val = 1 ∧ (t.core c.val).stepping = true ∧ (t.core c.val).pc = s.cpc c.val ∧
          (∀ r, t.creg c.val r = s.creg c.val r) ∧ (∀ d, d ≠ c.val → t.core d = s.core d) ∧ t.status = 0 ∧
          PagesBut [dbgPage, glcPage c.val] s t ∧ Only [.regs, .cores, .status, .answer] s t)) ∧
      (∀ halt : BitVec 4, (∀ c, c < 4 → s.reserved c = none) → Completes (.dbgHaltAll halt 0#4) s fun t =>
        (∀ c, c < 4 → t.coreRun c = if halt.getLsbD c ∧ s.coreRun c = 1 then 2 else s.coreRun c) ∧ t.status = 0 ∧
        PagesBut [dbgPage, glcPage 0, glcPage 1, glcPage 2, glcPage 3] s t ∧
        Only [.regs, .outbox, .cores, .status, .answer] s t) ∧
      (∀ (c : Fin 4), s.coreRun c.val = 2 ∨ s.coreRun c.val = 3 → s.rfld dbgPage (dbgOff c.val 0x108) 0 6 ≤ 36 →
        Completes (.dbgCregAccess c none) s fun t =>
          t.answer = [s.cregRead c.val (s.rfld dbgPage (dbgOff c.val 0x108) 0 6)] ∧ t.status = 0 ∧
          Only [.status, .answer] s t) ∧
      (∀ (c : Fin 4) v, s.coreRun c.val = 2 →
        (s.rfld dbgPage (dbgOff c.val 0x108) 0 6 = 32 → Completes (.dbgCregAccess c (some v)) s fun t =>
          t.core c.val = { s.core c.val with pc := v } ∧ (∀ d, d ≠ c.val → t.core d = s.core d) ∧ t.status = 0 ∧
          Only [.cores, .status, .answer] s t) ∧
        (s.rfld dbgPage (dbgOff c.val 0x108) 0 6 < 8 → Completes (.dbgCregAccess c (some v)) s fun t =>
          (∀ r : BitVec 5, t.creg c.val r = if r.toNat = s.rfld dbgPage (dbgOff c.val 0x108) 0 6 then v else s.creg
            c.val r) ∧
          t.core c.val = { s.core c.val with shared := (t.core c.val).shared } ∧
          (∀ d, d ≠ c.val → t.core d = s.core d) ∧ t.status = 0 ∧ Only [.cores, .status, .answer] s t)) ∧
      (∀ (c : Fin 4) w, s.coreRun c.val = 1 ∨ s.coreRun c.val = 0 → Completes (.dbgCregAccess c w) s fun t =>
        t.status = 8#4 ∧ t.answer = [] ∧ Only [.status, .answer] s t)) ∧
    (s.dbgActs = false → ∀ c halt resume w, ∀ i ∈ [Instr.dbgHalt c, .dbgResume c, .dbgStep c, .dbgHaltAll halt resume,
      .dbgCregAccess c w], Completes i s fun t => t.status = 8#4 ∧ t.answer = [] ∧ Only [.status, .answer] s t) ∧
    (s.scanActive = false → (∀ c, c < 4 → s.coreRun c ≠ 1 ∧ s.coreRun c ≠ 2) →
      (Completes .trstNAssert s fun t =>
        t.dbg = Debug.reset ∧ t.rfld dbgPage 0x40 4 9 = s.chainNow ∧ t.reg dbgPage 0x44 = 0 ∧
        (∀ k, k / 0x1000000 ≠ 0x21 → t.regAt k = s.regAt k) ∧ Only [.regs, .dbg] s t) ∧
      (Completes .vccDbgLoss s fun t =>
        t.dbg = Debug.reset ∧ t.board = { s.board with vccDbg := false } ∧ t.gate 0x77 = gateAsleep ∧
        RegsBut [regKey (rtrPage 0x77) 0x4C] s t ∧ Only [.regs, .dbg, .board] s t) ∧
      (s.board.vccDbg = false → Completes .vccDbgRise s fun t =>
        t.dbg = Debug.reset ∧ t.board = { s.board with vccDbg := true } ∧ t.gate 0x77 ≠ gateAsleep ∧
        t.rfld dbgPage 0x40 4 9 = s.chainNow ∧ Only [.regs, .dbg, .board] s t))

/-! The register reference (20_register_reference). -/

/-- Initiator `w` reaches page `p` and may write there (R294, R467, R481), the response finds its way back (R17); no
core
runs. -/
def Sys2Proof.Machine.Reaches (s : State) (w : Who) (p : Page) (off : Nat) : Prop :=
  pageExists p = true ∧ off < 0x1000 ∧ s.busStatus w (regAddr p off) 4 true = 0 ∧ (p.blk = .dbg → w.debug = true) ∧
  (p.blk = .sec → w.rom s = true) ∧ NoCoreRuns s ∧ s.seen w.node (regAddr p off) 4 0 = 0

/-- The header of a register page (R482 to R487, Tables 20-5 to 20-8): EVT_PEND clears what it names, EVT_EN takes
the events that exist, CLEAR empties the error registers, LOCK stays set and freezes EVT_EN, ENABLE starts a block or
holds it in reset (and opens the gate of its endpoint on the cap, R136), POWER_REQ asks a bank for its power state
and a region for its domain's, SOFT_RESET empties a block and clears a region. Where it rests on a choice or an
inference of the model: log entries 67, 95. -/
def Obligations.HeaderWrites : Prop :=
  ∀ (s : State) (p : Page) (node : BitVec 8) (port : BitVec 6),
    let w : Who := ⟨node.toNat, port.toNat, false⟩
    (∀ bits, Reaches s w p 0x18 → Completes (.evtPendClear p bits node port) s fun t =>
      t.reg p 0x10 = s.reg p 0x10 &&& ~~~bits ∧ t.status = 0 ∧ RegsBut [regKey p 0x10] s t ∧
      Only [.regs, .status, .answer] s t) ∧
    (∀ bits, Reaches s w p 0x14 → s.rbit p 0x30 0 = false → Completes (.evtEnWrite p bits node port) s fun t =>
      (∀ i, i < 32 → bit (t.reg p 0x14) i = (decide (i < eventCount p) && bit bits i)) ∧ t.status = 0 ∧
      RegsBut [regKey p 0x14] s t ∧ Only [.regs, .outbox, .status, .answer] s t) ∧
    (∀ bits, Reaches s w p 0x14 → s.rbit p 0x30 0 = true → Completes (.evtEnWrite p bits node port) s fun t =>
      t.status = 8#4 ∧ Only [.status, .answer] s t) ∧
    (Reaches s w p 0x2C → Completes (.errClear p node port) s fun t =>
      t.reg p 0x20 = 0 ∧ t.reg p 0x24 = 0 ∧ t.reg p 0x28 = 0 ∧ t.reg p 0x2C = 0 ∧ t.rbit p 0x0C 6 = false ∧ t.status
        = 0 ∧
      RegsBut [regKey p 0x20, regKey p 0x24, regKey p 0x28, regKey p 0x2C, regKey p 0x0C] s t ∧
      Only [.regs, .status, .answer] s t) ∧
    (Reaches s w p 0x30 → Completes (.lockSet p node port) s fun t =>
      t.rbit p 0x30 0 = true ∧ t.status = 0 ∧ RegsBut [regKey p 0x30] s t ∧ Only [.regs, .status, .answer] s t) ∧
    (Reaches s w p 0x08 → s.failedBlock p = false →
      (enKind p ≠ .fixed → Completes (.blkEnable p true node port) s fun t =>
        t.rbit p 0x08 0 = true ∧ t.status = 0 ∧ PagesBut [p, rtrPage (pageNode p)] s t ∧
        (isCapNode (pageNode p) = false ∨ (s.router (pageNode p)).opened = true →
          RegsBut [regKey p 0x08] s t ∧ t.routers = s.routers) ∧ Only [.regs, .routers, .status, .answer] s t) ∧
      (enKind p ≠ .free → Completes (.blkEnable p false node port) s fun t =>
        t.status = 0 ∧ Only [.status, .answer] s t) ∧
      (p.blk = .eth ∨ p.blk = .dma ∨ p.blk = .uart → Completes (.blkEnable p false node port) s fun t =>
        t.rbit p 0x08 0 = false ∧ (∀ off, 0x40 ≤ off → off < 0x1000 → t.reg p off = resetOfKey (regKey p off)) ∧
        (p.blk = .eth → ∀ m, t.mac m = Mac.reset) ∧ (p.blk = .dma → t.dmas = []) ∧
        (p.blk = .uart → ∀ k, k < 4 → t.serial k = Serial.reset) ∧ t.status = 0 ∧ PagesBut [p] s t ∧
        Only [.regs, .outer, .dmas, .status, .answer] s t) ∧
      (p.blk = .eth ∨ p.blk = .uart → s.enabledPage p = true → Completes (.blkSoftReset p node port) s fun t =>
        t.rbit p 0x08 0 = true ∧ (∀ off, 0x40 ≤ off → off < 0x1000 → t.reg p off = resetOfKey (regKey p off)) ∧
        (p.blk = .eth → ∀ m, t.mac m = Mac.reset) ∧ (p.blk = .uart → ∀ k, k < 4 → t.serial k = Serial.reset) ∧
        t.status = 0 ∧ PagesBut [p, rtrPage (pageNode p)] s t ∧ Only [.regs, .routers, .outer, .status, .answer] s t) ∧
      (∀ r : Fin 128, p = rgnPage r.val →
        (s.underTest p = false → Completes (.blkSoftReset p node port) s fun t => t = (s.clearStart r.val).reply 0 []) ∧
        ∀ x ∈ [(Instr.blkPowerWake p node port, 0), (.blkPowerSleep p node port, 1), (.blkPowerRetain p node port, 2)],
          Completes x.1 s fun t => t = (s.domGo x.2 (r.val / 16 + 1) 0 (r.val % 16) false).reply 0 []) ∧
      (∀ b : Fin 768, p = bankPage b.val → s.rbit p 0x0C 4 = false → s.rbit p 0x40 16 = false →
        s.bankPending b.val = false → s.underTest p = false →
        ∀ x ∈ [(Instr.blkPowerWake p node port, 0), (.blkPowerSleep p node port, 2), (.blkPowerRetain p node port, 1)],
        (s.bankSecure b.val = true → x.2 = 0) → s.bankPower b.val ≠ x.2 → Completes x.1 s fun t =>
          t.rfld p 0x40 0 2 = x.2 ∧ t.rbit p 0x40 16 = true ∧ (t.bank b.val).target = some x.2 ∧ t.status = 0 ∧
          RegsBut [regKey p 0x40] s t ∧ Only [.regs, .banks, .status, .answer] s t))

/-- Reads and writes by address (R43, R483, R488): a register that clears when read answers its value and is 0
afterwards, but for a QUIET read; a disabled block's registers read their reset values; a plain register takes the
bits it has; a write to memory stores its four bytes; a refused write answers its status and changes no memory. Where
it rests on a choice or an inference of the model: log entries 13, 101, 103. -/
def Obligations.RegisterReadsWrites : Prop :=
  ∀ (s : State) (node : BitVec 8) (port : BitVec 6),
    let w : Who := ⟨node.toNat, port.toNat, false⟩
    (∀ p (off : BitVec 12), Reaches s w p off.toNat → 0x40 ≤ off.toNat → isRC p off.toNat = true → s.enabledPage p =
      true →
      Completes (.regReadClear p off node port) s fun t =>
        t.answer = [s.reg p off.toNat] ∧ t.status = 0 ∧
        t.reg p off.toNat = (if w.quiet = true then s.reg p off.toNat else 0) ∧
        RegsBut [regKey p off.toNat] s t ∧ Only [.regs, .status, .answer] s t) ∧
    (∀ p (off : BitVec 12), Reaches s w p off.toNat → 0x40 ≤ off.toNat → s.enabledPage p = false →
      Completes (.regReadClear p off node port) s fun t =>
        t.answer = [s.resetValue p off.toNat] ∧ t.status = 0 ∧ Only [.status, .answer] s t) ∧
    (∀ p (off : BitVec 12) v posted (a : BitVec 48), a.toNat = regAddr p off.toNat → Reaches s w p off.toNat →
      0x40 ≤ off.toNat → p.blk = .prb ∨ p.blk = .hlth → rwMask p off.toNat ≠ 0 → s.enabledPage p = true →
      Completes (.registerWrite a v posted node port) s fun t =>
        t.reg p off.toNat = v &&& rwMask p off.toNat ∧ t.status = 0 ∧ RegsBut [regKey p off.toNat] s t ∧
        Only [.regs, .status, .answer] s t) ∧
    (∀ (a : BitVec 48) v posted, NoCoreRuns s → isRegAddr a.toNat = false → s.busStatus w a.toNat 4 true = 0 →
      (s.memWrite a.toNat (wordBytes v)).2 = 0 → (posted = true ∨ s.seen w.node a.toNat 4 0 = 0) →
      Completes (.registerWrite a v posted node port) s fun t =>
        (∀ i, i < 4 → t.readByte (a.toNat + i) = (wordBytes v).getD i 0) ∧ BytesBut a.toNat 4 s t ∧ t.status = 0 ∧
        Only [.regs, .outbox, .free, .banks, .mem, .resv, .status, .answer] s t ∧
        (windowOf a.toNat 4 = .sram → Only [.mem, .resv, .status, .answer] s t)) ∧
    (∀ (a : BitVec 48) v posted, NoCoreRuns s → s.busStatus w a.toNat 4 true ≠ 0 →
      Completes (.registerWrite a v posted node port) s fun t =>
        t.status = (if posted = true then 0#4 else BitVec.ofNat 4 (s.seen w.node a.toNat 4 (s.busStatus w a.toNat 4
          true))) ∧
        Only [.regs, .status, .answer] s t)

/-- The trace buffer (R472 to R474): an initiator claims and releases it; a record is stored at WPTR and counted, or
lost and counted; in STOP the record that fills the last place raises TRC_FULL. Where it rests on a choice or an
inference of the model: log entry 93. -/
def Obligations.TraceBuffer : Prop :=
  ∀ (s : State) (node : BitVec 8) (port : BitVec 6),
    (s.trcOwner = none → s.trcServes = true → Completes (.trcClaim node port) s fun t =>
      t.trcOwner = some (ownerCode node.toNat port.toNat) ∧ t.rbit trcPage 0x0C 6 = false ∧ t.status = 0 ∧
      RegsBut [regKey trcPage 0x34, regKey trcPage 0x40, regKey trcPage 0x0C] s t ∧ Only [.regs, .status, .answer] s
        t) ∧
    (∀ o, s.trcOwner = some o → ∀ c ∈ [Instr.trcClaim node port, .trcRelease node port],
      (o = ownerCode node.toNat port.toNat → c = .trcClaim node port) → Completes c s fun t =>
        t.trcOwner = some o ∧ t.status = 8#4 ∧ t.rbit trcPage 0x10 1 = true ∧ PagesBut [trcPage] s t ∧
        Only [.regs, .outbox, .status, .answer] s t) ∧
    (s.trcOwner = some (ownerCode node.toNat port.toNat) → Completes (.trcRelease node port) s fun t =>
      t.trcOwner = none ∧ t.status = 0 ∧ RegsBut [regKey trcPage 0x34, regKey trcPage 0x40] s t ∧
      Only [.regs, .status, .answer] s t) ∧
    (∀ rec_, let i := s.rfld trcPage 0x48 0 16
      s.trcServes = true → s.rbit trcPage 0x44 0 = true → s.trcOwner ≠ none →
      (s.rbit trcPage 0x44 1 = false ∨ s.traceHeld i = false) →
      Completes (.traceRecordRx rec_) s fun t =>
        tget (fun _ => []) t.trace i = rec_.toList ∧
        (∀ j, j ≠ i → tget (fun _ => []) t.trace j = tget (fun _ => []) s.trace j) ∧
        t.rfld trcPage 0x48 0 16 = (i + 1) % 65536 ∧
        t.rbit trcPage 0x48 31 = (s.rbit trcPage 0x48 31 || s.traceHeld i) ∧
        t.reg trcPage 0x74 = counted (s.reg trcPage 0x74) ∧
        ((s.rbit trcPage 0x44 1 && t.traceHeld ((i + 1) % 65536)) = false →
          RegsBut [regKey trcPage 0x48, regKey trcPage 0x74] s t ∧ Only [.regs, .trace] s t) ∧
        ((s.rbit trcPage 0x44 1 && t.traceHeld ((i + 1) % 65536)) = true →
          t.rbit trcPage 0x10 0 = true ∧ PagesBut [trcPage] s t ∧ Only [.regs, .trace, .outbox] s t)) ∧
    (∀ rec_, s.trcServes = false ∨ s.rbit trcPage 0x44 0 = false ∨ s.trcOwner = none ∨
        (s.rbit trcPage 0x44 1 = true ∧ s.traceHeld (s.rfld trcPage 0x48 0 16) = true) →
      Completes (.traceRecordRx rec_) s fun t =>
        t.reg trcPage 0x70 = counted (s.reg trcPage 0x70) ∧ RegsBut [regKey trcPage 0x70] s t ∧ Only [.regs] s t)

/-- R474: a read of RDATA[w] answers word w of the record at RADDR, to every initiator that reaches the page; a read of
RDATA[7] advances RADDR by one, modulo 65,536, except under QUIET. Nothing else changes but PEEKED on the DBG page. -/
def Obligations.TraceDataReads : Prop :=
  ∀ (s : State) (node : BitVec 8) (port : BitVec 6),
    (∀ quiet, Completes (.trcRdataRead quiet) s fun t =>
      t.status = 0 ∧
      t.answer = [bytesWord (((tget (fun _ => []) s.trace (s.rfld trcPage 0x4C 0 16)).drop 28).take 4)] ∧
      t.rfld trcPage 0x4C 0 16 = (if quiet = true then s.rfld trcPage 0x4C 0 16 else (s.rfld trcPage 0x4C 0 16 + 1) %
        65536) ∧
      RegsBut [regKey trcPage 0x4C, regKey dbgPage 0x40] s t ∧ Only [.regs, .status, .answer] s t) ∧
    (∀ w, w < 8 → let who : Who := ⟨node.toNat, port.toNat, false⟩
      let a := s.rfld trcPage 0x4C 0 16
      Reaches s who trcPage (0x50 + 4 * w) → s.enabledPage trcPage = true →
      Completes (.regReadClear trcPage (BitVec.ofNat 12 (0x50 + 4 * w)) node port) s fun t =>
        t.status = 0 ∧ t.answer = [bytesWord (((tget (fun _ => []) s.trace a).drop (4 * w)).take 4)] ∧
        t.rfld trcPage 0x4C 0 16 = (if w = 7 ∧ who.quiet = false then (a + 1) % 65536 else a) ∧
        RegsBut [regKey trcPage 0x4C, regKey dbgPage 0x40] s t ∧ Only [.regs, .status, .answer] s t)

/-! The Glaette cores (16_glaette_cores). -/

/-- Nothing is due at core d's next boundary (R403, R469): it does not run, its task keeps it, or it idles with no READY
task. -/
def Sys2Proof.Machine.State.steady (s : State) (d : Nat) : Prop :=
  s.coreRun d ≠ 1 ∨ ((s.core d).stepping = false ∧ (s.core d).haltAsk = false ∧ (s.keepsTask d ∨
    ((s.core d).task = none ∧ s.bestTask d = none ∧ s.setBit (glcPage d) 0x44 16 true = s)))

/-- Task t's OUT slot and current WIN are in the ring (R378). -/
def Sys2Proof.Machine.Windows (x : Core) (t o w : Nat) : Prop :=
  o < 12 ∧ w < 12 ∧ o ≠ w ∧ x.outOf t = some o ∧ (x.slot o).below = some w ∧ (x.slot w).valid = true ∧
  (x.slot w).task = t ∧ ∀ i, i < 12 → (x.slot i).valid = true → (x.slot i).task = t → (x.slot i).out = true → i = o

/-- Core c runs task t and executes the instruction at its PC; its windows are slots o and w; no core has anything
due at a
boundary. -/
def Sys2Proof.Machine.Runs (s : State) (c t o w : Nat) : Prop :=
  s.coreReady c = true ∧ s.atBreak c = false ∧ s.fetchTrap c = none ∧ (∀ d, d < 4 → s.steady d) ∧ t < 16 ∧
  (s.core c).task = some t ∧ Windows (s.core c) t o w

/-- Of core c only registers `rds`, PC, ST and the instruction cache may differ, of the other cores nothing. -/
def Sys2Proof.Machine.CoreFrame (c o w : Nat) (rds : List (BitVec 5)) (s u : State) : Prop :=
  (∀ r, r ∉ rds → u.creg c r = s.creg c r) ∧ (∀ d, d ≠ c → u.core d = s.core d) ∧
  u.core c = { s.core c with shared := (u.core c).shared, slots := (u.core c).slots, st := (u.core c).st
                             pc := (u.core c).pc, icache := (u.core c).icache } ∧
  (∀ i, i ≠ o → i ≠ w → (u.core c).slot i = (s.core c).slot i) ∧
  ∀ i, { (u.core c).slot i with p := ((s.core c).slot i).p, w := ((s.core c).slot i).w } = (s.core c).slot i

/-- ST keeps all but MACT and MIDX, which an instruction other than LDM and STM clears (R395), and the flags in `m`,
which
take the bits of `f` (Z, N, C, V). -/
def Sys2Proof.Machine.StAfter (old new : Word) (m : Nat) (f : List Bool) : Prop :=
  ∀ i, i < 32 → bit new i = if i < 4 ∧ m.testBit i = true then f.getD i false
    else bit old i && !(decide (8 ≤ i) && decide (i < 14))

/-- An instruction of two registers: its command, its result, the flags it writes where S is 1, C and V (Table 16-6). -/
structure Sys2Proof.Machine.GlcRow where
  cmd : Fin 4 → BitVec 5 → BitVec 5 → BitVec 5 → Bool → Instr
  res : Word → Word → Word
  m   : Nat
  c   : Word → Word → Bool
  v   : Word → Word → Bool

def Sys2Proof.Machine.noFlag (_ _ : Word) : Bool := false

def Sys2Proof.Machine.IsGlcRow (x : GlcRow) : Prop := x ∈ (
  [⟨.glcAdd, fun a b => a + b, 15, fun a b => decide (2 ^ 32 ≤ a.toNat + b.toNat),
      fun a b => decide ((a + b).toInt ≠ a.toInt + b.toInt)⟩,
   ⟨.glcSub, fun a b => a - b, 15, fun a b => decide (b.toNat ≤ a.toNat),
      fun a b => decide ((a - b).toInt ≠ a.toInt - b.toInt)⟩,
   ⟨.glcAnd, fun a b => a &&& b, 3, noFlag, noFlag⟩, ⟨.glcOr, fun a b => a ||| b, 3, noFlag, noFlag⟩,
   ⟨.glcXor, fun a b => a ^^^ b, 3, noFlag, noFlag⟩, ⟨.glcAndn, fun a b => a &&& ~~~b, 3, noFlag, noFlag⟩,
   ⟨.glcShl, fun a b => a <<< (b.toNat % 32), 3, noFlag, noFlag⟩, ⟨.glcShr, fun a b => a >>> (b.toNat % 32), 3,
     noFlag, noFlag⟩,
   ⟨.glcSar, fun a b => a.sshiftRight (b.toNat % 32), 3, noFlag, noFlag⟩,
   ⟨.glcSlt, fun a b => if a.toInt < b.toInt then 1#32 else 0#32, 1, noFlag, noFlag⟩,
   ⟨.glcSltu, fun a b => if a.toNat < b.toNat then 1#32 else 0#32, 1, noFlag, noFlag⟩,
   ⟨.glcMin, fun a b => if a.toInt < b.toInt then a else b, 3, noFlag, noFlag⟩,
   ⟨.glcMax, fun a b => if a.toInt < b.toInt then b else a, 3, noFlag, noFlag⟩,
   ⟨.glcMinu, fun a b => if a.toNat < b.toNat then a else b, 3, noFlag, noFlag⟩,
   ⟨.glcMaxu, fun a b => if a.toNat < b.toNat then b else a, 3, noFlag, noFlag⟩,
   ⟨.glcMul, fun a b => BitVec.ofNat 32 (a.toNat * b.toNat), 3, noFlag, noFlag⟩,
   ⟨.glcMulh, fun a b => (a.signExtend 64 * b.signExtend 64).extractLsb' 32 32, 3, noFlag, noFlag⟩,
   ⟨.glcMulhu, fun a b => BitVec.ofNat 32 (a.toNat * b.toNat / 2 ^ 32), 3, noFlag, noFlag⟩,
   ⟨.glcDiv, fun a b => if b = 0 then 0xFFFFFFFF#32 else BitVec.ofInt 32 (a.toInt.tdiv b.toInt), 3, noFlag, noFlag⟩,
   ⟨.glcDivu, fun a b => if b = 0 then 0xFFFFFFFF#32 else BitVec.ofNat 32 (a.toNat / b.toNat), 3, noFlag, noFlag⟩,
   ⟨.glcRem, fun a b => if b = 0 then a else BitVec.ofInt 32 (a.toInt.tmod b.toInt), 3, noFlag, noFlag⟩,
   ⟨.glcRemu, fun a b => if b = 0 then a else BitVec.ofNat 32 (a.toNat % b.toNat), 3, noFlag, noFlag⟩,
   ⟨fun c rd ra _ sf => .glcClz c rd ra sf, fun a _ => BitVec.ofNat 32 (32 - if a = 0 then 0 else a.toNat.log2 + 1), 1,
      noFlag, noFlag⟩,
   ⟨fun c rd ra _ sf => .glcPopc c rd ra sf, fun a _ => BitVec.ofNat 32 ((List.range 32).countP fun i => a.getLsbD
     i), 1,
      noFlag, noFlag⟩] : List GlcRow)

/-- Instructions of a register and an immediate of 16 bits. -/
def Sys2Proof.Machine.IsGlcImm (x : (Fin 4 → BitVec 5 → BitVec 5 → BitVec 16 → Instr) × (Word → BitVec 16 → Word)) :
Prop := x ∈ ([(.glcAddi, fun a i => a + i.signExtend 32), (.glcAndi, fun a i => a &&& i.setWidth 32),
   (.glcOri, fun a i => a ||| i.setWidth 32), (.glcXori, fun a i => a ^^^ i.setWidth 32),
   (.glcSlti, fun a i => if a.toInt < i.toInt then 1#32 else 0#32),
   (.glcSltiu, fun a i => if a.toNat < (i.signExtend 32).toNat then 1#32 else 0#32),
   (fun c rd _ i => .glcLui c rd i, fun _ i => i ++ 0#16),
   (fun c rd ra i => .glcShli c rd ra (i.setWidth 5), fun a i => a <<< (i.toNat % 32)),
   (fun c rd ra i => .glcShri c rd ra (i.setWidth 5), fun a i => a >>> (i.toNat % 32)),
   (fun c rd ra i => .glcSari c rd ra (i.setWidth 5), fun a i => a.sshiftRight (i.toNat % 32))] :
    List ((Fin 4 → BitVec 5 → BitVec 5 → BitVec 16 → Instr) × (Word → BitVec 16 → Word)))

/-- Arithmetic, logic, shifts and compares of the cores (R383, R386): rd takes the result, the flags that the row
names are written where S is 1, a compare writes the flags of the subtraction, and the core goes on at PC + 4. Where
it rests on a choice or an inference of the model: log entry 74. -/
def Obligations.CoreArithmetic : Prop :=
  ∀ (s : State) (c : Fin 4) (t o w : Nat), Runs s c.val t o w →
    (∀ row, IsGlcRow row → ∀ rd ra rb sf, Completes (row.cmd c rd ra rb sf) s fun u =>
      let a := s.creg c.val ra
      let b := s.creg c.val rb
      let r := row.res a b
      u.creg c.val rd = r ∧ u.cpc c.val = s.cpc c.val + 4 ∧
      StAfter (s.cst c.val) (u.cst c.val) (if sf = true then row.m else 0) [r == 0, r.msb, row.c a b, row.v a b] ∧
      CoreFrame c.val o w [rd] s u ∧ Only [.cores] s u) ∧
    (∀ row, IsGlcImm row → ∀ rd ra imm, Completes (row.1 c rd ra imm) s fun u =>
      u.creg c.val rd = row.2 (s.creg c.val ra) imm ∧ u.cpc c.val = s.cpc c.val + 4 ∧
      StAfter (s.cst c.val) (u.cst c.val) 0 [] ∧ CoreFrame c.val o w [rd] s u ∧ Only [.cores] s u) ∧
    (∀ ra rb (imm : BitVec 16), ∀ x ∈ [(Instr.glcCmp c ra rb, s.creg c.val rb), (.glcCmpi c ra imm, imm.signExtend 32)],
      Completes x.1 s fun u =>
        let a := s.creg c.val ra
        let r := a - x.2
        u.cpc c.val = s.cpc c.val + 4 ∧ StAfter (s.cst c.val) (u.cst c.val) 15
          [r == 0, r.msb, decide (x.2.toNat ≤ a.toNat), decide (r.toInt ≠ a.toInt - x.2.toInt)] ∧
        CoreFrame c.val o w [] s u ∧ Only [.cores] s u)

/-- Core c may read (or write) `n` aligned bytes at core address a through an uncached region; they stand at package
address p (R385, R390 to R392), whose words are served (R56, R241, R243), and the response finds its way back (R17). -/
def Sys2Proof.Machine.Plain (s : State) (c t a n : Nat) (write : Bool) (p : Nat) : Prop :=
  a % n = 0 ∧ (∃ m, s.mpu c t a (b2n write) (s.corePriv c) = some m ∧ m.cached = false) ∧
  ((s.coreTarget c a = .sram ∧ p = sramBase + a) ∨ (let w : Who := ⟨coreNode c, s.corePort c, false⟩
    let q := p - p % 4
    s.coreTarget c a = .aperture p ∧ isRegAddr p = false ∧ s.busStatus w q 4 write = 0 ∧ s.heldAt w q = none ∧
    s.seen w.node (if write = true then p else q) (if write = true then n else 4) 0 = 0 ∧
    if write = true then (s.memWrite p (List.replicate n 0)).2 = 0 else (s.memRead q 4).2.1 = 0))

/-- Core c's region at address a is cached and the line is held (R393). -/
def Sys2Proof.Machine.Hit (s : State) (c t a n : Nat) (write : Bool) (l : CacheLine) : Prop :=
  a % n = 0 ∧ (∃ m, s.mpu c t a (b2n write) (s.corePriv c) = some m ∧ m.cached = true ∧ m.through = false) ∧
  s.coreTarget c a = .sram ∧ (s.core c).dfind (a / 64) = some l ∧ l.data.length = 64

def Sys2Proof.Machine.IsLoad (x : (Fin 4 → BitVec 5 → BitVec 5 → BitVec 16 → Bool → Instr) × Nat × (List Byte →
Word)) : Prop :=
  x ∈ ([(.glcLdw, 4, fun l => l.getD 3 0 ++ l.getD 2 0 ++ l.getD 1 0 ++ l.getD 0 0),
   (.glcLdh, 2, fun l => (l.getD 1 0 ++ l.getD 0 0).signExtend 32), (.glcLdhu, 2, fun l => (l.getD 1 0 ++ l.getD 0
     0).setWidth 32),
   (.glcLdb, 1, fun l => (l.getD 0 0).signExtend 32), (.glcLdbu, 1, fun l => (l.getD 0 0).setWidth 32)] :
    List ((Fin 4 → BitVec 5 → BitVec 5 → BitVec 16 → Bool → Instr) × Nat × (List Byte → Word)))

def Sys2Proof.Machine.IsStore (x : (Fin 4 → BitVec 5 → BitVec 5 → BitVec 16 → Bool → Instr) × Nat) : Prop :=
  x ∈ ([(.glcStw, 4), (.glcSth, 2), (.glcStb, 1)] : List ((Fin 4 → BitVec 5 → BitVec 5 → BitVec 16 → Bool → Instr) ×
    Nat))

/-- Loads and stores of the cores (R385, R390 to R393, R396): a load takes the bytes at ra + imm, a store puts the
low bytes of rd there and nowhere else; a posted store that is refused changes no memory; a cached line answers a
load and takes a store; LDL reserves the line in core SRAM, STC stores while the reservation stands and tells so in
rd. Where it rests on a choice or an inference of the model: log entries 74, 78, 79, 80, 103. -/
def Obligations.CoreLoadsStores : Prop :=
  ∀ (s : State) (c : Fin 4) (t o w : Nat), Runs s c.val t o w → ∀ (rd ra : BitVec 5) (imm : BitVec 16),
    let a := (s.creg c.val ra + imm.signExtend 32).toNat
    (∀ x, IsLoad x → ∀ bad p, Plain s c.val t a x.2.1 false p → Completes (x.1 c rd ra imm bad) s fun u =>
      u.creg c.val rd = x.2.2 ((List.range 4).map fun i => s.readByte (p + i)) ∧ u.cpc c.val = s.cpc c.val + 4 ∧
      StAfter (s.cst c.val) (u.cst c.val) 0 [] ∧ CoreFrame c.val o w [rd] s u ∧
      Only [.cores, .regs, .outbox, .free, .banks] s u ∧ (s.coreTarget c.val a = .sram → Only [.cores] s u)) ∧
    (∀ x, IsLoad x → ∀ bad, a % x.2.1 = 0 → s.coreTarget c.val a = .rom →
      (∃ m, s.mpu c.val t a 0 (s.corePriv c.val) = some m ∧ m.cached = false) → Completes (x.1 c rd ra imm bad) s fun
        u =>
        u.cpc c.val = s.cpc c.val + 4 ∧ StAfter (s.cst c.val) (u.cst c.val) 0 [] ∧ CoreFrame c.val o w [rd] s u ∧
        Only [.cores, .free] s u) ∧
    (∀ x, IsLoad x → ∀ l, Hit s c.val t a x.2.1 false l → Completes (x.1 c rd ra imm false) s fun u =>
      u.creg c.val rd = x.2.2 (l.data.drop (a % 64)) ∧ u.cpc c.val = s.cpc c.val + 4 ∧
      (∀ r, r ≠ rd → u.creg c.val r = s.creg c.val r) ∧ (∀ d, d ≠ c.val → u.core d = s.core d) ∧ Only [.cores] s u) ∧
    (∀ x, IsStore x → ∀ bad p, Plain s c.val t a x.2 true p → Completes (x.1 c rd ra imm bad) s fun u =>
      (∀ i, i < x.2 → u.readByte (p + i) = (wordBytes (s.creg c.val rd)).getD i 0) ∧ BytesBut p x.2 s u ∧
      u.cpc c.val = s.cpc c.val + 4 ∧ StAfter (s.cst c.val) (u.cst c.val) 0 [] ∧ CoreFrame c.val o w [] s u ∧
      Only [.cores, .mem, .resv, .regs, .outbox, .free, .banks] s u ∧
      (s.coreTarget c.val a = .sram → Only [.cores, .mem, .resv] s u)) ∧
    (∀ x, IsStore x → ∀ bad p, let who : Who := ⟨coreNode c.val, s.corePort c.val, false⟩
      a % x.2 = 0 → (∃ m, s.mpu c.val t a 1 (s.corePriv c.val) = some m ∧ m.cached = false ∧ m.np = false) →
      s.coreTarget c.val a = .aperture p → isRegAddr p = false → s.heldAt who (p - p % 4) = none →
      s.busStatus who (p - p % 4) 4 true ≠ 0 → Completes (x.1 c rd ra imm bad) s fun u =>
        u.cpc c.val = s.cpc c.val + 4 ∧ StAfter (s.cst c.val) (u.cst c.val) 0 [] ∧ CoreFrame c.val o w [] s u ∧
        Only [.cores, .regs] s u) ∧
    (∀ x, IsStore x → ∀ l, Hit s c.val t a x.2 true l → Completes (x.1 c rd ra imm false) s fun u =>
      (∃ m, (u.core c.val).dfind (a / 64) = some m ∧ m.dirty = true ∧ ∀ i, i < 64 → m.data.getD i 0 =
        if a % 64 ≤ i ∧ i < a % 64 + x.2 then (wordBytes (s.creg c.val rd)).getD (i - a % 64) 0 else l.data.getD i 0) ∧
      u.cpc c.val = s.cpc c.val + 4 ∧ (∀ r, u.creg c.val r = s.creg c.val r) ∧ (∀ d, d ≠ c.val → u.core d = s.core d) ∧
      Only [.cores] s u) ∧
    (∀ bad, Plain s c.val t a 4 false (sramBase + a) → a < 0x100000 → Completes (.glcLdl c rd ra imm bad) s fun u =>
      u.creg c.val rd = s.readWord (sramBase + a) ∧ u.reserved c.val = some ((sramBase + a) / 64) ∧
      (∀ d, d ≠ c.val → u.reserved d = s.reserved d) ∧ u.cpc c.val = s.cpc c.val + 4 ∧
      CoreFrame c.val o w [rd] s u ∧ Only [.cores, .resv] s u) ∧
    (∀ (rb : BitVec 5) bad, let b := (s.creg c.val ra).toNat
      (s.reserved c.val ≠ none → b < 0x100000 → Plain s c.val t b 4 true (sramBase + b) →
        Completes (.glcStc c rd ra rb bad) s fun u =>
          u.creg c.val rd = 1#32 ∧ u.readWord (sramBase + b) = s.creg c.val rb ∧ BytesBut (sramBase + b) 4 s u ∧
          u.reserved c.val = none ∧ (twf (fun _ => none) s.resv = true →
            ∀ d, d ≠ c.val → s.reserved d = some ((sramBase + b) / 64) → u.reserved d = none) ∧
          u.cpc c.val = s.cpc c.val + 4 ∧ CoreFrame c.val o w [rd] s u ∧ Only [.cores, .mem, .resv] s u) ∧
      (s.reserved c.val = none ∨ 0x100000 ≤ b → b % 4 = 0 → Completes (.glcStc c rd ra rb bad) s fun u =>
        u.creg c.val rd = 0#32 ∧ u.reserved c.val = none ∧ u.cpc c.val = s.cpc c.val + 4 ∧
        CoreFrame c.val o w [rd] s u ∧ Only [.cores, .resv] s u))

/-- Mask bits of LDM and STM below bit i. -/
def Sys2Proof.Machine.maskBelow (m : BitVec 24) (i : Nat) : Nat := (List.range i).countP fun j => m.getLsbD j

/-- The whole range of core SRAM from b to b + n lies in uncached regions that core c may read (or write). -/
def Sys2Proof.Machine.PlainRange (s : State) (c t b n : Nat) (write : Bool) : Prop :=
  b % 4 = 0 ∧ b + n ≤ 0x100000 ∧
  ∀ a, b ≤ a → a < b + n → ∃ m, s.mpu c t a (b2n write) (s.corePriv c) = some m ∧ m.cached = false

/-- LDM and STM (R395): every register of the mask is transferred, the lowest at the lowest address, and the base
moves past them; broken off before its first transfer the instruction stays where it is, with MACT set and MIDX its
register. Where it rests on a choice or an inference of the model: log entry 78. -/
def Obligations.CoreMultiple : Prop :=
  ∀ (s : State) (c : Fin 4) (t o w : Nat) (bs : BitVec 2) (mask : BitVec 24) (bad : Bool), Runs s c.val t o w →
    bit (s.cst c.val) 8 = false →
    let base : BitVec 5 := BitVec.ofNat 5 (4 + bs.toNat)
    let b := (s.creg c.val base).toNat
    let n := maskBelow mask 24
    (4 * n ≤ b → PlainRange s c.val t (b - 4 * n) (4 * n) true → Completes (.glcStm c bs mask 24 bad) s fun u =>
      (∀ i, i < 24 → mask.getLsbD i = true →
        u.readWord (sramBase + (b - 4 * n) + 4 * maskBelow mask i) = s.creg c.val (multReg i)) ∧
      BytesBut (sramBase + (b - 4 * n)) (4 * n) s u ∧ (u.creg c.val base).toNat = b - 4 * n ∧
      u.cpc c.val = s.cpc c.val + 4 ∧ bit (u.cst c.val) 8 = false ∧ CoreFrame c.val o w [base] s u ∧
      Only [.cores, .mem, .resv] s u) ∧
    (PlainRange s c.val t b (4 * n) false → Completes (.glcLdm c bs mask 24 bad) s fun u =>
      (∀ i, i < 24 → u.creg c.val (multReg i) = if mask.getLsbD i = true then
        s.readWord (sramBase + b + 4 * maskBelow mask i) else s.creg c.val (multReg i)) ∧
      (u.creg c.val base).toNat = b + 4 * n ∧ (∀ r : BitVec 5, r.toNat < 8 → r ≠ base → u.creg c.val r = s.creg c.val
        r) ∧
      u.cpc c.val = s.cpc c.val + 4 ∧ bit (u.cst c.val) 8 = false ∧ (∀ d, d ≠ c.val → u.core d = s.core d) ∧
      Only [.cores] s u) ∧
    (∀ i, i < 24 → mask.getLsbD i = true →
      (maskBelow mask i = 0 → Completes (.glcLdm c bs mask 0 bad) s fun u =>
        u.cpc c.val = s.cpc c.val ∧ bit (u.cst c.val) 8 = true ∧ fld (u.cst c.val) 9 5 = i ∧
        CoreFrame c.val o w [] s u ∧ Only [.cores] s u) ∧
      (maskBelow mask (i + 1) = n → Completes (.glcStm c bs mask 0 bad) s fun u =>
        u.cpc c.val = s.cpc c.val ∧ bit (u.cst c.val) 8 = true ∧ fld (u.cst c.val) 9 5 = i ∧
        CoreFrame c.val o w [] s u ∧ Only [.cores] s u))

/-- A branch's condition on the flags Z, N, C, V (Table 16-8). -/
def Sys2Proof.Machine.condOf (z n c v : Bool) : List Bool :=
  [z, !z, n != v, n == v, !c, c, !z && n == v, z || n != v, c && !z, !c || z, n, !n, v, !v, true]

/-- The address `d` words from an instruction. -/
def Sys2Proof.Machine.wordsFrom (pc : Word) (d : Int) : Word := pc + BitVec.ofInt 32 (4 * d)

/-- The window has advanced (R379): the callee's p registers are the caller's q registers, the shared ones stand. -/
def Sys2Proof.Machine.Advanced (c t o f : Nat) (s u : State) : Prop :=
  (u.core c).task = some t ∧ (u.core c).outOf t = some f ∧ (u.core c).curOf t = some o ∧
  (∀ i : BitVec 5, i.toNat < 8 → u.creg c i = s.creg c i) ∧ (∀ i : BitVec 5, i.toNat < 8 → u.creg c (8 + i) = s.creg
    c (24 + i)) ∧
  (∀ i, i ≠ o → i ≠ f → (u.core c).slot i = (s.core c).slot i) ∧ (∀ d, d ≠ c → u.core d = s.core d)

/-- R388: a branch goes to its target, DISP words from its own address, where its condition of Table 16-8 holds, and to
PC + 4 otherwise; it changes nothing else of the core. A branch word with condition code 15 is no instruction. -/
def Obligations.BranchConditions : Prop :=
  (∀ (s : State) (c : Fin 4) (t o w : Nat), Runs s c.val t o w →
    (∀ (cond : Fin 15) (disp : BitVec 22), Completes (.glcB c cond disp) s fun u =>
      let st := s.cst c.val
      u.cpc c.val = (if (condOf (bit st 0) (bit st 1) (bit st 2) (bit st 3)).getD cond.val false = true then
        wordsFrom (s.cpc c.val) disp.toInt else s.cpc c.val + 4) ∧
      StAfter (s.cst c.val) (u.cst c.val) 0 [] ∧ CoreFrame c.val o w [] s u ∧ Only [.cores] s u)) ∧
  (∀ disp : BitVec 22, glcIllegal (0x20#6 ++ 15#4 ++ disp) = true)

/-- Control flow (R379, R381): a jump goes to its target; a call advances the window and keeps the return address in
LINK; RET goes back to it with the window, and ends the task at its outermost window; RTX restores PC and ST from XPC
and XST. Where it rests on a choice or an inference of the model: log entries 74, 77. -/
def Obligations.CoreControlFlow : Prop :=
  ∀ (s : State) (c : Fin 4) (t o w : Nat), Runs s c.val t o w →
    (∀ (disp : BitVec 26) (ra : BitVec 5) (imm : BitVec 16), ∀ x ∈ [(Instr.glcJ c disp, wordsFrom (s.cpc c.val)
      disp.toInt),
      (.glcJr c ra imm, s.creg c.val ra + imm.signExtend 32)], Completes x.1 s fun u =>
        u.cpc c.val = x.2 ∧ StAfter (s.cst c.val) (u.cst c.val) 0 [] ∧ CoreFrame c.val o w [] s u ∧ Only [.cores] s u) ∧
    (∀ f (disp : BitVec 26) (ra : BitVec 5) (imm : BitVec 16), (s.core c.val).freeSlot = some f →
      2 ≤ (s.core c.val).freeCount ∨ s.inTrap c.val = true →
      ∀ x ∈ [(Instr.glcCall c disp, wordsFrom (s.cpc c.val) disp.toInt), (.glcCallr c ra imm, s.creg c.val ra +
        imm.signExtend 32)],
      Completes x.1 s fun u =>
        u.cpc c.val = x.2 ∧ u.linkOf c.val = s.cpc c.val + 4 ∧ StAfter (s.cst c.val) (u.cst c.val) 0 [] ∧
        Advanced c.val t o f s u ∧ Only [.cores] s u) ∧
    (∀ v, ((s.core c.val).slot w).below = some v → Completes (.glcRet c) s fun u =>
      u.cpc c.val = s.linkOf c.val ∧ (u.core c.val).outOf t = some w ∧ (u.core c.val).curOf t = some v ∧
      ((u.core c.val).slot o).valid = false ∧ (∀ i : BitVec 5, i.toNat < 8 → u.creg c.val i = s.creg c.val i) ∧
      (∀ i : BitVec 5, i.toNat < 8 → u.creg c.val (24 + i) = s.creg c.val (8 + i)) ∧
      (∀ i, i ≠ o → i ≠ w → (u.core c.val).slot i = (s.core c.val).slot i) ∧ (∀ d, d ≠ c.val → u.core d = s.core d) ∧
      Only [.cores] s u) ∧
    (((s.core c.val).slot w).below = none → s.wsp c.val t = s.wtop c.val t → s.bestTask c.val = none →
      Completes (.glcRet c) s fun u =>
        u.taskState c.val t = 0 ∧ (u.core c.val).task = none ∧ u.rbit (glcPage c.val) 0x10 2 = true ∧
        (∀ i, i < 12 → ((u.core c.val).slot i).valid = true → ((u.core c.val).slot i).task ≠ t) ∧
        (∀ d, d ≠ c.val → u.core d = s.core d) ∧ PagesBut [glcPage c.val, tskPage c.val] s u ∧
        Only [.regs, .outbox, .cores, .resv] s u) ∧
    (∀ v, ((s.core c.val).slot w).below = some v → Completes (.glcRtx c) s fun u =>
      u.cpc c.val = (s.core c.val).xpc ∧ u.cst c.val = (s.core c.val).xst &&& 0x3F1F#32 ∧
      (u.core c.val).outOf t = some w ∧ (u.core c.val).curOf t = some v ∧ (∀ d, d ≠ c.val → u.core d = s.core d) ∧
      (∀ i : BitVec 5, i.toNat < 8 → u.creg c.val i = s.creg c.val i) ∧
      (∀ i : BitVec 5, i.toNat < 8 → u.creg c.val (24 + i) = s.creg c.val (8 + i)) ∧ Only [.cores] s u)

/-- The trap with a cause, detail, XADDR and XPC has been taken (R398). -/
def Sys2Proof.Machine.Trapped (c t o f code detail : Nat) (xaddr xpc : Word) (s u : State) : Prop :=
  u.cpc c = s.reg (glcPage c) 0x48 + BitVec.ofNat 32 (16 * code) ∧ (u.core c).xpc = xpc ∧ (u.core c).xaddr = xaddr ∧
  (u.core c).xcause = BitVec.ofNat 32 (code + detail * 2 ^ 16) ∧ bit (u.cst c) 4 = true ∧ bit ((u.core c).xst) 4 =
    false ∧
  (∀ i, i < 4 → bit ((u.core c).xst) i = bit (s.cst c) i ∧ bit (u.cst c) i = bit (s.cst c) i) ∧ u.reserved c = none ∧
  Advanced c t o f s u

/-- Traps (R381, R385, R392, R398, R399): SVC, an undefined encoding, BKPT where it does not halt, a misaligned or
refused access and a full or empty window ring enter their handlers with PC, ST, cause and address saved; in a
handler they halt the core. BKPT under BKPT_HALT stops it. Where it rests on a choice or an inference of the model:
log entry 74. -/
def Obligations.CoreTraps : Prop :=
  ∀ (s : State) (c : Fin 4) (t o w f : Nat), Runs s c.val t o w → (s.core c.val).freeSlot = some f →
    let pc := s.cpc c.val
    let bkptHalts := s.rbit dbgPage (dbgOff c.val 0x100) 4 && s.board.vccDbg
    (s.inTrap c.val = false →
      (∀ imm : BitVec 16, ∀ x ∈ [(Instr.glcSvc c imm, 9, imm.toNat, pc + 4), (.illegalTrap c, 1, 0, pc)], Completes
        x.1 s fun u =>
        Trapped c.val t o f x.2.1 x.2.2.1 0 x.2.2.2 s u ∧ Only [.cores, .resv] s u) ∧
      (bkptHalts = false → Completes (.glcBkpt c) s fun u =>
        Trapped c.val t o f 10 0 0 (pc + 4) s u ∧ Only [.cores, .resv] s u) ∧
      (∀ x, IsLoad x → ∀ rd ra (imm : BitVec 16) bad, let a := s.creg c.val ra + imm.signExtend 32
        (a.toNat % x.2.1 ≠ 0 → Completes (x.1 c rd ra imm bad) s fun u =>
          Trapped c.val t o f 5 0 a pc s u ∧ Only [.cores, .resv] s u) ∧
        (a.toNat % x.2.1 = 0 → s.mpu c.val t a.toNat 0 (s.corePriv c.val) = none → Completes (x.1 c rd ra imm bad) s
          fun u =>
          Trapped c.val t o f 3 0 a pc s u ∧ Only [.cores, .resv] s u)) ∧
      (∀ x, IsStore x → ∀ rd ra (imm : BitVec 16) bad, let a := s.creg c.val ra + imm.signExtend 32
        (a.toNat % x.2 ≠ 0 → Completes (x.1 c rd ra imm bad) s fun u =>
          Trapped c.val t o f 5 0 a pc s u ∧ Only [.cores, .resv] s u) ∧
        (a.toNat % x.2 = 0 → s.mpu c.val t a.toNat 1 (s.corePriv c.val) = none → Completes (x.1 c rd ra imm bad) s
          fun u =>
          Trapped c.val t o f 4 0 a pc s u ∧ Only [.cores, .resv] s u)) ∧
      (∀ disp, (s.core c.val).freeCount = 1 → Completes (.glcCall c disp) s fun u =>
        Trapped c.val t o f 7 0 0 pc s u ∧ u.reg (glcPage c.val) 0x70 = counted (s.reg (glcPage c.val) 0x70) ∧
        RegsBut [regKey (glcPage c.val) 0x70] s u ∧ Only [.cores, .resv, .regs] s u) ∧
      (((s.core c.val).slot w).below = none → s.wsp c.val t ≠ s.wtop c.val t → Completes (.glcRet c) s fun u =>
        Trapped c.val t o f 8 0 0 pc s u ∧ u.reg (glcPage c.val) 0x74 = counted (s.reg (glcPage c.val) 0x74) ∧
        RegsBut [regKey (glcPage c.val) 0x74] s u ∧ Only [.cores, .resv, .regs] s u)) ∧
    (s.inTrap c.val = true → s.rbit (wdtPage 0) 0x40 2 = false →
      (∀ d, d < 4 → d ≠ c.val → s.coreRun d ≠ 1) → ∀ imm, ∀ x ∈ [Instr.glcSvc c imm, .illegalTrap c], Completes x s
        fun u =>
        u.coreRun c.val = 3 ∧ u.rfld (glcPage c.val) 0x44 8 4 = 2 ∧ u.reg (glcPage c.val) 0x4C = pc ∧
        u.rbit (glcPage c.val) 0x10 0 = true ∧ u.rbit (wdtPage c.val) 0x10 0 = true) ∧
    (bkptHalts = true → Completes (.glcBkpt c) s fun u =>
      u.coreRun c.val = 2 ∧ u.cpc c.val = pc + 4 ∧ (∀ r, u.creg c.val r = s.creg c.val r) ∧
      (∀ d, d ≠ c.val → u.core d = s.core d) ∧ u.rbit dbgPage 0x10 0 = true ∧
      PagesBut [dbgPage, glcPage c.val] s u ∧ Only [.regs, .outbox, .cores] s u)

/-- Spilling and filling (R378, R380, R387): WSPILL stores the bottom window of the task with the oldest slot below its
WSP, frees the slot and answers the task; WFILL takes the record at WSP back into a free slot below the bottom window;
each tells in rd where nothing is left to do. -/
def Obligations.CoreWindows : Prop :=
  ∀ (s : State) (c : Fin 4) (t o w : Nat) (rd : BitVec 5), Runs s c.val t o w →
    let x := s.core c.val
    ((∀ i, i < 12 → (x.slot i).valid = true → i ∈ s.spillKept c.val) → Completes (.glcWspill c rd) s fun u =>
      u.creg c.val rd = 0x200#32 ∧ u.cpc c.val = s.cpc c.val + 4 ∧ CoreFrame c.val o w [rd] s u ∧ Only [.cores] s u) ∧
    (∀ i v m m', i < 12 → (x.slot i).valid = true → i ∉ s.spillKept c.val →
      (∀ j, j < 12 → (x.slot j).valid = true → j ∉ s.spillKept c.val → j ≠ i → (x.slot i).age < (x.slot j).age) →
      let tv := (x.slot i).task
      let a := s.wsp c.val tv - 80
      tv < 16 → x.bottomOf tv = some v → v ≠ o → v ≠ w → 80 ≤ s.wsp c.val tv → s.wlim c.val tv ≤ a → a + 80 ≤ 0x100000 →
      let priv := s.taskPriv c.val tv || (tv == t && s.inTrap c.val)
      s.mpu c.val tv a 1 priv = some m → m.cached = false → s.mpu c.val tv (a + 79) 1 priv = some m' → Completes
        (.glcWspill c rd) s fun u =>
        u.creg c.val rd = BitVec.ofNat 32 tv ∧ u.cpc c.val = s.cpc c.val + 4 ∧ ((u.core c.val).slot v).valid = false ∧
        u.readBytes (sramBase + a) 80 = slotRecord (x.slot v) ∧ BytesBut (sramBase + a) 80 s u ∧ u.wsp c.val tv = a ∧
        (∀ r, r ≠ rd → u.creg c.val r = s.creg c.val r) ∧ (∀ d, d ≠ c.val → u.core d = s.core d) ∧
        RegsBut [regKey (tskPage c.val) (tskOff tv 0x10C)] s u ∧ Only [.cores, .mem, .resv, .regs] s u) ∧
    (let a := s.wsp c.val t
     (x.freeCount = 0 ∨ a = s.wtop c.val t → Completes (.glcWfill c rd) s fun u =>
        u.creg c.val rd = (if x.freeCount = 0 then 0x200#32 else 0x400#32) ∧ u.cpc c.val = s.cpc c.val + 4 ∧
        CoreFrame c.val o w [rd] s u ∧ Only [.cores] s u) ∧
     (∀ f b m, x.freeSlot = some f → a ≠ s.wtop c.val t → x.bottomOf t = some b → a + 80 ≤ 0x100000 →
        s.mpu c.val t a 0 (s.corePriv c.val) = some m → m.cached = false → Completes (.glcWfill c rd) s fun u =>
          let y := (u.core c.val).slot f
          u.creg c.val rd = 0#32 ∧ u.cpc c.val = s.cpc c.val + 4 ∧ u.wsp c.val t = a + 80 ∧
          y.valid = true ∧ y.task = t ∧ y.out = false ∧ y.below = none ∧ ((u.core c.val).slot b).below = some f ∧
          (∀ i, i < 8 → y.p.toList.getD i 0 = s.readWord (sramBase + a + 4 * i) ∧
            y.w.toList.getD i 0 = s.readWord (sramBase + a + 32 + 4 * i)) ∧
          y.link = s.readWord (sramBase + a + 64) &&& ~~~3#32 ∧
          (∀ r, r ≠ rd → u.creg c.val r = s.creg c.val r) ∧ (∀ d, d ≠ c.val → u.core d = s.core d) ∧
          RegsBut [regKey (tskPage c.val) (tskOff t 0x10C)] s u ∧ Only [.cores, .regs] s u))

/-- Core c has left task t, whose PC is saved, for task v, whose PC and ST it takes up (R403, R404). -/
def Sys2Proof.Machine.Switched (c t v : Nat) (pc : Word) (s u : State) : Prop :=
  (u.core c).task = some v ∧ u.cpc c = s.reg (tskPage c) (tskOff v 0x104) ∧
  u.cst c = s.reg (tskPage c) (tskOff v 0x108) &&& 0x3F1F#32 ∧ u.taskState c v = 2 ∧ u.taskState c t = 1 ∧
  u.reg (tskPage c) (tskOff t 0x104) = pc ∧ u.rfld (glcPage c) 0x44 4 4 = v ∧
  u.reg (glcPage c) 0x78 = counted (s.reg (glcPage c) 0x78) ∧ (∀ d, d ≠ c → u.core d = s.core d) ∧
  PagesBut [glcPage c, tskPage c] s u

/-- Scheduling and special instructions (R387, R396, R399, R402, R403): YIELD and the end of a slice pass the core to
the next READY task of the same priority, WAIT takes its events or waits, SIGNAL sets an event, MFSR and MTSR read
and write the special registers, the cache instructions clean and drop a line, SECCLR gives up the secure right.
Where it rests on a choice or an inference of the model: log entry 77. -/
def Obligations.CoreSystem : Prop :=
  ∀ (s : State) (c : Fin 4) (t o w : Nat), Runs s c.val t o w →
    let pc := s.cpc c.val
    let ev := tskOff t 0x118
    (∀ v, s.bestTask c.val = some v → v < 16 → s.taskPrio c.val v = s.taskPrio c.val t → s.inTrap c.val = false →
      s.reserved c.val = none → (s.core c.val).outOf v ≠ none →
      (Completes (.glcYield c) s fun u => Switched c.val t v (pc + 4) s u ∧ Only [.cores, .regs, .resv] s u) ∧
      (s.rfld (tskPage c.val) 0x40 0 16 ≠ 0 → Completes (.sliceExpire c) s fun u =>
        Switched c.val t v pc s u ∧ Only [.cores, .regs, .resv] s u)) ∧
    (s.inTrap c.val = true ∨ s.reserved c.val ≠ none ∨ (∀ v, s.bestTask c.val = some v →
        s.taskPrio c.val v < s.taskPrio c.val t) →
      ∀ x ∈ [(Instr.glcYield c, pc + 4), (.sliceExpire c, pc)],
        (x.1 = .sliceExpire c → s.rfld (tskPage c.val) 0x40 0 16 ≠ 0) → Completes x.1 s fun u =>
        u.cpc c.val = x.2 ∧ (u.core c.val).task = some t ∧
        (u.core c.val).order = (s.core c.val).order.filter (· != t) ++ [t] ∧ (∀ r, u.creg c.val r = s.creg c.val r) ∧
        (∀ d, d ≠ c.val → u.core d = s.core d) ∧ Only [.cores] s u) ∧
    (∀ rd ra, let m := s.creg c.val ra
      let e := s.reg (tskPage c.val) ev
      (e &&& m ≠ 0 → Completes (.glcWait c rd ra) s fun u =>
        u.creg c.val rd = e &&& m ∧ u.reg (tskPage c.val) ev = e &&& ~~~m ∧ u.cpc c.val = pc + 4 ∧
        CoreFrame c.val o w [rd] s u ∧ RegsBut [regKey (tskPage c.val) ev] s u ∧ Only [.cores, .regs] s u) ∧
      (e &&& m = 0 → s.inTrap c.val = true ∨ s.reserved c.val ≠ none → Completes (.glcWait c rd ra) s fun u =>
        u.cpc c.val = pc ∧ (u.core c.val).task = some t ∧ u.reserved c.val = s.reserved c.val ∧
        (∀ r, u.creg c.val r = s.creg c.val r) ∧ (∀ d, d ≠ c.val → u.core d = s.core d) ∧ Only [.cores] s u) ∧
      (e &&& m = 0 → s.inTrap c.val = false → s.reserved c.val = none → s.bestTask c.val = none →
        Completes (.glcWait c rd ra) s fun u =>
        u.taskState c.val t = 3 ∧ tget (fun _ => 0) (u.core c.val).masks t = m ∧ (u.core c.val).task = none ∧
        u.reg (tskPage c.val) (tskOff t 0x104) = pc ∧ u.rbit (glcPage c.val) 0x44 16 = true ∧
        (∀ d, d ≠ c.val → u.core d = s.core d) ∧ PagesBut [glcPage c.val, tskPage c.val] s u ∧
        Only [.cores, .regs, .resv] s u)) ∧
    (∀ ra, let v := s.creg c.val ra
      let k := fld v 12 2
      let j := fld v 8 4
      v &&& ~~~0x3F1F#32 = 0 → s.taskState k j ≠ 3 → Completes (.glcSignal c ra) s fun u =>
        u.reg (tskPage k) (tskOff j 0x118) = s.reg (tskPage k) (tskOff j 0x118) ||| BitVec.ofNat 32 (2 ^ fld v 0 5) ∧
        u.cpc c.val = pc + 4 ∧ CoreFrame c.val o w [] s u ∧ RegsBut [regKey (tskPage k) (tskOff j 0x118)] s u ∧
        Only [.cores, .regs] s u) ∧
    (∀ rd, (∀ x ∈ [((1 : Fin 12), (s.core c.val).xpc), (2, (s.core c.val).xst), (3, (s.core c.val).xcause),
        (4, (s.core c.val).xaddr), (5, BitVec.ofNat 32 (t + c.val * 16)), (6, s.reg (tskPage c.val) ev),
        (7, s.reg (tskPage c.val) (tskOff t 0x10C)), (9, BitVec.ofNat 32 s.tbNs),
        (10, BitVec.ofNat 32 ((s.timer c.val t).us s.cycle)), (11, s.linkOf c.val)],
        Completes (.glcMfsr c rd x.1) s fun u =>
          u.creg c.val rd = x.2 ∧ u.cpc c.val = pc + 4 ∧ CoreFrame c.val o w [rd] s u ∧ Only [.cores] s u) ∧
      (∀ n ∈ [(0 : Fin 12), 8], Completes (.glcMfsr c rd n) s fun u =>
        (n = 0 → ∀ i, i < 5 → bit (u.creg c.val rd) i = bit (s.cst c.val) i) ∧ u.cpc c.val = pc + 4 ∧
        CoreFrame c.val o w [rd] s u ∧ Only [.cores, .free] s u)) ∧
    (∀ ra, let v := s.creg c.val ra
      (Completes (.glcMtsr c 0 ra) s fun u =>
        StAfter (s.cst c.val) (u.cst c.val) 15 [bit v 0, bit v 1, bit v 2, bit v 3] ∧ u.cpc c.val = pc + 4 ∧
        CoreFrame c.val o w [] s u ∧ Only [.cores] s u) ∧
      (s.inTrap c.val = true → (Completes (.glcMtsr c 1 ra) s fun u => (u.core c.val).xpc = v ∧
          (u.core c.val).xst = (s.core c.val).xst ∧ u.cpc c.val = pc + 4 ∧ Only [.cores] s u) ∧
        (Completes (.glcMtsr c 2 ra) s fun u => (u.core c.val).xst = v ∧ (u.core c.val).xpc = (s.core c.val).xpc ∧
          u.cpc c.val = pc + 4 ∧ Only [.cores] s u)) ∧
      (Completes (.glcMtsr c 10 ra) s fun u =>
        u.timer c.val t = (if v = 0 then Countdown.zero else Countdown.start v.toNat s.cycle) ∧ u.cpc c.val = pc + 4 ∧
        (∀ r, u.creg c.val r = s.creg c.val r) ∧ (∀ j, j ≠ t → u.timer c.val j = s.timer c.val j) ∧ Only [.cores] s u) ∧
      (Completes (.glcMtsr c 11 ra) s fun u => u.linkOf c.val = v &&& ~~~3#32 ∧ u.cpc c.val = pc + 4 ∧
        (∀ r, u.creg c.val r = s.creg c.val r) ∧ Only [.cores] s u) ∧
      (∀ (n : Fin 12) f, 3 ≤ n.val → n.val ≤ 9 → s.inTrap c.val = false → (s.core c.val).freeSlot = some f →
        Completes (.glcMtsr c n ra) s fun u => Trapped c.val t o f 1 0 0 pc s u ∧ Only [.cores, .resv] s u)) ∧
    (∀ ra, let a := (s.creg c.val ra).toNat
      (Completes (.glcFence c) s fun u => u.cpc c.val = pc + 4 ∧ CoreFrame c.val o w [] s u ∧ Only [.cores] s u) ∧
      (∀ l, (s.core c.val).dfind (a / 64) = some l → l.dirty = true → l.data.length = 64 → a < 0x100000 →
        Completes (.glcCwb c ra) s fun u =>
          (∀ i, i < 64 → u.readByte (sramBase + a / 64 * 64 + i) = l.data.getD i 0) ∧
          BytesBut (sramBase + a / 64 * 64) 64 s u ∧ (u.core c.val).dfind (a / 64) = some { l with dirty := false } ∧
          u.cpc c.val = pc + 4 ∧ (∀ r, u.creg c.val r = s.creg c.val r) ∧ Only [.cores, .mem, .resv] s u) ∧
      (s.corePriv c.val = true → Completes (.glcCinv c ra) s fun u =>
        (u.core c.val).dfind (a / 64) = none ∧ u.cpc c.val = pc + 4 ∧ (∀ r, u.creg c.val r = s.creg c.val r) ∧
        (∀ d, d ≠ c.val → u.core d = s.core d) ∧ Only [.cores] s u) ∧
      (∀ f, s.corePriv c.val = false → (s.core c.val).freeSlot = some f → Completes (.glcCinv c ra) s fun u =>
        Trapped c.val t o f 1 0 0 pc s u ∧ Only [.cores, .resv] s u) ∧
      (Completes (.glcIinv c ra) s fun u =>
        a / 64 ∉ tget (fun _ => []) (u.core c.val).icache (a / 64 % 256) ∧ u.cpc c.val = pc + 4 ∧
        CoreFrame c.val o w [] s u ∧ Only [.cores] s u) ∧
      (Completes (.glcSecclr c) s fun u =>
        u.taskSecure c.val t = false ∧ u.cpc c.val = pc + 4 ∧ CoreFrame c.val o w [] s u ∧
        RegsBut [regKey (tskPage c.val) (tskOff t 0x100)] s u ∧ Only [.cores, .regs] s u))

/-- Task t of core c has taken events `e`; it becomes READY where it waited for one of them (R402). -/
def Sys2Proof.Machine.EventsTaken (c t : Nat) (e : Word) (s u : State) : Prop :=
  let now := s.reg (tskPage c) (tskOff t 0x118) ||| e
  u.reg (tskPage c) (tskOff t 0x118) = now ∧
  u.taskState c t = (if s.taskState c t = 3 ∧ now &&& tget (fun _ => 0) (s.core c).masks t ≠ 0 then 1 else
    s.taskState c t) ∧
  RegsBut [regKey (tskPage c) (tskOff t 0x118), regKey (tskPage c) (tskOff t 0x100)] s u

/-- Tasks and their events, cores held by a bus or a lock, and core reset (R394, R397, R400 to R403): a timer's end,
a message and a write of EVPEND set events, which wake a waiting task and let it take over from one of lower
priority; CTRL starts and ends tasks; CORE_RESET empties a core; an access outstanding is retried or ends in trap
BUS; a forced lock is lost. Where it rests on a choice or an inference of the model: log entries 76, 80, 81, 103. -/
def Obligations.CoreTasks : Prop :=
  ∀ (s : State) (c : Fin 4),
    (NoCoreRuns s →
      (∀ t : Fin 16, (s.timer c.val t.val).since ≠ none → Completes (.tskTimerExpire c t) s fun u =>
        EventsTaken c.val t.val 0x80000000#32 s u ∧ u.timer c.val t.val = Countdown.zero ∧
        (∀ d, d ≠ c.val → u.core d = s.core d) ∧ Only [.cores, .regs] s u) ∧
      (∀ (t : Fin 16) e, Completes (.tskEvpendWrite c t e) s fun u =>
        EventsTaken c.val t.val e s u ∧ u.status = 0 ∧ Only [.regs, .status, .answer] s u) ∧
      (∀ (second : Bool) (msg : Word), Completes (.eventMessageRx second msg) s fun u =>
        EventsTaken (2 * b2n second + fld msg 12 1) (fld msg 8 4) (BitVec.ofNat 32 (2 ^ fld msg 0 5)) s u ∧
        Only [.regs] s u) ∧
      (∀ (t : Fin 16) (v : Word), s.taskState c.val t.val = 0 → bit v 31 = true → Completes (.tskEnableWrite c t v) s
        fun u =>
        u.taskState c.val t.val = 1 ∧ u.taskPrio c.val t.val = fld v 16 4 ∧ u.taskPriv c.val t.val = bit v 8 ∧
        u.taskSecure c.val t.val = s.taskSecure c.val t.val ∧ u.status = 0 ∧
        RegsBut [regKey (tskPage c.val) (tskOff t.val 0x100)] s u ∧ Only [.regs, .status, .answer] s u) ∧
      (∀ (t : Fin 16) (v : Word), s.taskState c.val t.val ≠ 0 → (s.core c.val).task ≠ some t.val → bit v 31 = false →
        Completes (.tskEnableWrite c t v) s fun u =>
          u.taskState c.val t.val = 0 ∧ u.wsp c.val t.val = s.wtop c.val t.val ∧
          (∀ i, i < 12 → ((u.core c.val).slot i).valid = true → ((u.core c.val).slot i).task ≠ t.val) ∧ u.status = 0 ∧
          (∀ d, d ≠ c.val → u.core d = s.core d) ∧ PagesBut [tskPage c.val] s u ∧
          Only [.cores, .regs, .status, .answer] s u)) ∧
    (∀ t o w (v : Fin 16) e, Runs s c.val t o w → s.inTrap c.val = false → s.reserved c.val = none →
      s.taskState c.val v.val = 3 →
      (s.reg (tskPage c.val) (tskOff v.val 0x118) ||| e) &&& tget (fun _ => 0) (s.core c.val).masks v.val ≠ 0 →
      s.taskPrio c.val t < s.taskPrio c.val v.val → v.val ∈ (s.core c.val).order → (s.core c.val).outOf v.val ≠ none →
      Completes (.tskEvpendWrite c v e) s fun u =>
        Switched c.val t v.val (s.cpc c.val) s u ∧ u.status = 0 ∧ Only [.cores, .regs, .resv, .status, .answer] s u) ∧
    (∀ (node : BitVec 8) (port : BitVec 6),
      (isDebug node.toNat port.toNat = true ∨ (∃ k, coreOf node.toNat port.toNat = some k ∧ k ≠ c.val) →
        (s.core c.val).haltAsk = false → Completes (.coreReset c node port) s fun u =>
          (∀ r, u.creg c.val r = 0) ∧ (∀ i, i < 12 → (u.core c.val).slot i = WSlot.free) ∧ (u.core c.val).task = none ∧
          (u.core c.val).dcache = [] ∧ (u.core c.val).icache = [] ∧ (∀ t, t < 16 → u.taskState c.val t = 0) ∧
          u.coreRun c.val = (if s.coreRun c.val = 3 ∧ s.sec.halt = false then 1 else s.coreRun c.val) ∧ u.reserved
            c.val = none ∧ u.status = 0 ∧
          (∀ d, d ≠ c.val → u.core d = s.core d) ∧ PagesBut [glcPage c.val, tskPage c.val] s u ∧
          Only [.cores, .regs, .resv, .status, .answer] s u) ∧
      (coreOf node.toNat port.toNat = some c.val → Completes (.coreReset c node port) s fun u =>
        u.status = 0 ∧ Only [.status, .answer] s u)) ∧
    (∀ (node : BitVec 8) (port : BitVec 6), isDebug node.toNat port.toNat = true → (s.core c.val).haltAsk = true →
      s.coreRun c.val = 1 → Completes (.coreReset c node port) s fun u =>
        u.coreRun c.val = 2 ∧ (u.core c.val).task = none ∧ (u.core c.val).haltAsk = false ∧ u.reserved c.val = none ∧
        u.status = 0) ∧
    (∀ a n p, (s.core c.val).bus = some (a, n) → s.coreTarget c.val a = .aperture p →
      let who : Who := ⟨coreNode c.val, s.corePort c.val, false⟩
      let st := s.busStatus who (p - p % 4) 4 false
      let away := s.heldAt who (p - p % 4) ≠ none ∨ s.seen who.node (p - p % 4) 4 st = 0xF
      (away → Completes (.busRetry c) s fun u => u = s) ∧
      (¬away → st ≠ stUnderTest → Completes (.busRetry c) s fun u =>
        u.core c.val = { s.core c.val with bus := none } ∧ (∀ d, d ≠ c.val → u.core d = s.core d) ∧ Only [.cores] s u) ∧
      (¬away → st = stUnderTest → n + 1 < 64 → Completes (.busRetry c) s fun u =>
        u.core c.val = { s.core c.val with bus := some (a, n + 1) } ∧ (∀ d, d ≠ c.val → u.core d = s.core d) ∧
        Only [.cores] s u)) ∧
    (∀ a n t o w f, (s.core c.val).bus = some (a, n) → (s.core c.val).task = some t → Windows (s.core c.val) t o w →
      (s.core c.val).freeSlot = some f → s.inTrap c.val = false → (∀ d, d < 4 → s.steady d) →
      Completes (.busResponseTimeout c) s fun u =>
        Trapped c.val t o f 6 0xF (BitVec.ofNat 32 a) (s.cpc c.val) s u ∧ (u.core c.val).bus = none ∧
        Only [.cores, .resv] s u) ∧
    (s.reserved c.val ≠ none → (s.core c.val).haltAsk = true → s.coreRun c.val = 1 → (s.core c.val).stepping = false →
      Completes (.lockForce c) s fun u =>
        u.reserved c.val = none ∧ u.coreRun c.val = 2 ∧ (u.core c.val).haltAsk = false ∧
        (∀ d, d ≠ c.val → u.core d = s.core d ∧ u.reserved d = s.reserved d) ∧ PagesBut [dbgPage, glcPage c.val] s u ∧
        Only [.cores, .regs, .outbox, .resv] s u)

/-- Watchdogs (R406 to R409, R413): the key reloads a core's watchdog, another value, enabled or not, or its end is
counted, reported and, by ACTION, reloads it or halts the core; SYNC words reload the fabric watchdog, whose end
brakes the sails; the package watchdog's end resets the package. Where it rests on a choice or an inference of the
model: log entry 75. -/
def Obligations.Watchdogs : Prop :=
  ∀ s : State,
    (∀ c : Fin 4, s.rbit (wdtPage c.val) (wdtOff c.val 0x100) 0 = true →
      (∀ v, (∀ d, d < 4 → s.steady d) → (s.core c.val).wdt.since = some v → Completes (.wdtKick c 0xA5C3#32) s fun u =>
        u.core c.val = { s.core c.val with
          wdt := Countdown.start (s.reg (wdtPage c.val) (wdtOff c.val 0x104)).toNat s.cycle } ∧
        (∀ d, d ≠ c.val → u.core d = s.core d) ∧ u.status = 0 ∧ Only [.cores, .status, .answer] s u) ∧
      (∀ key, key ≠ 0xA5C3#32 → (s.core c.val).wdt.since ≠ none → (∀ d, d < 4 → d ≠ c.val → s.coreRun d ≠ 1) → ∀ x ∈
        [Instr.wdtKick c key, .wdtExpire c],
        (s.steady c.val → s.rbit (wdtPage c.val) (wdtOff c.val 0x100) 2 = false → Completes x s fun u =>
          u.core c.val = { s.core c.val with
            wdt := Countdown.start (s.reg (wdtPage c.val) (wdtOff c.val 0x104)).toNat s.cycle } ∧
          u.reg (wdtPage c.val) (wdtOff c.val 0x114) = counted (s.reg (wdtPage c.val) (wdtOff c.val 0x114)) ∧
          u.rbit (wdtPage c.val) 0x10 0 = true ∧ (∀ d, d ≠ c.val → u.core d = s.core d) ∧
          PagesBut [wdtPage c.val, tskPage 0, tskPage 1, tskPage 2, tskPage 3] s u ∧
          Only [.cores, .regs, .outbox, .status, .answer] s u) ∧
        (s.rbit (wdtPage c.val) (wdtOff c.val 0x100) 2 = true → s.rbit (wdtPage 0) 0x40 2 = false → s.coreRun c.val ≠
          3 →
          Completes x s fun u => u.coreRun c.val = 3 ∧ u.rfld (glcPage c.val) 0x44 8 4 = 3 ∧
            u.rbit (wdtPage c.val) 0x10 0 = true ∧ u.rbit (glcPage c.val) 0x10 0 = true ∧
            Only [.cores, .regs, .outbox, .resv, .status, .answer] s u))) ∧
    (∀ (c : Fin 4) key, key ≠ 0xA5C3#32 → s.rbit (wdtPage c.val) (wdtOff c.val 0x100) 0 = false →
      s.rbit (wdtPage c.val) (wdtOff c.val 0x100) 2 = false → (∀ d, d < 4 → s.coreRun d ≠ 1) → Completes (.wdtKick c
        key) s fun u =>
        u.reg (wdtPage c.val) (wdtOff c.val 0x114) = counted (s.reg (wdtPage c.val) (wdtOff c.val 0x114)) ∧
        u.rbit (wdtPage c.val) 0x10 0 = true ∧ (u.core c.val).wdt.since = none ∧ (∀ d, d ≠ c.val → u.core d = s.core
          d) ∧
        PagesBut [wdtPage c.val, tskPage 0, tskPage 1, tskPage 2, tskPage 3] s u ∧
        Only [.cores, .regs, .outbox, .status, .answer] s u) ∧
    (∀ x, SWord.isIdle x = false →
      (SWord.kind x = 3#2 → SWord.arg x = 3#3 → s.rbit (wdtPage 0) 0x50 0 = true → Completes (.fabSync x) s fun u =>
        u.fabWdt = Countdown.start (s.reg (wdtPage 0) 0x54).toNat s.cycle ∧ Only [.fabWdt] s u) ∧
      (SWord.kind x ≠ 3#2 ∨ SWord.arg x ≠ 3#3 → Completes (.fabSync x) s fun u =>
        u.reg (wdtPage 0) 0x5C = counted (s.reg (wdtPage 0) 0x5C) ∧ RegsBut [regKey (wdtPage 0) 0x5C] s u ∧
        Only [.regs] s u)) ∧
    (s.fabWdt.since ≠ none →
      (s.rbit (wdtPage 0) 0x50 1 = false → Completes .fabExpire s fun u =>
        u.fabWdt = Countdown.zero ∧ u.rbit (wdtPage 0) 0x10 1 = true ∧ PagesBut [wdtPage 0] s u ∧
        Only [.fabWdt, .regs, .outbox] s u) ∧
      (s.rbit (wdtPage 0) 0x50 1 = true → Completes .fabExpire s fun u =>
        u.fabWdt = Countdown.zero ∧ u.rbit (wdtPage 0) 0x10 1 = true ∧ u.braked = true ∧ u.rbit twnPage 0x44 7 = false ∧
        (s.role ≠ 0 → u.role = 5) ∧
        Only [.regs, .outbox, .grps, .braked, .twin, .fabWdt] s u)) ∧
    (s.rbit (wdtPage 0) 0x40 0 = true → Completes (.pkgKick 0xA5C3#32) s fun u =>
      u.pkgWdt = Countdown.start (s.reg (wdtPage 0) 0x44).toNat s.cycle ∧ u.status = 0 ∧
      Only [.pkgWdt, .status, .answer] s u) ∧
    (∀ key, key ≠ 0xA5C3#32 → Completes (.pkgKick key) s fun u => u.status = 0 ∧ Only [.status, .answer] s u) ∧
    (s.pkgWdt.since ≠ none → s.rbit (wdtPage 0) 0x40 0 = true → Completes .pkgExpire s fun u =>
      AfterCapReset s u 5 (!s.rbit (wdtPage 0) 0x40 1))

/-! The whole device. -/

/-- A step takes the command at the front of the queue and runs it on the state with the queue's rest. Where it rests
on a choice or an inference of the model: log entry 1. -/
def Obligations.StepRunsFront : Prop :=
  ∀ (s : State) (c : Instr) (rest : List Instr),
    step { s with pending := c :: rest } = exec c { s with pending := rest }

/-- With nothing waiting a step is one network cycle (the model's choice, log entry 2): the clock of the network
counts and
the queue stays empty. While no output register holds a flit, no load goes on and no core waits for a task, the
timebase advances where the package
is released and stands otherwise, and no core, fuse, pin, axis, trigger, twin link, watchdog, test, board input or
answer
changes. -/
def Obligations.IdleCycle : Prop :=
  ∀ s : State, s.pending = [] → ∃ t, step s = .next t ∧ t.pending = [] ∧ t.cycle = s.cycle + 1 ∧ Only [.regs, .mem,
    .outbox, .cells, .cellCtl, .slots, .tileCtl, .switch, .regions, .cycle, .tb, .tbSlew, .free, .status, .answer,
      .routers, .dieCogs, .cogTab, .gsWait, .capWin, .isolated, .descs, .lru, .atts, .mirrorOut, .mirrorCnt, .axes,
        .encs, .trigs, .banks, .hbmReq, .dmas, .links, .linkEnds, .training, .aligners, .sampleOut, .fuses, .sec,
          .power, .released, .grn, .health, .grps, .pinSet, .calT0, .braked, .capBraked, .twin, .cores, .resv,
            .fabWdt, .pkgWdt, .loader, .bist, .outer, .dbg, .trace, .clearing] s t ∧
    ((∀ n o, s.outNow n o = none) → s.loader.memAt = none → s.loader.waiting = false →
      (∀ c, c < 4 → s.coreRun c = 1 → (s.core c).task ≠ none) →
      t.tb = (if s.releasedTo 0 = 3 then s.tbAdvance.tb else s.tb) ∧
      t.tbSlew = (if s.releasedTo 0 = 3 then s.tbAdvance.tbSlew else s.tbSlew) ∧
      Only [.regs, .mem, .outbox, .cells, .cellCtl, .slots, .tileCtl, .switch, .regions, .cycle, .tb, .tbSlew, .free,
        .routers, .dieCogs, .gsWait, .capWin, .isolated, .descs, .lru, .atts, .mirrorOut, .mirrorCnt, .links, .linkEnds,
        .training, .aligners, .sampleOut, .released, .sec, .twin, .outer] s t)

/-- The device with power-on reset asserted (R337, R492, the reset columns of the register tables): its form is
canonical, nothing waits, no die is released, every core is OFF, every gate CLOSED, the fuses are blank, every byte
reads as unwritten memory, and the registers hold the values of their tables. Where it rests on a choice or an
inference of the model: log entries 3, 4, 5. -/
def Obligations.ResetState : Prop :=
  let s := State.reset
  s.Inv ∧ s.pending = [] ∧ s.outbox = [] ∧ (∀ d, s.releasedTo d = 0) ∧ (∀ c, c < 4 → s.coreRun c = 0) ∧
  (∀ n, nodeExists n = true → s.gate n = gateClosed) ∧ s.fuses.state = 0 ∧ s.board.por = true ∧
  (∀ a, s.readByte a = memReset a) ∧ (∀ r, r < 128 → s.rgnState r = 1) ∧ (∀ k, s.regAt k = resetOfKey k) ∧
  s.reg (pwrPage 0) 0x40 = 450#32 ∧ s.reg (pwrPage 0) 0x48 = 100#32 ∧ s.reg govPage 0x104 = 0x10000#32 ∧
  s.reg (rtrPage 0x45) 0x44 = 0x100#32 ∧ s.reg (wdtPage 0) (wdtOff 0 0x100) = 2#32 ∧ s.reg secPage 0x30 = 0

/-- Every step keeps the canonical forms: addresses of memory and keys of registers rise strictly and no entry equals
what an unlisted one reads as. Where it rests on a choice or an inference of the model: log entry 4. -/
def Obligations.StepKeepsInv : Prop :=
  ∀ s t : State, s.Inv → step s = .next t → t.Inv

/-- No command is refused; one that answers a next state leaves the queue alone; one that faults is a cell operation
whose fields R87 excludes: it faults in every state alike, by that name. Where it rests on a choice or an inference
of the model: log entry 15. -/
def Obligations.CommandOutcomes : Prop :=
  ∀ (c : Instr) (s : State),
    (∀ r, exec c s ≠ .refused r) ∧ (∀ t, exec c s = .next t → t.pending = s.pending) ∧
    (∀ f, exec c s = .fault f → f = .cellEncoding ∧ wellFormed c = false ∧ ∀ s', exec c s' = .fault .cellEncoding)
end

