-- ==== Sys2Proof/Machine/Frames.lean ====
section
/-! DEFINITION. The bits of flits, channels and Filvar frames (R39, R41, R115, R264 to R268). -/

namespace Sys2Proof.Machine

/-! Flits (Table 2-5). -/

def Flit.word (f : Flit) (i : Nat) : SWord := f.words.toList.getD i 0

/-- Data bits of the eight words, word 0 lowest. -/
def Flit.data (f : Flit) : BitVec 256 :=
  let d := fun i => SWord.data (Flit.word f i)
  d 7 ++ d 6 ++ d 5 ++ d 4 ++ d 3 ++ d 2 ++ d 1 ++ d 0

/-- Their tags. -/
def Flit.tags (f : Flit) : BitVec 48 :=
  let t := fun i => SWord.tag (Flit.word f i)
  t 7 ++ t 6 ++ t 5 ++ t 4 ++ t 3 ++ t 2 ++ t 1 ++ t 0

/-- SECDED group g: the data and tags of words 2g and 2g + 1 (R41). -/
def Flit.group (f : Flit) (g : Nat) : BitVec 76 := Flit.word f (2 * g + 1) ++ Flit.word f (2 * g)

/-- The code of the four groups, group 0 lowest. -/
def Flit.code (f : Flit) : BitVec 32 :=
  let c := fun g => Config.flitCode (Flit.group f g)
  c 3 ++ c 2 ++ c 1 ++ c 0

/-- A flit as its injecting port makes it: code, tags, data (Table 2-5). -/
def Flit.bits (f : Flit) : BitVec 336 := Flit.code f ++ Flit.tags f ++ Flit.data f

/-! Channels (Table 6-1). -/

/-- VALID, CLASS, VC, HEAD and TAIL of a flit on a channel, VALID highest. -/
def ChanFlit.sideband (c : ChanFlit) : BitVec 7 := 1#1 ++ BitVec.ofBool c.be ++ c.vc ++ BitVec.ofBool c.head ++ BitVec.ofBool c.tail

def ChanFlit.sbc (c : ChanFlit) : BitVec 5 := Config.sidebandCode (ChanFlit.sideband c)

/-- Hop parity: bit q over flit bits 84q to 84q + 83. -/
def hopParity (b : BitVec 336) : BitVec 4 :=
  let p := fun q => BitVec.ofBool ((List.range 84).foldl (fun x i => x ^^ b.getLsbD (84 * q + i)) false)
  p 3 ++ p 2 ++ p 1 ++ p 0

/-! Frames (Tables 11-2, 11-3, 11-5). -/

/-- A slot of a frame of a die whose round has `rounds` cogs: SAGE counts the cogs since the flit's own (R265). -/
def Slot.bits (rounds cog : Nat) (x : Slot) : BitVec 348 :=
  BitVec.ofNat 4 ((cog + rounds - x.cog) % rounds) ++ BitVec.ofNat 2 x.edge ++ BitVec.ofBool x.flit.tail
    ++ BitVec.ofBool x.flit.head ++ x.flit.vc ++ BitVec.ofBool x.flit.be ++ Flit.bits x.flit.flit

/-- The CREDIT code of edge e (Table 6-1): valid, VC. -/
def Frame.credit (f : Frame) (e : Nat) : BitVec 4 :=
  match f.cred.find? fun c => c.1 == e with
  | some c => BitVec.ofNat 4 (8 + c.2 % 8)
  | none => 0

/-- The control word: its type in bits 63:60 (Table 11-5). -/
def Frame.control (f : Frame) : DWord :=
  match f.svc1 with
  | some (t, v) => BitVec.ofNat 4 t ++ 0#28 ++ v
  | none => 0

/-- The head of a frame. Slots fill from slot 0, so SLOTV has as many low bits set as there are slots.
(DESIGN CHOICE, log entry 44.) -/
def Frame.head (f : Frame) : BitVec 192 :=
  Frame.control f ++ ((f.svc0.map (·.2)).getD 0 : DWord) ++ 0#16
    ++ (Frame.credit f 3 ++ Frame.credit f 2 ++ Frame.credit f 1 ++ Frame.credit f 0)
    ++ BitVec.ofNat 4 (2 ^ f.slots.length - 1) ++ 0#2 ++ BitVec.ofBool f.fence ++ BitVec.ofBool (f.cog == 0) ++ 0#10
    ++ f.round.extractLsb' 0 4 ++ BitVec.ofNat 10 f.cog

/-- The bits of a word, lowest first. -/
def bitsOf {n : Nat} (b : BitVec n) : List Bool := (List.range n).map b.getLsbD

/-- A frame on the link, bit 0 first: its head, then its slots in ascending number. -/
def Frame.bits (rounds : Nat) (f : Frame) : List Bool :=
  bitsOf (Frame.head f) ++ f.slots.flatMap fun x => bitsOf (Slot.bits rounds f.cog x)

end Sys2Proof.Machine
end

