-- ==== Sys2Proof/Laws/Frames.lean ====
section
/-! SUPPORT. The lengths of frames and of fantail messages (R264, R355). -/

namespace Sys2Proof.Laws

open Sys2Proof Sys2Proof.Machine

@[simp] theorem bitsOf_length {n : Nat} (b : BitVec n) : (bitsOf b).length = n := by simp [bitsOf]

/-- A frame has 192 bits of head and 348 bits for each of its slots (Tables 11-2, 11-3). -/
theorem frame_bits_length (rounds : Nat) (f : Frame) : (Frame.bits rounds f).length = 192 + 348 * f.slots.length := by
  simp only [Frame.bits, List.length_append, bitsOf_length, List.length_flatMap]
  induction f.slots with
  | nil => rfl
  | cons x l ih => simp at ih ⊢; omega

/-- The index of the round that a frame carries is the low four bits of the sender's (R264). -/
theorem frame_round (f : Frame) : (Frame.head f).extractLsb' 10 4 = f.round.extractLsb' 0 4 := by
  ext i hi
  simp only [Frame.head, BitVec.getElem_extractLsb', BitVec.getLsbD_append, BitVec.getLsbD_extractLsb']
  simp only [show ¬ 10 + i < 10 by omega, if_false, show 10 + i - 10 = i by omega, hi, if_true, decide_true,
    Bool.true_and]

@[simp] theorem natBytes_length (n v : Nat) : (natBytes n v).length = n := by simp [natBytes]

/-- A message of up to 104 payload bytes is 128 bytes long (Table 15-2). -/
theorem ftMsg_bytes_length (m : FtMsg) (h : m.payload.length ≤ 104) : (FtMsg.bytes m).length = 128 := by
  simp only [FtMsg.bytes, FtMsg.head, List.length_append, natBytes_length, List.length_replicate, wordBytes, List.length_cons, List.length_nil]
  omega

end Sys2Proof.Laws
end

