-- ==== Sys2Proof/Laws/Only.lean ====
section
/-! SUPPORT. `Only`: how what an operation leaves alone is composed. -/

namespace Sys2Proof.Laws

open Sys2Proof Sys2Proof.Machine

theorem same_refl (f : Field) (s : State) : f.same s s := by cases f <;> rfl

theorem same_trans {f : Field} {s t u : State} (h : f.same s t) (h' : f.same t u) : f.same s u := by
  cases f <;> exact Eq.trans h' h

theorem only_refl (fs : List Field) (s : State) : Only fs s s := fun f _ => same_refl f s

theorem only_mono {fs gs : List Field} {s t : State} (h : Only fs s t) (hs : ∀ f ∈ fs, f ∈ gs) : Only gs s t :=
  fun f hf => h f fun hm => hf (hs f hm)

theorem only_trans {fs : List Field} {s t u : State} (h : Only fs s t) (h' : Only fs t u) : Only fs s u :=
  fun f hf => same_trans (h f hf) (h' f hf)

/-- A fold of steps that each leave everything but `fs` alone leaves everything but `fs` alone. -/
theorem only_foldl {α : Type} {fs : List Field} (l : List α) {s u : State} (g : State → α → State)
    (hg : ∀ t x, Only fs t (g t x)) (h : Only fs u s) : Only fs u (l.foldl g s) := by
  induction l generalizing s with
  | nil => exact h
  | cons x l ih => exact ih (only_trans h (hg s x))

theorem only_pending {fs : List Field} (s : State) (v : List Instr) (h : .pending ∈ fs) : Only fs s { s with pending := v } := by
  intro f hf; cases f <;> first | rfl | exact absurd h hf
theorem only_regs {fs : List Field} (s : State) (v : Tbl Word) (h : .regs ∈ fs) : Only fs s { s with regs := v } := by
  intro f hf; cases f <;> first | rfl | exact absurd h hf
theorem only_mem {fs : List Field} (s : State) (v : List Host.Cell) (h : .mem ∈ fs) : Only fs s { s with mem := v } := by
  intro f hf; cases f <;> first | rfl | exact absurd h hf
theorem only_outbox {fs : List Field} (s : State) (v : List Packet) (h : .outbox ∈ fs) : Only fs s { s with outbox := v } := by
  intro f hf; cases f <;> first | rfl | exact absurd h hf
theorem only_cells {fs : List Field} (s : State) (v : Tbl Cell) (h : .cells ∈ fs) : Only fs s { s with cells := v } := by
  intro f hf; cases f <;> first | rfl | exact absurd h hf
theorem only_cellCtl {fs : List Field} (s : State) (v : Tbl DWord) (h : .cellCtl ∈ fs) : Only fs s { s with cellCtl := v } := by
  intro f hf; cases f <;> first | rfl | exact absurd h hf
theorem only_slots {fs : List Field} (s : State) (v : Tbl (BitVec 48)) (h : .slots ∈ fs) : Only fs s { s with slots := v } := by
  intro f hf; cases f <;> first | rfl | exact absurd h hf
theorem only_tileCtl {fs : List Field} (s : State) (v : Tbl DWord) (h : .tileCtl ∈ fs) : Only fs s { s with tileCtl := v } := by
  intro f hf; cases f <;> first | rfl | exact absurd h hf
theorem only_switch {fs : List Field} (s : State) (v : Tbl (BitVec 512)) (h : .switch ∈ fs) : Only fs s { s with switch := v } := by
  intro f hf; cases f <;> first | rfl | exact absurd h hf
theorem only_regions {fs : List Field} (s : State) (v : Tbl Region) (h : .regions ∈ fs) : Only fs s { s with regions := v } := by
  intro f hf; cases f <;> first | rfl | exact absurd h hf
theorem only_cycle {fs : List Field} (s : State) (v : Nat) (h : .cycle ∈ fs) : Only fs s { s with cycle := v } := by
  intro f hf; cases f <;> first | rfl | exact absurd h hf
theorem only_tb {fs : List Field} (s : State) (v : Nat) (h : .tb ∈ fs) : Only fs s { s with tb := v } := by
  intro f hf; cases f <;> first | rfl | exact absurd h hf
theorem only_tbOff {fs : List Field} (s : State) (v : Tbl Int) (h : .tbOff ∈ fs) : Only fs s { s with tbOff := v } := by
  intro f hf; cases f <;> first | rfl | exact absurd h hf
theorem only_tbSlew {fs : List Field} (s : State) (v : Int) (h : .tbSlew ∈ fs) : Only fs s { s with tbSlew := v } := by
  intro f hf; cases f <;> first | rfl | exact absurd h hf
theorem only_free {fs : List Field} (s : State) (v : Nat) (h : .free ∈ fs) : Only fs s { s with free := v } := by
  intro f hf; cases f <;> first | rfl | exact absurd h hf
theorem only_status {fs : List Field} (s : State) (v : BitVec 4) (h : .status ∈ fs) : Only fs s { s with status := v } := by
  intro f hf; cases f <;> first | rfl | exact absurd h hf
theorem only_answer {fs : List Field} (s : State) (v : List Word) (h : .answer ∈ fs) : Only fs s { s with answer := v } := by
  intro f hf; cases f <;> first | rfl | exact absurd h hf
theorem only_routers {fs : List Field} (s : State) (v : Tbl Router) (h : .routers ∈ fs) : Only fs s { s with routers := v } := by
  intro f hf; cases f <;> first | rfl | exact absurd h hf
theorem only_dieCogs {fs : List Field} (s : State) (v : Tbl DieCogs) (h : .dieCogs ∈ fs) : Only fs s { s with dieCogs := v } := by
  intro f hf; cases f <;> first | rfl | exact absurd h hf
theorem only_cogTab {fs : List Field} (s : State) (v : Tbl Word) (h : .cogTab ∈ fs) : Only fs s { s with cogTab := v } := by
  intro f hf; cases f <;> first | rfl | exact absurd h hf
theorem only_gsWait {fs : List Field} (s : State) (v : Tbl (Option Flit)) (h : .gsWait ∈ fs) : Only fs s { s with gsWait := v } := by
  intro f hf; cases f <;> first | rfl | exact absurd h hf
theorem only_capWin {fs : List Field} (s : State) (v : Tbl (Nat × Nat × Nat)) (h : .capWin ∈ fs) : Only fs s { s with capWin := v } := by
  intro f hf; cases f <;> first | rfl | exact absurd h hf
theorem only_isolated {fs : List Field} (s : State) (v : BitVec 9) (h : .isolated ∈ fs) : Only fs s { s with isolated := v } := by
  intro f hf; cases f <;> first | rfl | exact absurd h hf
theorem only_descs {fs : List Field} (s : State) (v : Tbl Desc) (h : .descs ∈ fs) : Only fs s { s with descs := v } := by
  intro f hf; cases f <;> first | rfl | exact absurd h hf
theorem only_lru {fs : List Field} (s : State) (v : List Nat) (h : .lru ∈ fs) : Only fs s { s with lru := v } := by
  intro f hf; cases f <;> first | rfl | exact absurd h hf
theorem only_atts {fs : List Field} (s : State) (v : Tbl Att) (h : .atts ∈ fs) : Only fs s { s with atts := v } := by
  intro f hf; cases f <;> first | rfl | exact absurd h hf
theorem only_mirrorOut {fs : List Field} (s : State) (v : List (Nat × List SWord)) (h : .mirrorOut ∈ fs) : Only fs s { s with mirrorOut := v } := by
  intro f hf; cases f <;> first | rfl | exact absurd h hf
theorem only_mirrorCnt {fs : List Field} (s : State) (v : Tbl Word) (h : .mirrorCnt ∈ fs) : Only fs s { s with mirrorCnt := v } := by
  intro f hf; cases f <;> first | rfl | exact absurd h hf
theorem only_axes {fs : List Field} (s : State) (v : Tbl Axis) (h : .axes ∈ fs) : Only fs s { s with axes := v } := by
  intro f hf; cases f <;> first | rfl | exact absurd h hf
theorem only_encs {fs : List Field} (s : State) (v : Tbl EncChan) (h : .encs ∈ fs) : Only fs s { s with encs := v } := by
  intro f hf; cases f <;> first | rfl | exact absurd h hf
theorem only_trigs {fs : List Field} (s : State) (v : Tbl Trigger) (h : .trigs ∈ fs) : Only fs s { s with trigs := v } := by
  intro f hf; cases f <;> first | rfl | exact absurd h hf
theorem only_samples {fs : List Field} (s : State) (v : Tbl (List GovSample)) (h : .samples ∈ fs) : Only fs s { s with samples := v } := by
  intro f hf; cases f <;> first | rfl | exact absurd h hf
theorem only_sampled {fs : List Field} (s : State) (v : Tbl GovSample) (h : .sampled ∈ fs) : Only fs s { s with sampled := v } := by
  intro f hf; cases f <;> first | rfl | exact absurd h hf
theorem only_banks {fs : List Field} (s : State) (v : Tbl Bank) (h : .banks ∈ fs) : Only fs s { s with banks := v } := by
  intro f hf; cases f <;> first | rfl | exact absurd h hf
theorem only_hbmReq {fs : List Field} (s : State) (v : Tbl (List Packet)) (h : .hbmReq ∈ fs) : Only fs s { s with hbmReq := v } := by
  intro f hf; cases f <;> first | rfl | exact absurd h hf
theorem only_dmas {fs : List Field} (s : State) (v : Tbl Dma) (h : .dmas ∈ fs) : Only fs s { s with dmas := v } := by
  intro f hf; cases f <;> first | rfl | exact absurd h hf
theorem only_links {fs : List Field} (s : State) (v : Tbl Link) (h : .links ∈ fs) : Only fs s { s with links := v } := by
  intro f hf; cases f <;> first | rfl | exact absurd h hf
theorem only_linkEnds {fs : List Field} (s : State) (v : Tbl LinkEnd) (h : .linkEnds ∈ fs) : Only fs s { s with linkEnds := v } := by
  intro f hf; cases f <;> first | rfl | exact absurd h hf
theorem only_training {fs : List Field} (s : State) (v : Training) (h : .training ∈ fs) : Only fs s { s with training := v } := by
  intro f hf; cases f <;> first | rfl | exact absurd h hf
theorem only_aligners {fs : List Field} (s : State) (v : Tbl (List Held)) (h : .aligners ∈ fs) : Only fs s { s with aligners := v } := by
  intro f hf; cases f <;> first | rfl | exact absurd h hf
theorem only_sampleOut {fs : List Field} (s : State) (v : Tbl (List (Nat × DWord × Nat))) (h : .sampleOut ∈ fs) : Only fs s { s with sampleOut := v } := by
  intro f hf; cases f <;> first | rfl | exact absurd h hf
theorem only_fuses {fs : List Field} (s : State) (v : Fuses) (h : .fuses ∈ fs) : Only fs s { s with fuses := v } := by
  intro f hf; cases f <;> first | rfl | exact absurd h hf
theorem only_sec {fs : List Field} (s : State) (v : Sec) (h : .sec ∈ fs) : Only fs s { s with sec := v } := by
  intro f hf; cases f <;> first | rfl | exact absurd h hf
theorem only_power {fs : List Field} (s : State) (v : Power) (h : .power ∈ fs) : Only fs s { s with power := v } := by
  intro f hf; cases f <;> first | rfl | exact absurd h hf
theorem only_board {fs : List Field} (s : State) (v : Board) (h : .board ∈ fs) : Only fs s { s with board := v } := by
  intro f hf; cases f <;> first | rfl | exact absurd h hf
theorem only_released {fs : List Field} (s : State) (v : Tbl Nat) (h : .released ∈ fs) : Only fs s { s with released := v } := by
  intro f hf; cases f <;> first | rfl | exact absurd h hf
theorem only_grn {fs : List Field} (s : State) (v : Grn) (h : .grn ∈ fs) : Only fs s { s with grn := v } := by
  intro f hf; cases f <;> first | rfl | exact absurd h hf
theorem only_health {fs : List Field} (s : State) (v : Health) (h : .health ∈ fs) : Only fs s { s with health := v } := by
  intro f hf; cases f <;> first | rfl | exact absurd h hf
theorem only_grps {fs : List Field} (s : State) (v : Tbl Grp) (h : .grps ∈ fs) : Only fs s { s with grps := v } := by
  intro f hf; cases f <;> first | rfl | exact absurd h hf
theorem only_pinSet {fs : List Field} (s : State) (v : Tbl Bool) (h : .pinSet ∈ fs) : Only fs s { s with pinSet := v } := by
  intro f hf; cases f <;> first | rfl | exact absurd h hf
theorem only_calT0 {fs : List Field} (s : State) (v : Tbl Nat) (h : .calT0 ∈ fs) : Only fs s { s with calT0 := v } := by
  intro f hf; cases f <;> first | rfl | exact absurd h hf
theorem only_braked {fs : List Field} (s : State) (v : Bool) (h : .braked ∈ fs) : Only fs s { s with braked := v } := by
  intro f hf; cases f <;> first | rfl | exact absurd h hf
theorem only_capBraked {fs : List Field} (s : State) (v : Bool) (h : .capBraked ∈ fs) : Only fs s { s with capBraked := v } := by
  intro f hf; cases f <;> first | rfl | exact absurd h hf
theorem only_twin {fs : List Field} (s : State) (v : Twin) (h : .twin ∈ fs) : Only fs s { s with twin := v } := by
  intro f hf; cases f <;> first | rfl | exact absurd h hf
theorem only_cores {fs : List Field} (s : State) (v : Tbl Core) (h : .cores ∈ fs) : Only fs s { s with cores := v } := by
  intro f hf; cases f <;> first | rfl | exact absurd h hf
theorem only_resv {fs : List Field} (s : State) (v : Tbl (Option Nat)) (h : .resv ∈ fs) : Only fs s { s with resv := v } := by
  intro f hf; cases f <;> first | rfl | exact absurd h hf
theorem only_fabWdt {fs : List Field} (s : State) (v : Countdown) (h : .fabWdt ∈ fs) : Only fs s { s with fabWdt := v } := by
  intro f hf; cases f <;> first | rfl | exact absurd h hf
theorem only_pkgWdt {fs : List Field} (s : State) (v : Countdown) (h : .pkgWdt ∈ fs) : Only fs s { s with pkgWdt := v } := by
  intro f hf; cases f <;> first | rfl | exact absurd h hf
theorem only_loader {fs : List Field} (s : State) (v : Loader) (h : .loader ∈ fs) : Only fs s { s with loader := v } := by
  intro f hf; cases f <;> first | rfl | exact absurd h hf
theorem only_bist {fs : List Field} (s : State) (v : Bist) (h : .bist ∈ fs) : Only fs s { s with bist := v } := by
  intro f hf; cases f <;> first | rfl | exact absurd h hf
theorem only_outer {fs : List Field} (s : State) (v : Outer) (h : .outer ∈ fs) : Only fs s { s with outer := v } := by
  intro f hf; cases f <;> first | rfl | exact absurd h hf
theorem only_dbg {fs : List Field} (s : State) (v : Debug) (h : .dbg ∈ fs) : Only fs s { s with dbg := v } := by
  intro f hf; cases f <;> first | rfl | exact absurd h hf
theorem only_trace {fs : List Field} (s : State) (v : Tbl (List Byte)) (h : .trace ∈ fs) : Only fs s { s with trace := v } := by
  intro f hf; cases f <;> first | rfl | exact absurd h hf
theorem only_clearing {fs : List Field} (s : State) (v : BitVec 128) (h : .clearing ∈ fs) : Only fs s { s with clearing := v } := by
  intro f hf; cases f <;> first | rfl | exact absurd h hf

end Sys2Proof.Laws
end

