-- ==== Sys2Proof/Laws/Table.lean ====
section
/-! SUPPORT. The laws of sparse tables: a read after a write, and the canonical form, which every operation keeps. -/

namespace Sys2Proof.Laws

open Sys2Proof.Machine

variable {α : Type}

theorem tget_tins_self (d : Nat → α) (t : Tbl α) (i : Nat) (v : α) : tget d (tins i v t) i = v := by
  induction t with
  | nil => simp [tins, tget]
  | cons e t ih =>
    obtain ⟨k, w⟩ := e
    simp only [tins]
    split
    · simp [tget]
    · split
      · simp [tget]
      · next h1 h2 => simp [tget, Ne.symm h2, ih]

theorem tget_tins_ne (d : Nat → α) (t : Tbl α) (i j : Nat) (v : α) (h : j ≠ i) :
    tget d (tins i v t) j = tget d t j := by
  induction t with
  | nil => simp [tins, tget, Ne.symm h]
  | cons e t ih =>
    obtain ⟨k, w⟩ := e
    simp only [tins]
    split
    · simp [tget, Ne.symm h]
    · split
      · next h2 => subst h2; simp [tget, Ne.symm h]
      · simp [tget, ih]

theorem tget_terase_self (d : Nat → α) (t : Tbl α) (i : Nat) : tget d (terase i t) i = d i := by
  induction t with
  | nil => rfl
  | cons e t ih =>
    obtain ⟨k, w⟩ := e
    by_cases h : k = i
    · simpa [terase, h] using ih
    · simpa [terase, h, tget] using ih

theorem tget_terase_ne (d : Nat → α) (t : Tbl α) (i j : Nat) (h : j ≠ i) :
    tget d (terase i t) j = tget d t j := by
  induction t with
  | nil => rfl
  | cons e t ih =>
    obtain ⟨k, w⟩ := e
    by_cases hk : k = i
    · subst hk
      simpa [terase, tget, Ne.symm h] using ih
    · by_cases hj : k = j
      · subst hj; simp [terase, h, tget]
      · simpa [terase, hk, tget, hj] using ih

@[simp] theorem tget_tset_self [DecidableEq α] (d : Nat → α) (t : Tbl α) (i : Nat) (v : α) :
    tget d (tset d t i v) i = v := by
  unfold tset
  split
  · next h => rw [tget_terase_self, h]
  · exact tget_tins_self d t i v

theorem tget_tset_ne [DecidableEq α] (d : Nat → α) (t : Tbl α) (i j : Nat) (v : α) (h : j ≠ i) :
    tget d (tset d t i v) j = tget d t j := by
  unfold tset
  split
  · exact tget_terase_ne d t i j h
  · exact tget_tins_ne d t i j v h

theorem tget_tset [DecidableEq α] (d : Nat → α) (t : Tbl α) (i j : Nat) (v : α) :
    tget d (tset d t i v) j = if j = i then v else tget d t j := by
  split
  · next h => subst h; simp
  · next h => exact tget_tset_ne d t i j v h

theorem tsortedFrom_mono {t : Tbl α} {l l' : Nat} (h : l ≤ l') (hs : tsortedFrom (some l') t = true) :
    tsortedFrom (some l) t = true := by
  cases t with
  | nil => rfl
  | cons e t =>
    obtain ⟨k, w⟩ := e
    simp only [tsortedFrom, Bool.and_eq_true, decide_eq_true_eq] at hs ⊢
    exact ⟨by omega, hs.2⟩

theorem tsortedFrom_filter {t : Tbl α} {l : Nat} (p : Nat × α → Bool) (hs : tsortedFrom (some l) t = true) :
    tsortedFrom (some l) (t.filter p) = true := by
  induction t generalizing l with
  | nil => rfl
  | cons e t ih =>
    obtain ⟨k, w⟩ := e
    simp only [tsortedFrom, Bool.and_eq_true, decide_eq_true_eq] at hs
    by_cases hp : p (k, w)
    · simp only [List.filter_cons_of_pos hp, tsortedFrom, Bool.and_eq_true, decide_eq_true_eq]
      exact ⟨hs.1, ih hs.2⟩
    · rw [List.filter_cons_of_neg hp]
      exact ih (tsortedFrom_mono (by omega) hs.2)

theorem tsorted_filter {t : Tbl α} (p : Nat × α → Bool) (hs : tsortedFrom none t = true) :
    tsortedFrom none (t.filter p) = true := by
  induction t with
  | nil => rfl
  | cons e t ih =>
    obtain ⟨k, w⟩ := e
    simp only [tsortedFrom] at hs
    by_cases hp : p (k, w)
    · simpa only [List.filter_cons_of_pos hp, tsortedFrom] using tsortedFrom_filter p hs
    · rw [List.filter_cons_of_neg hp]
      apply ih
      cases t with
      | nil => rfl
      | cons e t =>
        obtain ⟨k', w'⟩ := e
        simp only [tsortedFrom, Bool.and_eq_true] at hs ⊢
        exact hs.2

theorem tsortedFrom_tins {t : Tbl α} {l i : Nat} (v : α) (hl : l < i) (hs : tsortedFrom (some l) t = true) :
    tsortedFrom (some l) (tins i v t) = true := by
  induction t generalizing l with
  | nil => simp [tins, tsortedFrom, hl]
  | cons e t ih =>
    obtain ⟨k, w⟩ := e
    simp only [tsortedFrom, Bool.and_eq_true, decide_eq_true_eq] at hs
    simp only [tins]
    split
    · next h => simp [tsortedFrom, hl, h, hs.2]
    · split
      · next h => subst h; simp [tsortedFrom, hl, hs.2]
      · next h1 h2 =>
        simp only [tsortedFrom, Bool.and_eq_true, decide_eq_true_eq]
        exact ⟨hs.1, ih (by omega) hs.2⟩

theorem tsorted_tins {t : Tbl α} {i : Nat} (v : α) (hs : tsortedFrom none t = true) :
    tsortedFrom none (tins i v t) = true := by
  cases t with
  | nil => rfl
  | cons e t =>
    obtain ⟨k, w⟩ := e
    simp only [tsortedFrom] at hs
    simp only [tins]
    split
    · next h => simp [tsortedFrom, h, hs]
    · split
      · next h => subst h; simpa [tsortedFrom] using hs
      · next h1 h2 => simpa [tsortedFrom] using tsortedFrom_tins v (by omega) hs

theorem mem_tins {t : Tbl α} {i : Nat} {v : α} {e : Nat × α} (h : e ∈ tins i v t) : e = (i, v) ∨ e ∈ t := by
  induction t with
  | nil => simpa [tins] using h
  | cons x t ih =>
    obtain ⟨k, w⟩ := x
    simp only [tins] at h
    split at h
    · simpa using h
    · split at h
      · rcases List.mem_cons.mp h with h | h
        · exact .inl h
        · exact .inr (List.mem_cons_of_mem _ h)
      · rcases List.mem_cons.mp h with h | h
        · exact .inr (by simp [h])
        · rcases ih h with h | h
          · exact .inl h
          · exact .inr (List.mem_cons_of_mem _ h)

/-- A write keeps the canonical form. -/
theorem twf_tset [DecidableEq α] {d : Nat → α} {t : Tbl α} (i : Nat) (v : α) (h : twf d t = true) :
    twf d (tset d t i v) = true := by
  simp only [twf, Bool.and_eq_true, List.all_eq_true] at h ⊢
  unfold tset
  split
  · exact ⟨tsorted_filter _ h.1, fun e he => h.2 e (List.mem_filter.mp he).1⟩
  · next hv =>
    refine ⟨tsorted_tins v h.1, fun e he => ?_⟩
    rcases mem_tins he with rfl | he
    · simpa using hv
    · exact h.2 e he

/-- Dropping keys keeps the canonical form. -/
theorem twf_tdrop [DecidableEq α] {d : Nat → α} {t : Tbl α} (p : Nat → Bool) (h : twf d t = true) :
    twf d (tdrop p t) = true := by
  simp only [twf, Bool.and_eq_true, List.all_eq_true] at h ⊢
  exact ⟨tsorted_filter _ h.1, fun e he => h.2 e (List.mem_filter.mp he).1⟩

@[simp] theorem twf_nil [DecidableEq α] {d : Nat → α} : twf d ([] : Tbl α) = true := rfl

end Sys2Proof.Laws
end

