-- ==== Sys2Proof/Laws/Ops.lean ====
section
/-! SUPPORT. What the shared operations over registers, memory and events can do, said once each. -/

namespace Sys2Proof.Laws

open Sys2Proof Sys2Proof.Machine

/-! Bit fields. -/

theorem putFld_toNat_bit (w : Word) (lo len v i : Nat) (hi : i < 32) :
    (putFld w lo len v).getLsbD i =
      if lo ≤ i ∧ i < lo + len then v.testBit (i - lo) else w.getLsbD i := by
  have hm : ((2 ^ len - 1) * 2 ^ lo).testBit i = decide (lo ≤ i ∧ i < lo + len) := by
    rw [Nat.testBit_mul_two_pow, Nat.testBit_two_pow_sub_one]
    by_cases h : lo ≤ i
    · simp [h, show (i - lo < len) ↔ (i < lo + len) by omega]
    · simp [h]
  have hv : (v % 2 ^ len * 2 ^ lo).testBit i = (decide (lo ≤ i ∧ i < lo + len) && v.testBit (i - lo)) := by
    rw [Nat.testBit_mul_two_pow, Nat.testBit_mod_two_pow]
    by_cases h : lo ≤ i
    · simp [h, show (i - lo < len) ↔ (i < lo + len) by omega]
    · simp [h]
  simp only [putFld, BitVec.getLsbD_or, BitVec.getLsbD_and, BitVec.getLsbD_not, BitVec.getLsbD_ofNat, hm, hv, hi]
  by_cases h : lo ≤ i ∧ i < lo + len <;> simp [h]

theorem fld_testBit (w : Word) (lo len i : Nat) :
    (fld w lo len).testBit i = (decide (i < len) && w.getLsbD (lo + i)) := by
  simp [fld, Nat.testBit_mod_two_pow, Nat.testBit_div_two_pow, BitVec.getLsbD, Nat.add_comm]

/-- A field reads back what was put into it. -/
theorem fld_putFld (w : Word) (lo len v : Nat) (h : lo + len ≤ 32) : fld (putFld w lo len v) lo len = v % 2 ^ len := by
  apply Nat.eq_of_testBit_eq
  intro i
  rw [fld_testBit, Nat.testBit_mod_two_pow]
  by_cases hi : i < len
  · rw [putFld_toNat_bit _ _ _ _ _ (by omega), if_pos (by omega)]
    simp [hi]
  · simp [hi]

/-- Putting a field leaves every other field alone. -/
theorem fld_putFld_other (w : Word) (lo len v lo' len' : Nat) (h' : lo' + len' ≤ 32)
    (h : lo + len ≤ lo' ∨ lo' + len' ≤ lo) : fld (putFld w lo len v) lo' len' = fld w lo' len' := by
  apply Nat.eq_of_testBit_eq
  intro i
  rw [fld_testBit, fld_testBit]
  by_cases hi : i < len'
  · rw [putFld_toNat_bit _ _ _ _ _ (by omega), if_neg (by omega)]
  · simp [hi]

theorem bit_putFld_other (w : Word) (lo len v i : Nat) (hi : i < 32) (h : i < lo ∨ lo + len ≤ i) :
    bit (putFld w lo len v) i = bit w i := by
  unfold bit
  rw [putFld_toNat_bit _ _ _ _ _ hi, if_neg (by omega)]

theorem bit_putFld_self (w : Word) (i : Nat) (b : Bool) (hi : i < 32) : bit (putFld w i 1 (b2n b)) i = b := by
  unfold bit
  rw [putFld_toNat_bit _ _ _ _ _ hi, if_pos (by omega)]
  cases b <;> simp [b2n]

/-! Registers. -/

/-- The stored value at a key, as `State.reg` reads it. -/
@[simp] theorem reg_setReg_self (s : State) (p : Page) (o : Nat) (v : Word) : (s.setReg p o v).reg p o = v := by
  simp [State.reg, State.setReg]

theorem regs_setReg (s : State) (p : Page) (o k : Nat) (v : Word) :
    tget resetOfKey (s.setReg p o v).regs k = if k = regKey p o then v else tget resetOfKey s.regs k := by
  simp [State.setReg, tget_tset]

theorem reg_setReg_ne (s : State) (p q : Page) (o o' : Nat) (v : Word) (h : regKey q o' ≠ regKey p o) :
    (s.setReg p o v).reg q o' = s.reg q o' := by
  simp [State.reg, State.setReg, tget_tset, h]

/-- Offsets of one page name different registers. -/
theorem regKey_off (p : Page) (o o' : Nat) : regKey p o = regKey p o' ↔ o = o' := by
  simp [regKey]

theorem reg_setReg_off (s : State) (p : Page) (o o' : Nat) (v : Word) (h : o' ≠ o) :
    (s.setReg p o v).reg p o' = s.reg p o' :=
  reg_setReg_ne s p p o o' v (by rwa [Ne, regKey_off])

theorem rfld_setFld_self (s : State) (p : Page) (o lo len v : Nat) (h : lo + len ≤ 32) :
    (s.setFld p o lo len v).rfld p o lo len = v % 2 ^ len := by
  simp [State.rfld, State.setFld, fld_putFld _ _ _ _ h]

theorem rbit_setBit_self (s : State) (p : Page) (o i : Nat) (b : Bool) (h : i < 32) :
    (s.setBit p o i b).rbit p o i = b := by
  simp [State.rbit, State.setBit, State.setFld, bit_putFld_self _ _ _ h]

theorem rfld_bumpFld (s : State) (p : Page) (o lo len n : Nat) (h : lo + len ≤ 32) :
    (s.bumpFld p o lo len n).rfld p o lo len = satAdd len (s.rfld p o lo len) n := by
  rw [State.bumpFld, rfld_setFld_self _ _ _ _ _ _ h, satAdd]
  have : 0 < 2 ^ len := Nat.two_pow_pos len
  exact Nat.mod_eq_of_lt (by omega)

/-! Events (R486, R487): only registers of the page and the packets waiting for a router change. -/

theorem notify_only (s : State) (p : Page) (e : Nat) : ∃ o, s.notify p e = { s with outbox := o } := by
  unfold State.notify
  dsimp only
  split
  · exact ⟨_, rfl⟩
  · exact ⟨_, rfl⟩
  · exact ⟨s.outbox, rfl⟩

theorem capture_only (s : State) (p : Page) (w : Word) (a : DWord) : ∃ r, s.capture p w a = { s with regs := r } := by
  unfold State.capture
  split <;> exact ⟨_, rfl⟩

theorem event_only (s : State) (p : Page) (e : Nat) : ∃ r o, s.event p e = { s with regs := r, outbox := o } := by
  unfold State.event
  dsimp only
  split
  · obtain ⟨o, h⟩ := notify_only (s.setBit p 0x10 e true) p e
    exact ⟨_, o, h⟩
  · exact ⟨_, s.outbox, rfl⟩

theorem raise_only (s : State) (p : Page) (e : Nat) (w : Word) (a : DWord) :
    ∃ r o, s.raise p e w a = { s with regs := r, outbox := o } := by
  unfold State.raise
  obtain ⟨r, h⟩ := capture_only s p w a
  obtain ⟨r', o, h'⟩ := event_only (s.capture p w a) p e
  exact ⟨r', o, by rw [h', h]⟩

/-! Memory. -/

@[simp] theorem readByte_writeByte_self (s : State) (a : Nat) (v : Byte) : (s.writeByte a v).readByte a = v := by
  simp [State.readByte, State.writeByte]

theorem readByte_writeByte_ne (s : State) (a b : Nat) (v : Byte) (h : b ≠ a) :
    (s.writeByte a v).readByte b = s.readByte b := by
  simp [State.readByte, State.writeByte, tget_tset, h]

/-- A write of bytes changes memory alone. -/
theorem writeBytes_only (l : List Byte) (s : State) (a : Nat) : ∃ m, s.writeBytes a l = { s with mem := m } := by
  induction l generalizing s a with
  | nil => exact ⟨s.mem, rfl⟩
  | cons b l ih =>
    obtain ⟨m, h⟩ := ih (s.writeByte a b) (a + 1)
    exact ⟨m, h⟩

/-- A byte that a write does not reach reads as before; a byte it reaches reads as written. -/
theorem readByte_writeBytes (l : List Byte) (s : State) (a b : Nat) :
    (s.writeBytes a l).readByte b = if a ≤ b ∧ b < a + l.length then l.getD (b - a) 0 else s.readByte b := by
  induction l generalizing s a with
  | nil => simp [State.writeBytes, show ¬(a ≤ b ∧ b < a) by omega]
  | cons x l ih =>
    rw [State.writeBytes, ih]
    by_cases hb : b = a
    · subst hb
      rw [if_neg (by omega), if_pos (by simp)]
      simp
    · by_cases h : a ≤ b ∧ b < a + (l.length + 1)
      · rw [if_pos (by omega), if_pos (by simpa using h)]
        obtain ⟨k, rfl⟩ : ∃ k, b = a + 1 + k := ⟨b - (a + 1), by omega⟩
        simp [show a + 1 + k - a = k + 1 by omega]
      · rw [if_neg (by omega), if_neg (by simpa using h), readByte_writeByte_ne _ _ _ _ hb]

/-- Every memory operation keeps the canonical form. -/
theorem memWf_writeByte {s : State} (a : Nat) (v : Byte) (h : twf memReset s.mem = true) :
    twf memReset (s.writeByte a v).mem = true := twf_tset a v h

theorem memWf_writeBytes (l : List Byte) {s : State} (a : Nat) (h : twf memReset s.mem = true) :
    twf memReset (s.writeBytes a l).mem = true := by
  induction l generalizing s a with
  | nil => exact h
  | cons b l ih => exact ih (a + 1) (memWf_writeByte a b h)

theorem memWf_writeMem (l : List Byte) {s : State} (a : Nat) (h : twf memReset s.mem = true) :
    twf memReset (s.writeMem a l).mem = true := memWf_writeBytes l a h

theorem memWf_writeWord {s : State} (a : Nat) (w : Word) (h : twf memReset s.mem = true) :
    twf memReset (s.writeWord a w).mem = true := memWf_writeBytes _ a h

theorem memWf_writeDWord {s : State} (a : Nat) (w : DWord) (h : twf memReset s.mem = true) :
    twf memReset (s.writeDWord a w).mem = true := memWf_writeWord _ _ (memWf_writeWord _ _ h)

theorem memWf_clearBytes {s : State} (a n : Nat) (h : twf memReset s.mem = true) :
    twf memReset (s.clearBytes a n).mem = true := by
  exact twf_tdrop (fun k => decide (a ≤ k ∧ k < a + n)) h

end Sys2Proof.Laws
end

