-- ==== Sys2Proof/Laws/State.lean ====
section
/-! SUPPORT. What each named update of the state leaves alone: one lemma per field and update, true by computation. -/

namespace Sys2Proof.Laws

open Sys2Proof Sys2Proof.Machine

variable (s : State)

@[simp] theorem setReg_pending (p : Page) (o : Nat) (v : Word) : (s.setReg p o v).pending = s.pending := by delta State.setReg; rfl
@[simp] theorem setReg_mem (p : Page) (o : Nat) (v : Word) : (s.setReg p o v).mem = s.mem := by delta State.setReg; rfl
@[simp] theorem setReg_outbox (p : Page) (o : Nat) (v : Word) : (s.setReg p o v).outbox = s.outbox := by delta State.setReg; rfl
@[simp] theorem setReg_cells (p : Page) (o : Nat) (v : Word) : (s.setReg p o v).cells = s.cells := by delta State.setReg; rfl
@[simp] theorem setReg_cellCtl (p : Page) (o : Nat) (v : Word) : (s.setReg p o v).cellCtl = s.cellCtl := by delta State.setReg; rfl
@[simp] theorem setReg_slots (p : Page) (o : Nat) (v : Word) : (s.setReg p o v).slots = s.slots := by delta State.setReg; rfl
@[simp] theorem setReg_tileCtl (p : Page) (o : Nat) (v : Word) : (s.setReg p o v).tileCtl = s.tileCtl := by delta State.setReg; rfl
@[simp] theorem setReg_switch (p : Page) (o : Nat) (v : Word) : (s.setReg p o v).switch = s.switch := by delta State.setReg; rfl
@[simp] theorem setReg_regions (p : Page) (o : Nat) (v : Word) : (s.setReg p o v).regions = s.regions := by delta State.setReg; rfl
@[simp] theorem setReg_cycle (p : Page) (o : Nat) (v : Word) : (s.setReg p o v).cycle = s.cycle := by delta State.setReg; rfl
@[simp] theorem setReg_tb (p : Page) (o : Nat) (v : Word) : (s.setReg p o v).tb = s.tb := by delta State.setReg; rfl
@[simp] theorem setReg_tbOff (p : Page) (o : Nat) (v : Word) : (s.setReg p o v).tbOff = s.tbOff := by delta State.setReg; rfl
@[simp] theorem setReg_tbSlew (p : Page) (o : Nat) (v : Word) : (s.setReg p o v).tbSlew = s.tbSlew := by delta State.setReg; rfl
@[simp] theorem setReg_free (p : Page) (o : Nat) (v : Word) : (s.setReg p o v).free = s.free := by delta State.setReg; rfl
@[simp] theorem setReg_status (p : Page) (o : Nat) (v : Word) : (s.setReg p o v).status = s.status := by delta State.setReg; rfl
@[simp] theorem setReg_answer (p : Page) (o : Nat) (v : Word) : (s.setReg p o v).answer = s.answer := by delta State.setReg; rfl
@[simp] theorem setReg_routers (p : Page) (o : Nat) (v : Word) : (s.setReg p o v).routers = s.routers := by delta State.setReg; rfl
@[simp] theorem setReg_dieCogs (p : Page) (o : Nat) (v : Word) : (s.setReg p o v).dieCogs = s.dieCogs := by delta State.setReg; rfl
@[simp] theorem setReg_cogTab (p : Page) (o : Nat) (v : Word) : (s.setReg p o v).cogTab = s.cogTab := by delta State.setReg; rfl
@[simp] theorem setReg_gsWait (p : Page) (o : Nat) (v : Word) : (s.setReg p o v).gsWait = s.gsWait := by delta State.setReg; rfl
@[simp] theorem setReg_capWin (p : Page) (o : Nat) (v : Word) : (s.setReg p o v).capWin = s.capWin := by delta State.setReg; rfl
@[simp] theorem setReg_isolated (p : Page) (o : Nat) (v : Word) : (s.setReg p o v).isolated = s.isolated := by delta State.setReg; rfl
@[simp] theorem setReg_descs (p : Page) (o : Nat) (v : Word) : (s.setReg p o v).descs = s.descs := by delta State.setReg; rfl
@[simp] theorem setReg_lru (p : Page) (o : Nat) (v : Word) : (s.setReg p o v).lru = s.lru := by delta State.setReg; rfl
@[simp] theorem setReg_atts (p : Page) (o : Nat) (v : Word) : (s.setReg p o v).atts = s.atts := by delta State.setReg; rfl
@[simp] theorem setReg_mirrorOut (p : Page) (o : Nat) (v : Word) : (s.setReg p o v).mirrorOut = s.mirrorOut := by delta State.setReg; rfl
@[simp] theorem setReg_mirrorCnt (p : Page) (o : Nat) (v : Word) : (s.setReg p o v).mirrorCnt = s.mirrorCnt := by delta State.setReg; rfl
@[simp] theorem setReg_axes (p : Page) (o : Nat) (v : Word) : (s.setReg p o v).axes = s.axes := by delta State.setReg; rfl
@[simp] theorem setReg_encs (p : Page) (o : Nat) (v : Word) : (s.setReg p o v).encs = s.encs := by delta State.setReg; rfl
@[simp] theorem setReg_trigs (p : Page) (o : Nat) (v : Word) : (s.setReg p o v).trigs = s.trigs := by delta State.setReg; rfl
@[simp] theorem setReg_samples (p : Page) (o : Nat) (v : Word) : (s.setReg p o v).samples = s.samples := by delta State.setReg; rfl
@[simp] theorem setReg_sampled (p : Page) (o : Nat) (v : Word) : (s.setReg p o v).sampled = s.sampled := by delta State.setReg; rfl
@[simp] theorem setReg_banks (p : Page) (o : Nat) (v : Word) : (s.setReg p o v).banks = s.banks := by delta State.setReg; rfl
@[simp] theorem setReg_hbmReq (p : Page) (o : Nat) (v : Word) : (s.setReg p o v).hbmReq = s.hbmReq := by delta State.setReg; rfl
@[simp] theorem setReg_dmas (p : Page) (o : Nat) (v : Word) : (s.setReg p o v).dmas = s.dmas := by delta State.setReg; rfl
@[simp] theorem setReg_links (p : Page) (o : Nat) (v : Word) : (s.setReg p o v).links = s.links := by delta State.setReg; rfl
@[simp] theorem setReg_linkEnds (p : Page) (o : Nat) (v : Word) : (s.setReg p o v).linkEnds = s.linkEnds := by delta State.setReg; rfl
@[simp] theorem setReg_training (p : Page) (o : Nat) (v : Word) : (s.setReg p o v).training = s.training := by delta State.setReg; rfl
@[simp] theorem setReg_aligners (p : Page) (o : Nat) (v : Word) : (s.setReg p o v).aligners = s.aligners := by delta State.setReg; rfl
@[simp] theorem setReg_sampleOut (p : Page) (o : Nat) (v : Word) : (s.setReg p o v).sampleOut = s.sampleOut := by delta State.setReg; rfl
@[simp] theorem setReg_fuses (p : Page) (o : Nat) (v : Word) : (s.setReg p o v).fuses = s.fuses := by delta State.setReg; rfl
@[simp] theorem setReg_sec (p : Page) (o : Nat) (v : Word) : (s.setReg p o v).sec = s.sec := by delta State.setReg; rfl
@[simp] theorem setReg_power (p : Page) (o : Nat) (v : Word) : (s.setReg p o v).power = s.power := by delta State.setReg; rfl
@[simp] theorem setReg_board (p : Page) (o : Nat) (v : Word) : (s.setReg p o v).board = s.board := by delta State.setReg; rfl
@[simp] theorem setReg_released (p : Page) (o : Nat) (v : Word) : (s.setReg p o v).released = s.released := by delta State.setReg; rfl
@[simp] theorem setReg_grn (p : Page) (o : Nat) (v : Word) : (s.setReg p o v).grn = s.grn := by delta State.setReg; rfl
@[simp] theorem setReg_health (p : Page) (o : Nat) (v : Word) : (s.setReg p o v).health = s.health := by delta State.setReg; rfl
@[simp] theorem setReg_grps (p : Page) (o : Nat) (v : Word) : (s.setReg p o v).grps = s.grps := by delta State.setReg; rfl
@[simp] theorem setReg_pinSet (p : Page) (o : Nat) (v : Word) : (s.setReg p o v).pinSet = s.pinSet := by delta State.setReg; rfl
@[simp] theorem setReg_calT0 (p : Page) (o : Nat) (v : Word) : (s.setReg p o v).calT0 = s.calT0 := by delta State.setReg; rfl
@[simp] theorem setReg_braked (p : Page) (o : Nat) (v : Word) : (s.setReg p o v).braked = s.braked := by delta State.setReg; rfl
@[simp] theorem setReg_capBraked (p : Page) (o : Nat) (v : Word) : (s.setReg p o v).capBraked = s.capBraked := by delta State.setReg; rfl
@[simp] theorem setReg_twin (p : Page) (o : Nat) (v : Word) : (s.setReg p o v).twin = s.twin := by delta State.setReg; rfl
@[simp] theorem setReg_cores (p : Page) (o : Nat) (v : Word) : (s.setReg p o v).cores = s.cores := by delta State.setReg; rfl
@[simp] theorem setReg_resv (p : Page) (o : Nat) (v : Word) : (s.setReg p o v).resv = s.resv := by delta State.setReg; rfl
@[simp] theorem setReg_fabWdt (p : Page) (o : Nat) (v : Word) : (s.setReg p o v).fabWdt = s.fabWdt := by delta State.setReg; rfl
@[simp] theorem setReg_pkgWdt (p : Page) (o : Nat) (v : Word) : (s.setReg p o v).pkgWdt = s.pkgWdt := by delta State.setReg; rfl
@[simp] theorem setReg_loader (p : Page) (o : Nat) (v : Word) : (s.setReg p o v).loader = s.loader := by delta State.setReg; rfl
@[simp] theorem setReg_bist (p : Page) (o : Nat) (v : Word) : (s.setReg p o v).bist = s.bist := by delta State.setReg; rfl
@[simp] theorem setReg_outer (p : Page) (o : Nat) (v : Word) : (s.setReg p o v).outer = s.outer := by delta State.setReg; rfl
@[simp] theorem setReg_dbg (p : Page) (o : Nat) (v : Word) : (s.setReg p o v).dbg = s.dbg := by delta State.setReg; rfl
@[simp] theorem setReg_trace (p : Page) (o : Nat) (v : Word) : (s.setReg p o v).trace = s.trace := by delta State.setReg; rfl
@[simp] theorem setReg_clearing (p : Page) (o : Nat) (v : Word) : (s.setReg p o v).clearing = s.clearing := by delta State.setReg; rfl

@[simp] theorem setFld_pending (p : Page) (o l n v : Nat) : (s.setFld p o l n v).pending = s.pending := by delta State.setFld State.setReg; rfl
@[simp] theorem setFld_mem (p : Page) (o l n v : Nat) : (s.setFld p o l n v).mem = s.mem := by delta State.setFld State.setReg; rfl
@[simp] theorem setFld_outbox (p : Page) (o l n v : Nat) : (s.setFld p o l n v).outbox = s.outbox := by delta State.setFld State.setReg; rfl
@[simp] theorem setFld_cells (p : Page) (o l n v : Nat) : (s.setFld p o l n v).cells = s.cells := by delta State.setFld State.setReg; rfl
@[simp] theorem setFld_cellCtl (p : Page) (o l n v : Nat) : (s.setFld p o l n v).cellCtl = s.cellCtl := by delta State.setFld State.setReg; rfl
@[simp] theorem setFld_slots (p : Page) (o l n v : Nat) : (s.setFld p o l n v).slots = s.slots := by delta State.setFld State.setReg; rfl
@[simp] theorem setFld_tileCtl (p : Page) (o l n v : Nat) : (s.setFld p o l n v).tileCtl = s.tileCtl := by delta State.setFld State.setReg; rfl
@[simp] theorem setFld_switch (p : Page) (o l n v : Nat) : (s.setFld p o l n v).switch = s.switch := by delta State.setFld State.setReg; rfl
@[simp] theorem setFld_regions (p : Page) (o l n v : Nat) : (s.setFld p o l n v).regions = s.regions := by delta State.setFld State.setReg; rfl
@[simp] theorem setFld_cycle (p : Page) (o l n v : Nat) : (s.setFld p o l n v).cycle = s.cycle := by delta State.setFld State.setReg; rfl
@[simp] theorem setFld_tb (p : Page) (o l n v : Nat) : (s.setFld p o l n v).tb = s.tb := by delta State.setFld State.setReg; rfl
@[simp] theorem setFld_tbOff (p : Page) (o l n v : Nat) : (s.setFld p o l n v).tbOff = s.tbOff := by delta State.setFld State.setReg; rfl
@[simp] theorem setFld_tbSlew (p : Page) (o l n v : Nat) : (s.setFld p o l n v).tbSlew = s.tbSlew := by delta State.setFld State.setReg; rfl
@[simp] theorem setFld_free (p : Page) (o l n v : Nat) : (s.setFld p o l n v).free = s.free := by delta State.setFld State.setReg; rfl
@[simp] theorem setFld_status (p : Page) (o l n v : Nat) : (s.setFld p o l n v).status = s.status := by delta State.setFld State.setReg; rfl
@[simp] theorem setFld_answer (p : Page) (o l n v : Nat) : (s.setFld p o l n v).answer = s.answer := by delta State.setFld State.setReg; rfl
@[simp] theorem setFld_routers (p : Page) (o l n v : Nat) : (s.setFld p o l n v).routers = s.routers := by delta State.setFld State.setReg; rfl
@[simp] theorem setFld_dieCogs (p : Page) (o l n v : Nat) : (s.setFld p o l n v).dieCogs = s.dieCogs := by delta State.setFld State.setReg; rfl
@[simp] theorem setFld_cogTab (p : Page) (o l n v : Nat) : (s.setFld p o l n v).cogTab = s.cogTab := by delta State.setFld State.setReg; rfl
@[simp] theorem setFld_gsWait (p : Page) (o l n v : Nat) : (s.setFld p o l n v).gsWait = s.gsWait := by delta State.setFld State.setReg; rfl
@[simp] theorem setFld_capWin (p : Page) (o l n v : Nat) : (s.setFld p o l n v).capWin = s.capWin := by delta State.setFld State.setReg; rfl
@[simp] theorem setFld_isolated (p : Page) (o l n v : Nat) : (s.setFld p o l n v).isolated = s.isolated := by delta State.setFld State.setReg; rfl
@[simp] theorem setFld_descs (p : Page) (o l n v : Nat) : (s.setFld p o l n v).descs = s.descs := by delta State.setFld State.setReg; rfl
@[simp] theorem setFld_lru (p : Page) (o l n v : Nat) : (s.setFld p o l n v).lru = s.lru := by delta State.setFld State.setReg; rfl
@[simp] theorem setFld_atts (p : Page) (o l n v : Nat) : (s.setFld p o l n v).atts = s.atts := by delta State.setFld State.setReg; rfl
@[simp] theorem setFld_mirrorOut (p : Page) (o l n v : Nat) : (s.setFld p o l n v).mirrorOut = s.mirrorOut := by delta State.setFld State.setReg; rfl
@[simp] theorem setFld_mirrorCnt (p : Page) (o l n v : Nat) : (s.setFld p o l n v).mirrorCnt = s.mirrorCnt := by delta State.setFld State.setReg; rfl
@[simp] theorem setFld_axes (p : Page) (o l n v : Nat) : (s.setFld p o l n v).axes = s.axes := by delta State.setFld State.setReg; rfl
@[simp] theorem setFld_encs (p : Page) (o l n v : Nat) : (s.setFld p o l n v).encs = s.encs := by delta State.setFld State.setReg; rfl
@[simp] theorem setFld_trigs (p : Page) (o l n v : Nat) : (s.setFld p o l n v).trigs = s.trigs := by delta State.setFld State.setReg; rfl
@[simp] theorem setFld_samples (p : Page) (o l n v : Nat) : (s.setFld p o l n v).samples = s.samples := by delta State.setFld State.setReg; rfl
@[simp] theorem setFld_sampled (p : Page) (o l n v : Nat) : (s.setFld p o l n v).sampled = s.sampled := by delta State.setFld State.setReg; rfl
@[simp] theorem setFld_banks (p : Page) (o l n v : Nat) : (s.setFld p o l n v).banks = s.banks := by delta State.setFld State.setReg; rfl
@[simp] theorem setFld_hbmReq (p : Page) (o l n v : Nat) : (s.setFld p o l n v).hbmReq = s.hbmReq := by delta State.setFld State.setReg; rfl
@[simp] theorem setFld_dmas (p : Page) (o l n v : Nat) : (s.setFld p o l n v).dmas = s.dmas := by delta State.setFld State.setReg; rfl
@[simp] theorem setFld_links (p : Page) (o l n v : Nat) : (s.setFld p o l n v).links = s.links := by delta State.setFld State.setReg; rfl
@[simp] theorem setFld_linkEnds (p : Page) (o l n v : Nat) : (s.setFld p o l n v).linkEnds = s.linkEnds := by delta State.setFld State.setReg; rfl
@[simp] theorem setFld_training (p : Page) (o l n v : Nat) : (s.setFld p o l n v).training = s.training := by delta State.setFld State.setReg; rfl
@[simp] theorem setFld_aligners (p : Page) (o l n v : Nat) : (s.setFld p o l n v).aligners = s.aligners := by delta State.setFld State.setReg; rfl
@[simp] theorem setFld_sampleOut (p : Page) (o l n v : Nat) : (s.setFld p o l n v).sampleOut = s.sampleOut := by delta State.setFld State.setReg; rfl
@[simp] theorem setFld_fuses (p : Page) (o l n v : Nat) : (s.setFld p o l n v).fuses = s.fuses := by delta State.setFld State.setReg; rfl
@[simp] theorem setFld_sec (p : Page) (o l n v : Nat) : (s.setFld p o l n v).sec = s.sec := by delta State.setFld State.setReg; rfl
@[simp] theorem setFld_power (p : Page) (o l n v : Nat) : (s.setFld p o l n v).power = s.power := by delta State.setFld State.setReg; rfl
@[simp] theorem setFld_board (p : Page) (o l n v : Nat) : (s.setFld p o l n v).board = s.board := by delta State.setFld State.setReg; rfl
@[simp] theorem setFld_released (p : Page) (o l n v : Nat) : (s.setFld p o l n v).released = s.released := by delta State.setFld State.setReg; rfl
@[simp] theorem setFld_grn (p : Page) (o l n v : Nat) : (s.setFld p o l n v).grn = s.grn := by delta State.setFld State.setReg; rfl
@[simp] theorem setFld_health (p : Page) (o l n v : Nat) : (s.setFld p o l n v).health = s.health := by delta State.setFld State.setReg; rfl
@[simp] theorem setFld_grps (p : Page) (o l n v : Nat) : (s.setFld p o l n v).grps = s.grps := by delta State.setFld State.setReg; rfl
@[simp] theorem setFld_pinSet (p : Page) (o l n v : Nat) : (s.setFld p o l n v).pinSet = s.pinSet := by delta State.setFld State.setReg; rfl
@[simp] theorem setFld_calT0 (p : Page) (o l n v : Nat) : (s.setFld p o l n v).calT0 = s.calT0 := by delta State.setFld State.setReg; rfl
@[simp] theorem setFld_braked (p : Page) (o l n v : Nat) : (s.setFld p o l n v).braked = s.braked := by delta State.setFld State.setReg; rfl
@[simp] theorem setFld_capBraked (p : Page) (o l n v : Nat) : (s.setFld p o l n v).capBraked = s.capBraked := by delta State.setFld State.setReg; rfl
@[simp] theorem setFld_twin (p : Page) (o l n v : Nat) : (s.setFld p o l n v).twin = s.twin := by delta State.setFld State.setReg; rfl
@[simp] theorem setFld_cores (p : Page) (o l n v : Nat) : (s.setFld p o l n v).cores = s.cores := by delta State.setFld State.setReg; rfl
@[simp] theorem setFld_resv (p : Page) (o l n v : Nat) : (s.setFld p o l n v).resv = s.resv := by delta State.setFld State.setReg; rfl
@[simp] theorem setFld_fabWdt (p : Page) (o l n v : Nat) : (s.setFld p o l n v).fabWdt = s.fabWdt := by delta State.setFld State.setReg; rfl
@[simp] theorem setFld_pkgWdt (p : Page) (o l n v : Nat) : (s.setFld p o l n v).pkgWdt = s.pkgWdt := by delta State.setFld State.setReg; rfl
@[simp] theorem setFld_loader (p : Page) (o l n v : Nat) : (s.setFld p o l n v).loader = s.loader := by delta State.setFld State.setReg; rfl
@[simp] theorem setFld_bist (p : Page) (o l n v : Nat) : (s.setFld p o l n v).bist = s.bist := by delta State.setFld State.setReg; rfl
@[simp] theorem setFld_outer (p : Page) (o l n v : Nat) : (s.setFld p o l n v).outer = s.outer := by delta State.setFld State.setReg; rfl
@[simp] theorem setFld_dbg (p : Page) (o l n v : Nat) : (s.setFld p o l n v).dbg = s.dbg := by delta State.setFld State.setReg; rfl
@[simp] theorem setFld_trace (p : Page) (o l n v : Nat) : (s.setFld p o l n v).trace = s.trace := by delta State.setFld State.setReg; rfl
@[simp] theorem setFld_clearing (p : Page) (o l n v : Nat) : (s.setFld p o l n v).clearing = s.clearing := by delta State.setFld State.setReg; rfl

@[simp] theorem setBit_pending (p : Page) (o i : Nat) (b : Bool) : (s.setBit p o i b).pending = s.pending := by delta State.setBit State.setFld State.setReg; rfl
@[simp] theorem setBit_mem (p : Page) (o i : Nat) (b : Bool) : (s.setBit p o i b).mem = s.mem := by delta State.setBit State.setFld State.setReg; rfl
@[simp] theorem setBit_outbox (p : Page) (o i : Nat) (b : Bool) : (s.setBit p o i b).outbox = s.outbox := by delta State.setBit State.setFld State.setReg; rfl
@[simp] theorem setBit_cells (p : Page) (o i : Nat) (b : Bool) : (s.setBit p o i b).cells = s.cells := by delta State.setBit State.setFld State.setReg; rfl
@[simp] theorem setBit_cellCtl (p : Page) (o i : Nat) (b : Bool) : (s.setBit p o i b).cellCtl = s.cellCtl := by delta State.setBit State.setFld State.setReg; rfl
@[simp] theorem setBit_slots (p : Page) (o i : Nat) (b : Bool) : (s.setBit p o i b).slots = s.slots := by delta State.setBit State.setFld State.setReg; rfl
@[simp] theorem setBit_tileCtl (p : Page) (o i : Nat) (b : Bool) : (s.setBit p o i b).tileCtl = s.tileCtl := by delta State.setBit State.setFld State.setReg; rfl
@[simp] theorem setBit_switch (p : Page) (o i : Nat) (b : Bool) : (s.setBit p o i b).switch = s.switch := by delta State.setBit State.setFld State.setReg; rfl
@[simp] theorem setBit_regions (p : Page) (o i : Nat) (b : Bool) : (s.setBit p o i b).regions = s.regions := by delta State.setBit State.setFld State.setReg; rfl
@[simp] theorem setBit_cycle (p : Page) (o i : Nat) (b : Bool) : (s.setBit p o i b).cycle = s.cycle := by delta State.setBit State.setFld State.setReg; rfl
@[simp] theorem setBit_tb (p : Page) (o i : Nat) (b : Bool) : (s.setBit p o i b).tb = s.tb := by delta State.setBit State.setFld State.setReg; rfl
@[simp] theorem setBit_tbOff (p : Page) (o i : Nat) (b : Bool) : (s.setBit p o i b).tbOff = s.tbOff := by delta State.setBit State.setFld State.setReg; rfl
@[simp] theorem setBit_tbSlew (p : Page) (o i : Nat) (b : Bool) : (s.setBit p o i b).tbSlew = s.tbSlew := by delta State.setBit State.setFld State.setReg; rfl
@[simp] theorem setBit_free (p : Page) (o i : Nat) (b : Bool) : (s.setBit p o i b).free = s.free := by delta State.setBit State.setFld State.setReg; rfl
@[simp] theorem setBit_status (p : Page) (o i : Nat) (b : Bool) : (s.setBit p o i b).status = s.status := by delta State.setBit State.setFld State.setReg; rfl
@[simp] theorem setBit_answer (p : Page) (o i : Nat) (b : Bool) : (s.setBit p o i b).answer = s.answer := by delta State.setBit State.setFld State.setReg; rfl
@[simp] theorem setBit_routers (p : Page) (o i : Nat) (b : Bool) : (s.setBit p o i b).routers = s.routers := by delta State.setBit State.setFld State.setReg; rfl
@[simp] theorem setBit_dieCogs (p : Page) (o i : Nat) (b : Bool) : (s.setBit p o i b).dieCogs = s.dieCogs := by delta State.setBit State.setFld State.setReg; rfl
@[simp] theorem setBit_cogTab (p : Page) (o i : Nat) (b : Bool) : (s.setBit p o i b).cogTab = s.cogTab := by delta State.setBit State.setFld State.setReg; rfl
@[simp] theorem setBit_gsWait (p : Page) (o i : Nat) (b : Bool) : (s.setBit p o i b).gsWait = s.gsWait := by delta State.setBit State.setFld State.setReg; rfl
@[simp] theorem setBit_capWin (p : Page) (o i : Nat) (b : Bool) : (s.setBit p o i b).capWin = s.capWin := by delta State.setBit State.setFld State.setReg; rfl
@[simp] theorem setBit_isolated (p : Page) (o i : Nat) (b : Bool) : (s.setBit p o i b).isolated = s.isolated := by delta State.setBit State.setFld State.setReg; rfl
@[simp] theorem setBit_descs (p : Page) (o i : Nat) (b : Bool) : (s.setBit p o i b).descs = s.descs := by delta State.setBit State.setFld State.setReg; rfl
@[simp] theorem setBit_lru (p : Page) (o i : Nat) (b : Bool) : (s.setBit p o i b).lru = s.lru := by delta State.setBit State.setFld State.setReg; rfl
@[simp] theorem setBit_atts (p : Page) (o i : Nat) (b : Bool) : (s.setBit p o i b).atts = s.atts := by delta State.setBit State.setFld State.setReg; rfl
@[simp] theorem setBit_mirrorOut (p : Page) (o i : Nat) (b : Bool) : (s.setBit p o i b).mirrorOut = s.mirrorOut := by delta State.setBit State.setFld State.setReg; rfl
@[simp] theorem setBit_mirrorCnt (p : Page) (o i : Nat) (b : Bool) : (s.setBit p o i b).mirrorCnt = s.mirrorCnt := by delta State.setBit State.setFld State.setReg; rfl
@[simp] theorem setBit_axes (p : Page) (o i : Nat) (b : Bool) : (s.setBit p o i b).axes = s.axes := by delta State.setBit State.setFld State.setReg; rfl
@[simp] theorem setBit_encs (p : Page) (o i : Nat) (b : Bool) : (s.setBit p o i b).encs = s.encs := by delta State.setBit State.setFld State.setReg; rfl
@[simp] theorem setBit_trigs (p : Page) (o i : Nat) (b : Bool) : (s.setBit p o i b).trigs = s.trigs := by delta State.setBit State.setFld State.setReg; rfl
@[simp] theorem setBit_samples (p : Page) (o i : Nat) (b : Bool) : (s.setBit p o i b).samples = s.samples := by delta State.setBit State.setFld State.setReg; rfl
@[simp] theorem setBit_sampled (p : Page) (o i : Nat) (b : Bool) : (s.setBit p o i b).sampled = s.sampled := by delta State.setBit State.setFld State.setReg; rfl
@[simp] theorem setBit_banks (p : Page) (o i : Nat) (b : Bool) : (s.setBit p o i b).banks = s.banks := by delta State.setBit State.setFld State.setReg; rfl
@[simp] theorem setBit_hbmReq (p : Page) (o i : Nat) (b : Bool) : (s.setBit p o i b).hbmReq = s.hbmReq := by delta State.setBit State.setFld State.setReg; rfl
@[simp] theorem setBit_dmas (p : Page) (o i : Nat) (b : Bool) : (s.setBit p o i b).dmas = s.dmas := by delta State.setBit State.setFld State.setReg; rfl
@[simp] theorem setBit_links (p : Page) (o i : Nat) (b : Bool) : (s.setBit p o i b).links = s.links := by delta State.setBit State.setFld State.setReg; rfl
@[simp] theorem setBit_linkEnds (p : Page) (o i : Nat) (b : Bool) : (s.setBit p o i b).linkEnds = s.linkEnds := by delta State.setBit State.setFld State.setReg; rfl
@[simp] theorem setBit_training (p : Page) (o i : Nat) (b : Bool) : (s.setBit p o i b).training = s.training := by delta State.setBit State.setFld State.setReg; rfl
@[simp] theorem setBit_aligners (p : Page) (o i : Nat) (b : Bool) : (s.setBit p o i b).aligners = s.aligners := by delta State.setBit State.setFld State.setReg; rfl
@[simp] theorem setBit_sampleOut (p : Page) (o i : Nat) (b : Bool) : (s.setBit p o i b).sampleOut = s.sampleOut := by delta State.setBit State.setFld State.setReg; rfl
@[simp] theorem setBit_fuses (p : Page) (o i : Nat) (b : Bool) : (s.setBit p o i b).fuses = s.fuses := by delta State.setBit State.setFld State.setReg; rfl
@[simp] theorem setBit_sec (p : Page) (o i : Nat) (b : Bool) : (s.setBit p o i b).sec = s.sec := by delta State.setBit State.setFld State.setReg; rfl
@[simp] theorem setBit_power (p : Page) (o i : Nat) (b : Bool) : (s.setBit p o i b).power = s.power := by delta State.setBit State.setFld State.setReg; rfl
@[simp] theorem setBit_board (p : Page) (o i : Nat) (b : Bool) : (s.setBit p o i b).board = s.board := by delta State.setBit State.setFld State.setReg; rfl
@[simp] theorem setBit_released (p : Page) (o i : Nat) (b : Bool) : (s.setBit p o i b).released = s.released := by delta State.setBit State.setFld State.setReg; rfl
@[simp] theorem setBit_grn (p : Page) (o i : Nat) (b : Bool) : (s.setBit p o i b).grn = s.grn := by delta State.setBit State.setFld State.setReg; rfl
@[simp] theorem setBit_health (p : Page) (o i : Nat) (b : Bool) : (s.setBit p o i b).health = s.health := by delta State.setBit State.setFld State.setReg; rfl
@[simp] theorem setBit_grps (p : Page) (o i : Nat) (b : Bool) : (s.setBit p o i b).grps = s.grps := by delta State.setBit State.setFld State.setReg; rfl
@[simp] theorem setBit_pinSet (p : Page) (o i : Nat) (b : Bool) : (s.setBit p o i b).pinSet = s.pinSet := by delta State.setBit State.setFld State.setReg; rfl
@[simp] theorem setBit_calT0 (p : Page) (o i : Nat) (b : Bool) : (s.setBit p o i b).calT0 = s.calT0 := by delta State.setBit State.setFld State.setReg; rfl
@[simp] theorem setBit_braked (p : Page) (o i : Nat) (b : Bool) : (s.setBit p o i b).braked = s.braked := by delta State.setBit State.setFld State.setReg; rfl
@[simp] theorem setBit_capBraked (p : Page) (o i : Nat) (b : Bool) : (s.setBit p o i b).capBraked = s.capBraked := by delta State.setBit State.setFld State.setReg; rfl
@[simp] theorem setBit_twin (p : Page) (o i : Nat) (b : Bool) : (s.setBit p o i b).twin = s.twin := by delta State.setBit State.setFld State.setReg; rfl
@[simp] theorem setBit_cores (p : Page) (o i : Nat) (b : Bool) : (s.setBit p o i b).cores = s.cores := by delta State.setBit State.setFld State.setReg; rfl
@[simp] theorem setBit_resv (p : Page) (o i : Nat) (b : Bool) : (s.setBit p o i b).resv = s.resv := by delta State.setBit State.setFld State.setReg; rfl
@[simp] theorem setBit_fabWdt (p : Page) (o i : Nat) (b : Bool) : (s.setBit p o i b).fabWdt = s.fabWdt := by delta State.setBit State.setFld State.setReg; rfl
@[simp] theorem setBit_pkgWdt (p : Page) (o i : Nat) (b : Bool) : (s.setBit p o i b).pkgWdt = s.pkgWdt := by delta State.setBit State.setFld State.setReg; rfl
@[simp] theorem setBit_loader (p : Page) (o i : Nat) (b : Bool) : (s.setBit p o i b).loader = s.loader := by delta State.setBit State.setFld State.setReg; rfl
@[simp] theorem setBit_bist (p : Page) (o i : Nat) (b : Bool) : (s.setBit p o i b).bist = s.bist := by delta State.setBit State.setFld State.setReg; rfl
@[simp] theorem setBit_outer (p : Page) (o i : Nat) (b : Bool) : (s.setBit p o i b).outer = s.outer := by delta State.setBit State.setFld State.setReg; rfl
@[simp] theorem setBit_dbg (p : Page) (o i : Nat) (b : Bool) : (s.setBit p o i b).dbg = s.dbg := by delta State.setBit State.setFld State.setReg; rfl
@[simp] theorem setBit_trace (p : Page) (o i : Nat) (b : Bool) : (s.setBit p o i b).trace = s.trace := by delta State.setBit State.setFld State.setReg; rfl
@[simp] theorem setBit_clearing (p : Page) (o i : Nat) (b : Bool) : (s.setBit p o i b).clearing = s.clearing := by delta State.setBit State.setFld State.setReg; rfl

@[simp] theorem bumpFld_pending (p : Page) (o l n k : Nat) : (s.bumpFld p o l n k).pending = s.pending := by delta State.bumpFld State.setFld State.setReg; rfl
@[simp] theorem bumpFld_mem (p : Page) (o l n k : Nat) : (s.bumpFld p o l n k).mem = s.mem := by delta State.bumpFld State.setFld State.setReg; rfl
@[simp] theorem bumpFld_outbox (p : Page) (o l n k : Nat) : (s.bumpFld p o l n k).outbox = s.outbox := by delta State.bumpFld State.setFld State.setReg; rfl
@[simp] theorem bumpFld_cells (p : Page) (o l n k : Nat) : (s.bumpFld p o l n k).cells = s.cells := by delta State.bumpFld State.setFld State.setReg; rfl
@[simp] theorem bumpFld_cellCtl (p : Page) (o l n k : Nat) : (s.bumpFld p o l n k).cellCtl = s.cellCtl := by delta State.bumpFld State.setFld State.setReg; rfl
@[simp] theorem bumpFld_slots (p : Page) (o l n k : Nat) : (s.bumpFld p o l n k).slots = s.slots := by delta State.bumpFld State.setFld State.setReg; rfl
@[simp] theorem bumpFld_tileCtl (p : Page) (o l n k : Nat) : (s.bumpFld p o l n k).tileCtl = s.tileCtl := by delta State.bumpFld State.setFld State.setReg; rfl
@[simp] theorem bumpFld_switch (p : Page) (o l n k : Nat) : (s.bumpFld p o l n k).switch = s.switch := by delta State.bumpFld State.setFld State.setReg; rfl
@[simp] theorem bumpFld_regions (p : Page) (o l n k : Nat) : (s.bumpFld p o l n k).regions = s.regions := by delta State.bumpFld State.setFld State.setReg; rfl
@[simp] theorem bumpFld_cycle (p : Page) (o l n k : Nat) : (s.bumpFld p o l n k).cycle = s.cycle := by delta State.bumpFld State.setFld State.setReg; rfl
@[simp] theorem bumpFld_tb (p : Page) (o l n k : Nat) : (s.bumpFld p o l n k).tb = s.tb := by delta State.bumpFld State.setFld State.setReg; rfl
@[simp] theorem bumpFld_tbOff (p : Page) (o l n k : Nat) : (s.bumpFld p o l n k).tbOff = s.tbOff := by delta State.bumpFld State.setFld State.setReg; rfl
@[simp] theorem bumpFld_tbSlew (p : Page) (o l n k : Nat) : (s.bumpFld p o l n k).tbSlew = s.tbSlew := by delta State.bumpFld State.setFld State.setReg; rfl
@[simp] theorem bumpFld_free (p : Page) (o l n k : Nat) : (s.bumpFld p o l n k).free = s.free := by delta State.bumpFld State.setFld State.setReg; rfl
@[simp] theorem bumpFld_status (p : Page) (o l n k : Nat) : (s.bumpFld p o l n k).status = s.status := by delta State.bumpFld State.setFld State.setReg; rfl
@[simp] theorem bumpFld_answer (p : Page) (o l n k : Nat) : (s.bumpFld p o l n k).answer = s.answer := by delta State.bumpFld State.setFld State.setReg; rfl
@[simp] theorem bumpFld_routers (p : Page) (o l n k : Nat) : (s.bumpFld p o l n k).routers = s.routers := by delta State.bumpFld State.setFld State.setReg; rfl
@[simp] theorem bumpFld_dieCogs (p : Page) (o l n k : Nat) : (s.bumpFld p o l n k).dieCogs = s.dieCogs := by delta State.bumpFld State.setFld State.setReg; rfl
@[simp] theorem bumpFld_cogTab (p : Page) (o l n k : Nat) : (s.bumpFld p o l n k).cogTab = s.cogTab := by delta State.bumpFld State.setFld State.setReg; rfl
@[simp] theorem bumpFld_gsWait (p : Page) (o l n k : Nat) : (s.bumpFld p o l n k).gsWait = s.gsWait := by delta State.bumpFld State.setFld State.setReg; rfl
@[simp] theorem bumpFld_capWin (p : Page) (o l n k : Nat) : (s.bumpFld p o l n k).capWin = s.capWin := by delta State.bumpFld State.setFld State.setReg; rfl
@[simp] theorem bumpFld_isolated (p : Page) (o l n k : Nat) : (s.bumpFld p o l n k).isolated = s.isolated := by delta State.bumpFld State.setFld State.setReg; rfl
@[simp] theorem bumpFld_descs (p : Page) (o l n k : Nat) : (s.bumpFld p o l n k).descs = s.descs := by delta State.bumpFld State.setFld State.setReg; rfl
@[simp] theorem bumpFld_lru (p : Page) (o l n k : Nat) : (s.bumpFld p o l n k).lru = s.lru := by delta State.bumpFld State.setFld State.setReg; rfl
@[simp] theorem bumpFld_atts (p : Page) (o l n k : Nat) : (s.bumpFld p o l n k).atts = s.atts := by delta State.bumpFld State.setFld State.setReg; rfl
@[simp] theorem bumpFld_mirrorOut (p : Page) (o l n k : Nat) : (s.bumpFld p o l n k).mirrorOut = s.mirrorOut := by delta State.bumpFld State.setFld State.setReg; rfl
@[simp] theorem bumpFld_mirrorCnt (p : Page) (o l n k : Nat) : (s.bumpFld p o l n k).mirrorCnt = s.mirrorCnt := by delta State.bumpFld State.setFld State.setReg; rfl
@[simp] theorem bumpFld_axes (p : Page) (o l n k : Nat) : (s.bumpFld p o l n k).axes = s.axes := by delta State.bumpFld State.setFld State.setReg; rfl
@[simp] theorem bumpFld_encs (p : Page) (o l n k : Nat) : (s.bumpFld p o l n k).encs = s.encs := by delta State.bumpFld State.setFld State.setReg; rfl
@[simp] theorem bumpFld_trigs (p : Page) (o l n k : Nat) : (s.bumpFld p o l n k).trigs = s.trigs := by delta State.bumpFld State.setFld State.setReg; rfl
@[simp] theorem bumpFld_samples (p : Page) (o l n k : Nat) : (s.bumpFld p o l n k).samples = s.samples := by delta State.bumpFld State.setFld State.setReg; rfl
@[simp] theorem bumpFld_sampled (p : Page) (o l n k : Nat) : (s.bumpFld p o l n k).sampled = s.sampled := by delta State.bumpFld State.setFld State.setReg; rfl
@[simp] theorem bumpFld_banks (p : Page) (o l n k : Nat) : (s.bumpFld p o l n k).banks = s.banks := by delta State.bumpFld State.setFld State.setReg; rfl
@[simp] theorem bumpFld_hbmReq (p : Page) (o l n k : Nat) : (s.bumpFld p o l n k).hbmReq = s.hbmReq := by delta State.bumpFld State.setFld State.setReg; rfl
@[simp] theorem bumpFld_dmas (p : Page) (o l n k : Nat) : (s.bumpFld p o l n k).dmas = s.dmas := by delta State.bumpFld State.setFld State.setReg; rfl
@[simp] theorem bumpFld_links (p : Page) (o l n k : Nat) : (s.bumpFld p o l n k).links = s.links := by delta State.bumpFld State.setFld State.setReg; rfl
@[simp] theorem bumpFld_linkEnds (p : Page) (o l n k : Nat) : (s.bumpFld p o l n k).linkEnds = s.linkEnds := by delta State.bumpFld State.setFld State.setReg; rfl
@[simp] theorem bumpFld_training (p : Page) (o l n k : Nat) : (s.bumpFld p o l n k).training = s.training := by delta State.bumpFld State.setFld State.setReg; rfl
@[simp] theorem bumpFld_aligners (p : Page) (o l n k : Nat) : (s.bumpFld p o l n k).aligners = s.aligners := by delta State.bumpFld State.setFld State.setReg; rfl
@[simp] theorem bumpFld_sampleOut (p : Page) (o l n k : Nat) : (s.bumpFld p o l n k).sampleOut = s.sampleOut := by delta State.bumpFld State.setFld State.setReg; rfl
@[simp] theorem bumpFld_fuses (p : Page) (o l n k : Nat) : (s.bumpFld p o l n k).fuses = s.fuses := by delta State.bumpFld State.setFld State.setReg; rfl
@[simp] theorem bumpFld_sec (p : Page) (o l n k : Nat) : (s.bumpFld p o l n k).sec = s.sec := by delta State.bumpFld State.setFld State.setReg; rfl
@[simp] theorem bumpFld_power (p : Page) (o l n k : Nat) : (s.bumpFld p o l n k).power = s.power := by delta State.bumpFld State.setFld State.setReg; rfl
@[simp] theorem bumpFld_board (p : Page) (o l n k : Nat) : (s.bumpFld p o l n k).board = s.board := by delta State.bumpFld State.setFld State.setReg; rfl
@[simp] theorem bumpFld_released (p : Page) (o l n k : Nat) : (s.bumpFld p o l n k).released = s.released := by delta State.bumpFld State.setFld State.setReg; rfl
@[simp] theorem bumpFld_grn (p : Page) (o l n k : Nat) : (s.bumpFld p o l n k).grn = s.grn := by delta State.bumpFld State.setFld State.setReg; rfl
@[simp] theorem bumpFld_health (p : Page) (o l n k : Nat) : (s.bumpFld p o l n k).health = s.health := by delta State.bumpFld State.setFld State.setReg; rfl
@[simp] theorem bumpFld_grps (p : Page) (o l n k : Nat) : (s.bumpFld p o l n k).grps = s.grps := by delta State.bumpFld State.setFld State.setReg; rfl
@[simp] theorem bumpFld_pinSet (p : Page) (o l n k : Nat) : (s.bumpFld p o l n k).pinSet = s.pinSet := by delta State.bumpFld State.setFld State.setReg; rfl
@[simp] theorem bumpFld_calT0 (p : Page) (o l n k : Nat) : (s.bumpFld p o l n k).calT0 = s.calT0 := by delta State.bumpFld State.setFld State.setReg; rfl
@[simp] theorem bumpFld_braked (p : Page) (o l n k : Nat) : (s.bumpFld p o l n k).braked = s.braked := by delta State.bumpFld State.setFld State.setReg; rfl
@[simp] theorem bumpFld_capBraked (p : Page) (o l n k : Nat) : (s.bumpFld p o l n k).capBraked = s.capBraked := by delta State.bumpFld State.setFld State.setReg; rfl
@[simp] theorem bumpFld_twin (p : Page) (o l n k : Nat) : (s.bumpFld p o l n k).twin = s.twin := by delta State.bumpFld State.setFld State.setReg; rfl
@[simp] theorem bumpFld_cores (p : Page) (o l n k : Nat) : (s.bumpFld p o l n k).cores = s.cores := by delta State.bumpFld State.setFld State.setReg; rfl
@[simp] theorem bumpFld_resv (p : Page) (o l n k : Nat) : (s.bumpFld p o l n k).resv = s.resv := by delta State.bumpFld State.setFld State.setReg; rfl
@[simp] theorem bumpFld_fabWdt (p : Page) (o l n k : Nat) : (s.bumpFld p o l n k).fabWdt = s.fabWdt := by delta State.bumpFld State.setFld State.setReg; rfl
@[simp] theorem bumpFld_pkgWdt (p : Page) (o l n k : Nat) : (s.bumpFld p o l n k).pkgWdt = s.pkgWdt := by delta State.bumpFld State.setFld State.setReg; rfl
@[simp] theorem bumpFld_loader (p : Page) (o l n k : Nat) : (s.bumpFld p o l n k).loader = s.loader := by delta State.bumpFld State.setFld State.setReg; rfl
@[simp] theorem bumpFld_bist (p : Page) (o l n k : Nat) : (s.bumpFld p o l n k).bist = s.bist := by delta State.bumpFld State.setFld State.setReg; rfl
@[simp] theorem bumpFld_outer (p : Page) (o l n k : Nat) : (s.bumpFld p o l n k).outer = s.outer := by delta State.bumpFld State.setFld State.setReg; rfl
@[simp] theorem bumpFld_dbg (p : Page) (o l n k : Nat) : (s.bumpFld p o l n k).dbg = s.dbg := by delta State.bumpFld State.setFld State.setReg; rfl
@[simp] theorem bumpFld_trace (p : Page) (o l n k : Nat) : (s.bumpFld p o l n k).trace = s.trace := by delta State.bumpFld State.setFld State.setReg; rfl
@[simp] theorem bumpFld_clearing (p : Page) (o l n k : Nat) : (s.bumpFld p o l n k).clearing = s.clearing := by delta State.bumpFld State.setFld State.setReg; rfl

@[simp] theorem bumpBy_pending (p : Page) (o n : Nat) : (s.bumpBy p o n).pending = s.pending := by delta State.bumpBy State.bumpFld State.setFld State.setReg; rfl
@[simp] theorem bumpBy_mem (p : Page) (o n : Nat) : (s.bumpBy p o n).mem = s.mem := by delta State.bumpBy State.bumpFld State.setFld State.setReg; rfl
@[simp] theorem bumpBy_outbox (p : Page) (o n : Nat) : (s.bumpBy p o n).outbox = s.outbox := by delta State.bumpBy State.bumpFld State.setFld State.setReg; rfl
@[simp] theorem bumpBy_cells (p : Page) (o n : Nat) : (s.bumpBy p o n).cells = s.cells := by delta State.bumpBy State.bumpFld State.setFld State.setReg; rfl
@[simp] theorem bumpBy_cellCtl (p : Page) (o n : Nat) : (s.bumpBy p o n).cellCtl = s.cellCtl := by delta State.bumpBy State.bumpFld State.setFld State.setReg; rfl
@[simp] theorem bumpBy_slots (p : Page) (o n : Nat) : (s.bumpBy p o n).slots = s.slots := by delta State.bumpBy State.bumpFld State.setFld State.setReg; rfl
@[simp] theorem bumpBy_tileCtl (p : Page) (o n : Nat) : (s.bumpBy p o n).tileCtl = s.tileCtl := by delta State.bumpBy State.bumpFld State.setFld State.setReg; rfl
@[simp] theorem bumpBy_switch (p : Page) (o n : Nat) : (s.bumpBy p o n).switch = s.switch := by delta State.bumpBy State.bumpFld State.setFld State.setReg; rfl
@[simp] theorem bumpBy_regions (p : Page) (o n : Nat) : (s.bumpBy p o n).regions = s.regions := by delta State.bumpBy State.bumpFld State.setFld State.setReg; rfl
@[simp] theorem bumpBy_cycle (p : Page) (o n : Nat) : (s.bumpBy p o n).cycle = s.cycle := by delta State.bumpBy State.bumpFld State.setFld State.setReg; rfl
@[simp] theorem bumpBy_tb (p : Page) (o n : Nat) : (s.bumpBy p o n).tb = s.tb := by delta State.bumpBy State.bumpFld State.setFld State.setReg; rfl
@[simp] theorem bumpBy_tbOff (p : Page) (o n : Nat) : (s.bumpBy p o n).tbOff = s.tbOff := by delta State.bumpBy State.bumpFld State.setFld State.setReg; rfl
@[simp] theorem bumpBy_tbSlew (p : Page) (o n : Nat) : (s.bumpBy p o n).tbSlew = s.tbSlew := by delta State.bumpBy State.bumpFld State.setFld State.setReg; rfl
@[simp] theorem bumpBy_free (p : Page) (o n : Nat) : (s.bumpBy p o n).free = s.free := by delta State.bumpBy State.bumpFld State.setFld State.setReg; rfl
@[simp] theorem bumpBy_status (p : Page) (o n : Nat) : (s.bumpBy p o n).status = s.status := by delta State.bumpBy State.bumpFld State.setFld State.setReg; rfl
@[simp] theorem bumpBy_answer (p : Page) (o n : Nat) : (s.bumpBy p o n).answer = s.answer := by delta State.bumpBy State.bumpFld State.setFld State.setReg; rfl
@[simp] theorem bumpBy_routers (p : Page) (o n : Nat) : (s.bumpBy p o n).routers = s.routers := by delta State.bumpBy State.bumpFld State.setFld State.setReg; rfl
@[simp] theorem bumpBy_dieCogs (p : Page) (o n : Nat) : (s.bumpBy p o n).dieCogs = s.dieCogs := by delta State.bumpBy State.bumpFld State.setFld State.setReg; rfl
@[simp] theorem bumpBy_cogTab (p : Page) (o n : Nat) : (s.bumpBy p o n).cogTab = s.cogTab := by delta State.bumpBy State.bumpFld State.setFld State.setReg; rfl
@[simp] theorem bumpBy_gsWait (p : Page) (o n : Nat) : (s.bumpBy p o n).gsWait = s.gsWait := by delta State.bumpBy State.bumpFld State.setFld State.setReg; rfl
@[simp] theorem bumpBy_capWin (p : Page) (o n : Nat) : (s.bumpBy p o n).capWin = s.capWin := by delta State.bumpBy State.bumpFld State.setFld State.setReg; rfl
@[simp] theorem bumpBy_isolated (p : Page) (o n : Nat) : (s.bumpBy p o n).isolated = s.isolated := by delta State.bumpBy State.bumpFld State.setFld State.setReg; rfl
@[simp] theorem bumpBy_descs (p : Page) (o n : Nat) : (s.bumpBy p o n).descs = s.descs := by delta State.bumpBy State.bumpFld State.setFld State.setReg; rfl
@[simp] theorem bumpBy_lru (p : Page) (o n : Nat) : (s.bumpBy p o n).lru = s.lru := by delta State.bumpBy State.bumpFld State.setFld State.setReg; rfl
@[simp] theorem bumpBy_atts (p : Page) (o n : Nat) : (s.bumpBy p o n).atts = s.atts := by delta State.bumpBy State.bumpFld State.setFld State.setReg; rfl
@[simp] theorem bumpBy_mirrorOut (p : Page) (o n : Nat) : (s.bumpBy p o n).mirrorOut = s.mirrorOut := by delta State.bumpBy State.bumpFld State.setFld State.setReg; rfl
@[simp] theorem bumpBy_mirrorCnt (p : Page) (o n : Nat) : (s.bumpBy p o n).mirrorCnt = s.mirrorCnt := by delta State.bumpBy State.bumpFld State.setFld State.setReg; rfl
@[simp] theorem bumpBy_axes (p : Page) (o n : Nat) : (s.bumpBy p o n).axes = s.axes := by delta State.bumpBy State.bumpFld State.setFld State.setReg; rfl
@[simp] theorem bumpBy_encs (p : Page) (o n : Nat) : (s.bumpBy p o n).encs = s.encs := by delta State.bumpBy State.bumpFld State.setFld State.setReg; rfl
@[simp] theorem bumpBy_trigs (p : Page) (o n : Nat) : (s.bumpBy p o n).trigs = s.trigs := by delta State.bumpBy State.bumpFld State.setFld State.setReg; rfl
@[simp] theorem bumpBy_samples (p : Page) (o n : Nat) : (s.bumpBy p o n).samples = s.samples := by delta State.bumpBy State.bumpFld State.setFld State.setReg; rfl
@[simp] theorem bumpBy_sampled (p : Page) (o n : Nat) : (s.bumpBy p o n).sampled = s.sampled := by delta State.bumpBy State.bumpFld State.setFld State.setReg; rfl
@[simp] theorem bumpBy_banks (p : Page) (o n : Nat) : (s.bumpBy p o n).banks = s.banks := by delta State.bumpBy State.bumpFld State.setFld State.setReg; rfl
@[simp] theorem bumpBy_hbmReq (p : Page) (o n : Nat) : (s.bumpBy p o n).hbmReq = s.hbmReq := by delta State.bumpBy State.bumpFld State.setFld State.setReg; rfl
@[simp] theorem bumpBy_dmas (p : Page) (o n : Nat) : (s.bumpBy p o n).dmas = s.dmas := by delta State.bumpBy State.bumpFld State.setFld State.setReg; rfl
@[simp] theorem bumpBy_links (p : Page) (o n : Nat) : (s.bumpBy p o n).links = s.links := by delta State.bumpBy State.bumpFld State.setFld State.setReg; rfl
@[simp] theorem bumpBy_linkEnds (p : Page) (o n : Nat) : (s.bumpBy p o n).linkEnds = s.linkEnds := by delta State.bumpBy State.bumpFld State.setFld State.setReg; rfl
@[simp] theorem bumpBy_training (p : Page) (o n : Nat) : (s.bumpBy p o n).training = s.training := by delta State.bumpBy State.bumpFld State.setFld State.setReg; rfl
@[simp] theorem bumpBy_aligners (p : Page) (o n : Nat) : (s.bumpBy p o n).aligners = s.aligners := by delta State.bumpBy State.bumpFld State.setFld State.setReg; rfl
@[simp] theorem bumpBy_sampleOut (p : Page) (o n : Nat) : (s.bumpBy p o n).sampleOut = s.sampleOut := by delta State.bumpBy State.bumpFld State.setFld State.setReg; rfl
@[simp] theorem bumpBy_fuses (p : Page) (o n : Nat) : (s.bumpBy p o n).fuses = s.fuses := by delta State.bumpBy State.bumpFld State.setFld State.setReg; rfl
@[simp] theorem bumpBy_sec (p : Page) (o n : Nat) : (s.bumpBy p o n).sec = s.sec := by delta State.bumpBy State.bumpFld State.setFld State.setReg; rfl
@[simp] theorem bumpBy_power (p : Page) (o n : Nat) : (s.bumpBy p o n).power = s.power := by delta State.bumpBy State.bumpFld State.setFld State.setReg; rfl
@[simp] theorem bumpBy_board (p : Page) (o n : Nat) : (s.bumpBy p o n).board = s.board := by delta State.bumpBy State.bumpFld State.setFld State.setReg; rfl
@[simp] theorem bumpBy_released (p : Page) (o n : Nat) : (s.bumpBy p o n).released = s.released := by delta State.bumpBy State.bumpFld State.setFld State.setReg; rfl
@[simp] theorem bumpBy_grn (p : Page) (o n : Nat) : (s.bumpBy p o n).grn = s.grn := by delta State.bumpBy State.bumpFld State.setFld State.setReg; rfl
@[simp] theorem bumpBy_health (p : Page) (o n : Nat) : (s.bumpBy p o n).health = s.health := by delta State.bumpBy State.bumpFld State.setFld State.setReg; rfl
@[simp] theorem bumpBy_grps (p : Page) (o n : Nat) : (s.bumpBy p o n).grps = s.grps := by delta State.bumpBy State.bumpFld State.setFld State.setReg; rfl
@[simp] theorem bumpBy_pinSet (p : Page) (o n : Nat) : (s.bumpBy p o n).pinSet = s.pinSet := by delta State.bumpBy State.bumpFld State.setFld State.setReg; rfl
@[simp] theorem bumpBy_calT0 (p : Page) (o n : Nat) : (s.bumpBy p o n).calT0 = s.calT0 := by delta State.bumpBy State.bumpFld State.setFld State.setReg; rfl
@[simp] theorem bumpBy_braked (p : Page) (o n : Nat) : (s.bumpBy p o n).braked = s.braked := by delta State.bumpBy State.bumpFld State.setFld State.setReg; rfl
@[simp] theorem bumpBy_capBraked (p : Page) (o n : Nat) : (s.bumpBy p o n).capBraked = s.capBraked := by delta State.bumpBy State.bumpFld State.setFld State.setReg; rfl
@[simp] theorem bumpBy_twin (p : Page) (o n : Nat) : (s.bumpBy p o n).twin = s.twin := by delta State.bumpBy State.bumpFld State.setFld State.setReg; rfl
@[simp] theorem bumpBy_cores (p : Page) (o n : Nat) : (s.bumpBy p o n).cores = s.cores := by delta State.bumpBy State.bumpFld State.setFld State.setReg; rfl
@[simp] theorem bumpBy_resv (p : Page) (o n : Nat) : (s.bumpBy p o n).resv = s.resv := by delta State.bumpBy State.bumpFld State.setFld State.setReg; rfl
@[simp] theorem bumpBy_fabWdt (p : Page) (o n : Nat) : (s.bumpBy p o n).fabWdt = s.fabWdt := by delta State.bumpBy State.bumpFld State.setFld State.setReg; rfl
@[simp] theorem bumpBy_pkgWdt (p : Page) (o n : Nat) : (s.bumpBy p o n).pkgWdt = s.pkgWdt := by delta State.bumpBy State.bumpFld State.setFld State.setReg; rfl
@[simp] theorem bumpBy_loader (p : Page) (o n : Nat) : (s.bumpBy p o n).loader = s.loader := by delta State.bumpBy State.bumpFld State.setFld State.setReg; rfl
@[simp] theorem bumpBy_bist (p : Page) (o n : Nat) : (s.bumpBy p o n).bist = s.bist := by delta State.bumpBy State.bumpFld State.setFld State.setReg; rfl
@[simp] theorem bumpBy_outer (p : Page) (o n : Nat) : (s.bumpBy p o n).outer = s.outer := by delta State.bumpBy State.bumpFld State.setFld State.setReg; rfl
@[simp] theorem bumpBy_dbg (p : Page) (o n : Nat) : (s.bumpBy p o n).dbg = s.dbg := by delta State.bumpBy State.bumpFld State.setFld State.setReg; rfl
@[simp] theorem bumpBy_trace (p : Page) (o n : Nat) : (s.bumpBy p o n).trace = s.trace := by delta State.bumpBy State.bumpFld State.setFld State.setReg; rfl
@[simp] theorem bumpBy_clearing (p : Page) (o n : Nat) : (s.bumpBy p o n).clearing = s.clearing := by delta State.bumpBy State.bumpFld State.setFld State.setReg; rfl

@[simp] theorem bump_pending (p : Page) (o : Nat) : (s.bump p o).pending = s.pending := by delta State.bump State.bumpBy State.bumpFld State.setFld State.setReg; rfl
@[simp] theorem bump_mem (p : Page) (o : Nat) : (s.bump p o).mem = s.mem := by delta State.bump State.bumpBy State.bumpFld State.setFld State.setReg; rfl
@[simp] theorem bump_outbox (p : Page) (o : Nat) : (s.bump p o).outbox = s.outbox := by delta State.bump State.bumpBy State.bumpFld State.setFld State.setReg; rfl
@[simp] theorem bump_cells (p : Page) (o : Nat) : (s.bump p o).cells = s.cells := by delta State.bump State.bumpBy State.bumpFld State.setFld State.setReg; rfl
@[simp] theorem bump_cellCtl (p : Page) (o : Nat) : (s.bump p o).cellCtl = s.cellCtl := by delta State.bump State.bumpBy State.bumpFld State.setFld State.setReg; rfl
@[simp] theorem bump_slots (p : Page) (o : Nat) : (s.bump p o).slots = s.slots := by delta State.bump State.bumpBy State.bumpFld State.setFld State.setReg; rfl
@[simp] theorem bump_tileCtl (p : Page) (o : Nat) : (s.bump p o).tileCtl = s.tileCtl := by delta State.bump State.bumpBy State.bumpFld State.setFld State.setReg; rfl
@[simp] theorem bump_switch (p : Page) (o : Nat) : (s.bump p o).switch = s.switch := by delta State.bump State.bumpBy State.bumpFld State.setFld State.setReg; rfl
@[simp] theorem bump_regions (p : Page) (o : Nat) : (s.bump p o).regions = s.regions := by delta State.bump State.bumpBy State.bumpFld State.setFld State.setReg; rfl
@[simp] theorem bump_cycle (p : Page) (o : Nat) : (s.bump p o).cycle = s.cycle := by delta State.bump State.bumpBy State.bumpFld State.setFld State.setReg; rfl
@[simp] theorem bump_tb (p : Page) (o : Nat) : (s.bump p o).tb = s.tb := by delta State.bump State.bumpBy State.bumpFld State.setFld State.setReg; rfl
@[simp] theorem bump_tbOff (p : Page) (o : Nat) : (s.bump p o).tbOff = s.tbOff := by delta State.bump State.bumpBy State.bumpFld State.setFld State.setReg; rfl
@[simp] theorem bump_tbSlew (p : Page) (o : Nat) : (s.bump p o).tbSlew = s.tbSlew := by delta State.bump State.bumpBy State.bumpFld State.setFld State.setReg; rfl
@[simp] theorem bump_free (p : Page) (o : Nat) : (s.bump p o).free = s.free := by delta State.bump State.bumpBy State.bumpFld State.setFld State.setReg; rfl
@[simp] theorem bump_status (p : Page) (o : Nat) : (s.bump p o).status = s.status := by delta State.bump State.bumpBy State.bumpFld State.setFld State.setReg; rfl
@[simp] theorem bump_answer (p : Page) (o : Nat) : (s.bump p o).answer = s.answer := by delta State.bump State.bumpBy State.bumpFld State.setFld State.setReg; rfl
@[simp] theorem bump_routers (p : Page) (o : Nat) : (s.bump p o).routers = s.routers := by delta State.bump State.bumpBy State.bumpFld State.setFld State.setReg; rfl
@[simp] theorem bump_dieCogs (p : Page) (o : Nat) : (s.bump p o).dieCogs = s.dieCogs := by delta State.bump State.bumpBy State.bumpFld State.setFld State.setReg; rfl
@[simp] theorem bump_cogTab (p : Page) (o : Nat) : (s.bump p o).cogTab = s.cogTab := by delta State.bump State.bumpBy State.bumpFld State.setFld State.setReg; rfl
@[simp] theorem bump_gsWait (p : Page) (o : Nat) : (s.bump p o).gsWait = s.gsWait := by delta State.bump State.bumpBy State.bumpFld State.setFld State.setReg; rfl
@[simp] theorem bump_capWin (p : Page) (o : Nat) : (s.bump p o).capWin = s.capWin := by delta State.bump State.bumpBy State.bumpFld State.setFld State.setReg; rfl
@[simp] theorem bump_isolated (p : Page) (o : Nat) : (s.bump p o).isolated = s.isolated := by delta State.bump State.bumpBy State.bumpFld State.setFld State.setReg; rfl
@[simp] theorem bump_descs (p : Page) (o : Nat) : (s.bump p o).descs = s.descs := by delta State.bump State.bumpBy State.bumpFld State.setFld State.setReg; rfl
@[simp] theorem bump_lru (p : Page) (o : Nat) : (s.bump p o).lru = s.lru := by delta State.bump State.bumpBy State.bumpFld State.setFld State.setReg; rfl
@[simp] theorem bump_atts (p : Page) (o : Nat) : (s.bump p o).atts = s.atts := by delta State.bump State.bumpBy State.bumpFld State.setFld State.setReg; rfl
@[simp] theorem bump_mirrorOut (p : Page) (o : Nat) : (s.bump p o).mirrorOut = s.mirrorOut := by delta State.bump State.bumpBy State.bumpFld State.setFld State.setReg; rfl
@[simp] theorem bump_mirrorCnt (p : Page) (o : Nat) : (s.bump p o).mirrorCnt = s.mirrorCnt := by delta State.bump State.bumpBy State.bumpFld State.setFld State.setReg; rfl
@[simp] theorem bump_axes (p : Page) (o : Nat) : (s.bump p o).axes = s.axes := by delta State.bump State.bumpBy State.bumpFld State.setFld State.setReg; rfl
@[simp] theorem bump_encs (p : Page) (o : Nat) : (s.bump p o).encs = s.encs := by delta State.bump State.bumpBy State.bumpFld State.setFld State.setReg; rfl
@[simp] theorem bump_trigs (p : Page) (o : Nat) : (s.bump p o).trigs = s.trigs := by delta State.bump State.bumpBy State.bumpFld State.setFld State.setReg; rfl
@[simp] theorem bump_samples (p : Page) (o : Nat) : (s.bump p o).samples = s.samples := by delta State.bump State.bumpBy State.bumpFld State.setFld State.setReg; rfl
@[simp] theorem bump_sampled (p : Page) (o : Nat) : (s.bump p o).sampled = s.sampled := by delta State.bump State.bumpBy State.bumpFld State.setFld State.setReg; rfl
@[simp] theorem bump_banks (p : Page) (o : Nat) : (s.bump p o).banks = s.banks := by delta State.bump State.bumpBy State.bumpFld State.setFld State.setReg; rfl
@[simp] theorem bump_hbmReq (p : Page) (o : Nat) : (s.bump p o).hbmReq = s.hbmReq := by delta State.bump State.bumpBy State.bumpFld State.setFld State.setReg; rfl
@[simp] theorem bump_dmas (p : Page) (o : Nat) : (s.bump p o).dmas = s.dmas := by delta State.bump State.bumpBy State.bumpFld State.setFld State.setReg; rfl
@[simp] theorem bump_links (p : Page) (o : Nat) : (s.bump p o).links = s.links := by delta State.bump State.bumpBy State.bumpFld State.setFld State.setReg; rfl
@[simp] theorem bump_linkEnds (p : Page) (o : Nat) : (s.bump p o).linkEnds = s.linkEnds := by delta State.bump State.bumpBy State.bumpFld State.setFld State.setReg; rfl
@[simp] theorem bump_training (p : Page) (o : Nat) : (s.bump p o).training = s.training := by delta State.bump State.bumpBy State.bumpFld State.setFld State.setReg; rfl
@[simp] theorem bump_aligners (p : Page) (o : Nat) : (s.bump p o).aligners = s.aligners := by delta State.bump State.bumpBy State.bumpFld State.setFld State.setReg; rfl
@[simp] theorem bump_sampleOut (p : Page) (o : Nat) : (s.bump p o).sampleOut = s.sampleOut := by delta State.bump State.bumpBy State.bumpFld State.setFld State.setReg; rfl
@[simp] theorem bump_fuses (p : Page) (o : Nat) : (s.bump p o).fuses = s.fuses := by delta State.bump State.bumpBy State.bumpFld State.setFld State.setReg; rfl
@[simp] theorem bump_sec (p : Page) (o : Nat) : (s.bump p o).sec = s.sec := by delta State.bump State.bumpBy State.bumpFld State.setFld State.setReg; rfl
@[simp] theorem bump_power (p : Page) (o : Nat) : (s.bump p o).power = s.power := by delta State.bump State.bumpBy State.bumpFld State.setFld State.setReg; rfl
@[simp] theorem bump_board (p : Page) (o : Nat) : (s.bump p o).board = s.board := by delta State.bump State.bumpBy State.bumpFld State.setFld State.setReg; rfl
@[simp] theorem bump_released (p : Page) (o : Nat) : (s.bump p o).released = s.released := by delta State.bump State.bumpBy State.bumpFld State.setFld State.setReg; rfl
@[simp] theorem bump_grn (p : Page) (o : Nat) : (s.bump p o).grn = s.grn := by delta State.bump State.bumpBy State.bumpFld State.setFld State.setReg; rfl
@[simp] theorem bump_health (p : Page) (o : Nat) : (s.bump p o).health = s.health := by delta State.bump State.bumpBy State.bumpFld State.setFld State.setReg; rfl
@[simp] theorem bump_grps (p : Page) (o : Nat) : (s.bump p o).grps = s.grps := by delta State.bump State.bumpBy State.bumpFld State.setFld State.setReg; rfl
@[simp] theorem bump_pinSet (p : Page) (o : Nat) : (s.bump p o).pinSet = s.pinSet := by delta State.bump State.bumpBy State.bumpFld State.setFld State.setReg; rfl
@[simp] theorem bump_calT0 (p : Page) (o : Nat) : (s.bump p o).calT0 = s.calT0 := by delta State.bump State.bumpBy State.bumpFld State.setFld State.setReg; rfl
@[simp] theorem bump_braked (p : Page) (o : Nat) : (s.bump p o).braked = s.braked := by delta State.bump State.bumpBy State.bumpFld State.setFld State.setReg; rfl
@[simp] theorem bump_capBraked (p : Page) (o : Nat) : (s.bump p o).capBraked = s.capBraked := by delta State.bump State.bumpBy State.bumpFld State.setFld State.setReg; rfl
@[simp] theorem bump_twin (p : Page) (o : Nat) : (s.bump p o).twin = s.twin := by delta State.bump State.bumpBy State.bumpFld State.setFld State.setReg; rfl
@[simp] theorem bump_cores (p : Page) (o : Nat) : (s.bump p o).cores = s.cores := by delta State.bump State.bumpBy State.bumpFld State.setFld State.setReg; rfl
@[simp] theorem bump_resv (p : Page) (o : Nat) : (s.bump p o).resv = s.resv := by delta State.bump State.bumpBy State.bumpFld State.setFld State.setReg; rfl
@[simp] theorem bump_fabWdt (p : Page) (o : Nat) : (s.bump p o).fabWdt = s.fabWdt := by delta State.bump State.bumpBy State.bumpFld State.setFld State.setReg; rfl
@[simp] theorem bump_pkgWdt (p : Page) (o : Nat) : (s.bump p o).pkgWdt = s.pkgWdt := by delta State.bump State.bumpBy State.bumpFld State.setFld State.setReg; rfl
@[simp] theorem bump_loader (p : Page) (o : Nat) : (s.bump p o).loader = s.loader := by delta State.bump State.bumpBy State.bumpFld State.setFld State.setReg; rfl
@[simp] theorem bump_bist (p : Page) (o : Nat) : (s.bump p o).bist = s.bist := by delta State.bump State.bumpBy State.bumpFld State.setFld State.setReg; rfl
@[simp] theorem bump_outer (p : Page) (o : Nat) : (s.bump p o).outer = s.outer := by delta State.bump State.bumpBy State.bumpFld State.setFld State.setReg; rfl
@[simp] theorem bump_dbg (p : Page) (o : Nat) : (s.bump p o).dbg = s.dbg := by delta State.bump State.bumpBy State.bumpFld State.setFld State.setReg; rfl
@[simp] theorem bump_trace (p : Page) (o : Nat) : (s.bump p o).trace = s.trace := by delta State.bump State.bumpBy State.bumpFld State.setFld State.setReg; rfl
@[simp] theorem bump_clearing (p : Page) (o : Nat) : (s.bump p o).clearing = s.clearing := by delta State.bump State.bumpBy State.bumpFld State.setFld State.setReg; rfl

@[simp] theorem writeByte_pending (a : Nat) (v : Byte) : (s.writeByte a v).pending = s.pending := by delta State.writeByte; rfl
@[simp] theorem writeByte_regs (a : Nat) (v : Byte) : (s.writeByte a v).regs = s.regs := by delta State.writeByte; rfl
@[simp] theorem writeByte_outbox (a : Nat) (v : Byte) : (s.writeByte a v).outbox = s.outbox := by delta State.writeByte; rfl
@[simp] theorem writeByte_cells (a : Nat) (v : Byte) : (s.writeByte a v).cells = s.cells := by delta State.writeByte; rfl
@[simp] theorem writeByte_cellCtl (a : Nat) (v : Byte) : (s.writeByte a v).cellCtl = s.cellCtl := by delta State.writeByte; rfl
@[simp] theorem writeByte_slots (a : Nat) (v : Byte) : (s.writeByte a v).slots = s.slots := by delta State.writeByte; rfl
@[simp] theorem writeByte_tileCtl (a : Nat) (v : Byte) : (s.writeByte a v).tileCtl = s.tileCtl := by delta State.writeByte; rfl
@[simp] theorem writeByte_switch (a : Nat) (v : Byte) : (s.writeByte a v).switch = s.switch := by delta State.writeByte; rfl
@[simp] theorem writeByte_regions (a : Nat) (v : Byte) : (s.writeByte a v).regions = s.regions := by delta State.writeByte; rfl
@[simp] theorem writeByte_cycle (a : Nat) (v : Byte) : (s.writeByte a v).cycle = s.cycle := by delta State.writeByte; rfl
@[simp] theorem writeByte_tb (a : Nat) (v : Byte) : (s.writeByte a v).tb = s.tb := by delta State.writeByte; rfl
@[simp] theorem writeByte_tbOff (a : Nat) (v : Byte) : (s.writeByte a v).tbOff = s.tbOff := by delta State.writeByte; rfl
@[simp] theorem writeByte_tbSlew (a : Nat) (v : Byte) : (s.writeByte a v).tbSlew = s.tbSlew := by delta State.writeByte; rfl
@[simp] theorem writeByte_free (a : Nat) (v : Byte) : (s.writeByte a v).free = s.free := by delta State.writeByte; rfl
@[simp] theorem writeByte_status (a : Nat) (v : Byte) : (s.writeByte a v).status = s.status := by delta State.writeByte; rfl
@[simp] theorem writeByte_answer (a : Nat) (v : Byte) : (s.writeByte a v).answer = s.answer := by delta State.writeByte; rfl
@[simp] theorem writeByte_routers (a : Nat) (v : Byte) : (s.writeByte a v).routers = s.routers := by delta State.writeByte; rfl
@[simp] theorem writeByte_dieCogs (a : Nat) (v : Byte) : (s.writeByte a v).dieCogs = s.dieCogs := by delta State.writeByte; rfl
@[simp] theorem writeByte_cogTab (a : Nat) (v : Byte) : (s.writeByte a v).cogTab = s.cogTab := by delta State.writeByte; rfl
@[simp] theorem writeByte_gsWait (a : Nat) (v : Byte) : (s.writeByte a v).gsWait = s.gsWait := by delta State.writeByte; rfl
@[simp] theorem writeByte_capWin (a : Nat) (v : Byte) : (s.writeByte a v).capWin = s.capWin := by delta State.writeByte; rfl
@[simp] theorem writeByte_isolated (a : Nat) (v : Byte) : (s.writeByte a v).isolated = s.isolated := by delta State.writeByte; rfl
@[simp] theorem writeByte_descs (a : Nat) (v : Byte) : (s.writeByte a v).descs = s.descs := by delta State.writeByte; rfl
@[simp] theorem writeByte_lru (a : Nat) (v : Byte) : (s.writeByte a v).lru = s.lru := by delta State.writeByte; rfl
@[simp] theorem writeByte_atts (a : Nat) (v : Byte) : (s.writeByte a v).atts = s.atts := by delta State.writeByte; rfl
@[simp] theorem writeByte_mirrorOut (a : Nat) (v : Byte) : (s.writeByte a v).mirrorOut = s.mirrorOut := by delta State.writeByte; rfl
@[simp] theorem writeByte_mirrorCnt (a : Nat) (v : Byte) : (s.writeByte a v).mirrorCnt = s.mirrorCnt := by delta State.writeByte; rfl
@[simp] theorem writeByte_axes (a : Nat) (v : Byte) : (s.writeByte a v).axes = s.axes := by delta State.writeByte; rfl
@[simp] theorem writeByte_encs (a : Nat) (v : Byte) : (s.writeByte a v).encs = s.encs := by delta State.writeByte; rfl
@[simp] theorem writeByte_trigs (a : Nat) (v : Byte) : (s.writeByte a v).trigs = s.trigs := by delta State.writeByte; rfl
@[simp] theorem writeByte_samples (a : Nat) (v : Byte) : (s.writeByte a v).samples = s.samples := by delta State.writeByte; rfl
@[simp] theorem writeByte_sampled (a : Nat) (v : Byte) : (s.writeByte a v).sampled = s.sampled := by delta State.writeByte; rfl
@[simp] theorem writeByte_banks (a : Nat) (v : Byte) : (s.writeByte a v).banks = s.banks := by delta State.writeByte; rfl
@[simp] theorem writeByte_hbmReq (a : Nat) (v : Byte) : (s.writeByte a v).hbmReq = s.hbmReq := by delta State.writeByte; rfl
@[simp] theorem writeByte_dmas (a : Nat) (v : Byte) : (s.writeByte a v).dmas = s.dmas := by delta State.writeByte; rfl
@[simp] theorem writeByte_links (a : Nat) (v : Byte) : (s.writeByte a v).links = s.links := by delta State.writeByte; rfl
@[simp] theorem writeByte_linkEnds (a : Nat) (v : Byte) : (s.writeByte a v).linkEnds = s.linkEnds := by delta State.writeByte; rfl
@[simp] theorem writeByte_training (a : Nat) (v : Byte) : (s.writeByte a v).training = s.training := by delta State.writeByte; rfl
@[simp] theorem writeByte_aligners (a : Nat) (v : Byte) : (s.writeByte a v).aligners = s.aligners := by delta State.writeByte; rfl
@[simp] theorem writeByte_sampleOut (a : Nat) (v : Byte) : (s.writeByte a v).sampleOut = s.sampleOut := by delta State.writeByte; rfl
@[simp] theorem writeByte_fuses (a : Nat) (v : Byte) : (s.writeByte a v).fuses = s.fuses := by delta State.writeByte; rfl
@[simp] theorem writeByte_sec (a : Nat) (v : Byte) : (s.writeByte a v).sec = s.sec := by delta State.writeByte; rfl
@[simp] theorem writeByte_power (a : Nat) (v : Byte) : (s.writeByte a v).power = s.power := by delta State.writeByte; rfl
@[simp] theorem writeByte_board (a : Nat) (v : Byte) : (s.writeByte a v).board = s.board := by delta State.writeByte; rfl
@[simp] theorem writeByte_released (a : Nat) (v : Byte) : (s.writeByte a v).released = s.released := by delta State.writeByte; rfl
@[simp] theorem writeByte_grn (a : Nat) (v : Byte) : (s.writeByte a v).grn = s.grn := by delta State.writeByte; rfl
@[simp] theorem writeByte_health (a : Nat) (v : Byte) : (s.writeByte a v).health = s.health := by delta State.writeByte; rfl
@[simp] theorem writeByte_grps (a : Nat) (v : Byte) : (s.writeByte a v).grps = s.grps := by delta State.writeByte; rfl
@[simp] theorem writeByte_pinSet (a : Nat) (v : Byte) : (s.writeByte a v).pinSet = s.pinSet := by delta State.writeByte; rfl
@[simp] theorem writeByte_calT0 (a : Nat) (v : Byte) : (s.writeByte a v).calT0 = s.calT0 := by delta State.writeByte; rfl
@[simp] theorem writeByte_braked (a : Nat) (v : Byte) : (s.writeByte a v).braked = s.braked := by delta State.writeByte; rfl
@[simp] theorem writeByte_capBraked (a : Nat) (v : Byte) : (s.writeByte a v).capBraked = s.capBraked := by delta State.writeByte; rfl
@[simp] theorem writeByte_twin (a : Nat) (v : Byte) : (s.writeByte a v).twin = s.twin := by delta State.writeByte; rfl
@[simp] theorem writeByte_cores (a : Nat) (v : Byte) : (s.writeByte a v).cores = s.cores := by delta State.writeByte; rfl
@[simp] theorem writeByte_resv (a : Nat) (v : Byte) : (s.writeByte a v).resv = s.resv := by delta State.writeByte; rfl
@[simp] theorem writeByte_fabWdt (a : Nat) (v : Byte) : (s.writeByte a v).fabWdt = s.fabWdt := by delta State.writeByte; rfl
@[simp] theorem writeByte_pkgWdt (a : Nat) (v : Byte) : (s.writeByte a v).pkgWdt = s.pkgWdt := by delta State.writeByte; rfl
@[simp] theorem writeByte_loader (a : Nat) (v : Byte) : (s.writeByte a v).loader = s.loader := by delta State.writeByte; rfl
@[simp] theorem writeByte_bist (a : Nat) (v : Byte) : (s.writeByte a v).bist = s.bist := by delta State.writeByte; rfl
@[simp] theorem writeByte_outer (a : Nat) (v : Byte) : (s.writeByte a v).outer = s.outer := by delta State.writeByte; rfl
@[simp] theorem writeByte_dbg (a : Nat) (v : Byte) : (s.writeByte a v).dbg = s.dbg := by delta State.writeByte; rfl
@[simp] theorem writeByte_trace (a : Nat) (v : Byte) : (s.writeByte a v).trace = s.trace := by delta State.writeByte; rfl
@[simp] theorem writeByte_clearing (a : Nat) (v : Byte) : (s.writeByte a v).clearing = s.clearing := by delta State.writeByte; rfl

@[simp] theorem clearBytes_pending (a n : Nat) : (s.clearBytes a n).pending = s.pending := by delta State.clearBytes; rfl
@[simp] theorem clearBytes_regs (a n : Nat) : (s.clearBytes a n).regs = s.regs := by delta State.clearBytes; rfl
@[simp] theorem clearBytes_outbox (a n : Nat) : (s.clearBytes a n).outbox = s.outbox := by delta State.clearBytes; rfl
@[simp] theorem clearBytes_cells (a n : Nat) : (s.clearBytes a n).cells = s.cells := by delta State.clearBytes; rfl
@[simp] theorem clearBytes_cellCtl (a n : Nat) : (s.clearBytes a n).cellCtl = s.cellCtl := by delta State.clearBytes; rfl
@[simp] theorem clearBytes_slots (a n : Nat) : (s.clearBytes a n).slots = s.slots := by delta State.clearBytes; rfl
@[simp] theorem clearBytes_tileCtl (a n : Nat) : (s.clearBytes a n).tileCtl = s.tileCtl := by delta State.clearBytes; rfl
@[simp] theorem clearBytes_switch (a n : Nat) : (s.clearBytes a n).switch = s.switch := by delta State.clearBytes; rfl
@[simp] theorem clearBytes_regions (a n : Nat) : (s.clearBytes a n).regions = s.regions := by delta State.clearBytes; rfl
@[simp] theorem clearBytes_cycle (a n : Nat) : (s.clearBytes a n).cycle = s.cycle := by delta State.clearBytes; rfl
@[simp] theorem clearBytes_tb (a n : Nat) : (s.clearBytes a n).tb = s.tb := by delta State.clearBytes; rfl
@[simp] theorem clearBytes_tbOff (a n : Nat) : (s.clearBytes a n).tbOff = s.tbOff := by delta State.clearBytes; rfl
@[simp] theorem clearBytes_tbSlew (a n : Nat) : (s.clearBytes a n).tbSlew = s.tbSlew := by delta State.clearBytes; rfl
@[simp] theorem clearBytes_free (a n : Nat) : (s.clearBytes a n).free = s.free := by delta State.clearBytes; rfl
@[simp] theorem clearBytes_status (a n : Nat) : (s.clearBytes a n).status = s.status := by delta State.clearBytes; rfl
@[simp] theorem clearBytes_answer (a n : Nat) : (s.clearBytes a n).answer = s.answer := by delta State.clearBytes; rfl
@[simp] theorem clearBytes_routers (a n : Nat) : (s.clearBytes a n).routers = s.routers := by delta State.clearBytes; rfl
@[simp] theorem clearBytes_dieCogs (a n : Nat) : (s.clearBytes a n).dieCogs = s.dieCogs := by delta State.clearBytes; rfl
@[simp] theorem clearBytes_cogTab (a n : Nat) : (s.clearBytes a n).cogTab = s.cogTab := by delta State.clearBytes; rfl
@[simp] theorem clearBytes_gsWait (a n : Nat) : (s.clearBytes a n).gsWait = s.gsWait := by delta State.clearBytes; rfl
@[simp] theorem clearBytes_capWin (a n : Nat) : (s.clearBytes a n).capWin = s.capWin := by delta State.clearBytes; rfl
@[simp] theorem clearBytes_isolated (a n : Nat) : (s.clearBytes a n).isolated = s.isolated := by delta State.clearBytes; rfl
@[simp] theorem clearBytes_descs (a n : Nat) : (s.clearBytes a n).descs = s.descs := by delta State.clearBytes; rfl
@[simp] theorem clearBytes_lru (a n : Nat) : (s.clearBytes a n).lru = s.lru := by delta State.clearBytes; rfl
@[simp] theorem clearBytes_atts (a n : Nat) : (s.clearBytes a n).atts = s.atts := by delta State.clearBytes; rfl
@[simp] theorem clearBytes_mirrorOut (a n : Nat) : (s.clearBytes a n).mirrorOut = s.mirrorOut := by delta State.clearBytes; rfl
@[simp] theorem clearBytes_mirrorCnt (a n : Nat) : (s.clearBytes a n).mirrorCnt = s.mirrorCnt := by delta State.clearBytes; rfl
@[simp] theorem clearBytes_axes (a n : Nat) : (s.clearBytes a n).axes = s.axes := by delta State.clearBytes; rfl
@[simp] theorem clearBytes_encs (a n : Nat) : (s.clearBytes a n).encs = s.encs := by delta State.clearBytes; rfl
@[simp] theorem clearBytes_trigs (a n : Nat) : (s.clearBytes a n).trigs = s.trigs := by delta State.clearBytes; rfl
@[simp] theorem clearBytes_samples (a n : Nat) : (s.clearBytes a n).samples = s.samples := by delta State.clearBytes; rfl
@[simp] theorem clearBytes_sampled (a n : Nat) : (s.clearBytes a n).sampled = s.sampled := by delta State.clearBytes; rfl
@[simp] theorem clearBytes_banks (a n : Nat) : (s.clearBytes a n).banks = s.banks := by delta State.clearBytes; rfl
@[simp] theorem clearBytes_hbmReq (a n : Nat) : (s.clearBytes a n).hbmReq = s.hbmReq := by delta State.clearBytes; rfl
@[simp] theorem clearBytes_dmas (a n : Nat) : (s.clearBytes a n).dmas = s.dmas := by delta State.clearBytes; rfl
@[simp] theorem clearBytes_links (a n : Nat) : (s.clearBytes a n).links = s.links := by delta State.clearBytes; rfl
@[simp] theorem clearBytes_linkEnds (a n : Nat) : (s.clearBytes a n).linkEnds = s.linkEnds := by delta State.clearBytes; rfl
@[simp] theorem clearBytes_training (a n : Nat) : (s.clearBytes a n).training = s.training := by delta State.clearBytes; rfl
@[simp] theorem clearBytes_aligners (a n : Nat) : (s.clearBytes a n).aligners = s.aligners := by delta State.clearBytes; rfl
@[simp] theorem clearBytes_sampleOut (a n : Nat) : (s.clearBytes a n).sampleOut = s.sampleOut := by delta State.clearBytes; rfl
@[simp] theorem clearBytes_fuses (a n : Nat) : (s.clearBytes a n).fuses = s.fuses := by delta State.clearBytes; rfl
@[simp] theorem clearBytes_sec (a n : Nat) : (s.clearBytes a n).sec = s.sec := by delta State.clearBytes; rfl
@[simp] theorem clearBytes_power (a n : Nat) : (s.clearBytes a n).power = s.power := by delta State.clearBytes; rfl
@[simp] theorem clearBytes_board (a n : Nat) : (s.clearBytes a n).board = s.board := by delta State.clearBytes; rfl
@[simp] theorem clearBytes_released (a n : Nat) : (s.clearBytes a n).released = s.released := by delta State.clearBytes; rfl
@[simp] theorem clearBytes_grn (a n : Nat) : (s.clearBytes a n).grn = s.grn := by delta State.clearBytes; rfl
@[simp] theorem clearBytes_health (a n : Nat) : (s.clearBytes a n).health = s.health := by delta State.clearBytes; rfl
@[simp] theorem clearBytes_grps (a n : Nat) : (s.clearBytes a n).grps = s.grps := by delta State.clearBytes; rfl
@[simp] theorem clearBytes_pinSet (a n : Nat) : (s.clearBytes a n).pinSet = s.pinSet := by delta State.clearBytes; rfl
@[simp] theorem clearBytes_calT0 (a n : Nat) : (s.clearBytes a n).calT0 = s.calT0 := by delta State.clearBytes; rfl
@[simp] theorem clearBytes_braked (a n : Nat) : (s.clearBytes a n).braked = s.braked := by delta State.clearBytes; rfl
@[simp] theorem clearBytes_capBraked (a n : Nat) : (s.clearBytes a n).capBraked = s.capBraked := by delta State.clearBytes; rfl
@[simp] theorem clearBytes_twin (a n : Nat) : (s.clearBytes a n).twin = s.twin := by delta State.clearBytes; rfl
@[simp] theorem clearBytes_cores (a n : Nat) : (s.clearBytes a n).cores = s.cores := by delta State.clearBytes; rfl
@[simp] theorem clearBytes_resv (a n : Nat) : (s.clearBytes a n).resv = s.resv := by delta State.clearBytes; rfl
@[simp] theorem clearBytes_fabWdt (a n : Nat) : (s.clearBytes a n).fabWdt = s.fabWdt := by delta State.clearBytes; rfl
@[simp] theorem clearBytes_pkgWdt (a n : Nat) : (s.clearBytes a n).pkgWdt = s.pkgWdt := by delta State.clearBytes; rfl
@[simp] theorem clearBytes_loader (a n : Nat) : (s.clearBytes a n).loader = s.loader := by delta State.clearBytes; rfl
@[simp] theorem clearBytes_bist (a n : Nat) : (s.clearBytes a n).bist = s.bist := by delta State.clearBytes; rfl
@[simp] theorem clearBytes_outer (a n : Nat) : (s.clearBytes a n).outer = s.outer := by delta State.clearBytes; rfl
@[simp] theorem clearBytes_dbg (a n : Nat) : (s.clearBytes a n).dbg = s.dbg := by delta State.clearBytes; rfl
@[simp] theorem clearBytes_trace (a n : Nat) : (s.clearBytes a n).trace = s.trace := by delta State.clearBytes; rfl
@[simp] theorem clearBytes_clearing (a n : Nat) : (s.clearBytes a n).clearing = s.clearing := by delta State.clearBytes; rfl

@[simp] theorem send_pending (p : Packet) : (s.send p).pending = s.pending := by delta State.send; rfl
@[simp] theorem send_regs (p : Packet) : (s.send p).regs = s.regs := by delta State.send; rfl
@[simp] theorem send_mem (p : Packet) : (s.send p).mem = s.mem := by delta State.send; rfl
@[simp] theorem send_cells (p : Packet) : (s.send p).cells = s.cells := by delta State.send; rfl
@[simp] theorem send_cellCtl (p : Packet) : (s.send p).cellCtl = s.cellCtl := by delta State.send; rfl
@[simp] theorem send_slots (p : Packet) : (s.send p).slots = s.slots := by delta State.send; rfl
@[simp] theorem send_tileCtl (p : Packet) : (s.send p).tileCtl = s.tileCtl := by delta State.send; rfl
@[simp] theorem send_switch (p : Packet) : (s.send p).switch = s.switch := by delta State.send; rfl
@[simp] theorem send_regions (p : Packet) : (s.send p).regions = s.regions := by delta State.send; rfl
@[simp] theorem send_cycle (p : Packet) : (s.send p).cycle = s.cycle := by delta State.send; rfl
@[simp] theorem send_tb (p : Packet) : (s.send p).tb = s.tb := by delta State.send; rfl
@[simp] theorem send_tbOff (p : Packet) : (s.send p).tbOff = s.tbOff := by delta State.send; rfl
@[simp] theorem send_tbSlew (p : Packet) : (s.send p).tbSlew = s.tbSlew := by delta State.send; rfl
@[simp] theorem send_free (p : Packet) : (s.send p).free = s.free := by delta State.send; rfl
@[simp] theorem send_status (p : Packet) : (s.send p).status = s.status := by delta State.send; rfl
@[simp] theorem send_answer (p : Packet) : (s.send p).answer = s.answer := by delta State.send; rfl
@[simp] theorem send_routers (p : Packet) : (s.send p).routers = s.routers := by delta State.send; rfl
@[simp] theorem send_dieCogs (p : Packet) : (s.send p).dieCogs = s.dieCogs := by delta State.send; rfl
@[simp] theorem send_cogTab (p : Packet) : (s.send p).cogTab = s.cogTab := by delta State.send; rfl
@[simp] theorem send_gsWait (p : Packet) : (s.send p).gsWait = s.gsWait := by delta State.send; rfl
@[simp] theorem send_capWin (p : Packet) : (s.send p).capWin = s.capWin := by delta State.send; rfl
@[simp] theorem send_isolated (p : Packet) : (s.send p).isolated = s.isolated := by delta State.send; rfl
@[simp] theorem send_descs (p : Packet) : (s.send p).descs = s.descs := by delta State.send; rfl
@[simp] theorem send_lru (p : Packet) : (s.send p).lru = s.lru := by delta State.send; rfl
@[simp] theorem send_atts (p : Packet) : (s.send p).atts = s.atts := by delta State.send; rfl
@[simp] theorem send_mirrorOut (p : Packet) : (s.send p).mirrorOut = s.mirrorOut := by delta State.send; rfl
@[simp] theorem send_mirrorCnt (p : Packet) : (s.send p).mirrorCnt = s.mirrorCnt := by delta State.send; rfl
@[simp] theorem send_axes (p : Packet) : (s.send p).axes = s.axes := by delta State.send; rfl
@[simp] theorem send_encs (p : Packet) : (s.send p).encs = s.encs := by delta State.send; rfl
@[simp] theorem send_trigs (p : Packet) : (s.send p).trigs = s.trigs := by delta State.send; rfl
@[simp] theorem send_samples (p : Packet) : (s.send p).samples = s.samples := by delta State.send; rfl
@[simp] theorem send_sampled (p : Packet) : (s.send p).sampled = s.sampled := by delta State.send; rfl
@[simp] theorem send_banks (p : Packet) : (s.send p).banks = s.banks := by delta State.send; rfl
@[simp] theorem send_hbmReq (p : Packet) : (s.send p).hbmReq = s.hbmReq := by delta State.send; rfl
@[simp] theorem send_dmas (p : Packet) : (s.send p).dmas = s.dmas := by delta State.send; rfl
@[simp] theorem send_links (p : Packet) : (s.send p).links = s.links := by delta State.send; rfl
@[simp] theorem send_linkEnds (p : Packet) : (s.send p).linkEnds = s.linkEnds := by delta State.send; rfl
@[simp] theorem send_training (p : Packet) : (s.send p).training = s.training := by delta State.send; rfl
@[simp] theorem send_aligners (p : Packet) : (s.send p).aligners = s.aligners := by delta State.send; rfl
@[simp] theorem send_sampleOut (p : Packet) : (s.send p).sampleOut = s.sampleOut := by delta State.send; rfl
@[simp] theorem send_fuses (p : Packet) : (s.send p).fuses = s.fuses := by delta State.send; rfl
@[simp] theorem send_sec (p : Packet) : (s.send p).sec = s.sec := by delta State.send; rfl
@[simp] theorem send_power (p : Packet) : (s.send p).power = s.power := by delta State.send; rfl
@[simp] theorem send_board (p : Packet) : (s.send p).board = s.board := by delta State.send; rfl
@[simp] theorem send_released (p : Packet) : (s.send p).released = s.released := by delta State.send; rfl
@[simp] theorem send_grn (p : Packet) : (s.send p).grn = s.grn := by delta State.send; rfl
@[simp] theorem send_health (p : Packet) : (s.send p).health = s.health := by delta State.send; rfl
@[simp] theorem send_grps (p : Packet) : (s.send p).grps = s.grps := by delta State.send; rfl
@[simp] theorem send_pinSet (p : Packet) : (s.send p).pinSet = s.pinSet := by delta State.send; rfl
@[simp] theorem send_calT0 (p : Packet) : (s.send p).calT0 = s.calT0 := by delta State.send; rfl
@[simp] theorem send_braked (p : Packet) : (s.send p).braked = s.braked := by delta State.send; rfl
@[simp] theorem send_capBraked (p : Packet) : (s.send p).capBraked = s.capBraked := by delta State.send; rfl
@[simp] theorem send_twin (p : Packet) : (s.send p).twin = s.twin := by delta State.send; rfl
@[simp] theorem send_cores (p : Packet) : (s.send p).cores = s.cores := by delta State.send; rfl
@[simp] theorem send_resv (p : Packet) : (s.send p).resv = s.resv := by delta State.send; rfl
@[simp] theorem send_fabWdt (p : Packet) : (s.send p).fabWdt = s.fabWdt := by delta State.send; rfl
@[simp] theorem send_pkgWdt (p : Packet) : (s.send p).pkgWdt = s.pkgWdt := by delta State.send; rfl
@[simp] theorem send_loader (p : Packet) : (s.send p).loader = s.loader := by delta State.send; rfl
@[simp] theorem send_bist (p : Packet) : (s.send p).bist = s.bist := by delta State.send; rfl
@[simp] theorem send_outer (p : Packet) : (s.send p).outer = s.outer := by delta State.send; rfl
@[simp] theorem send_dbg (p : Packet) : (s.send p).dbg = s.dbg := by delta State.send; rfl
@[simp] theorem send_trace (p : Packet) : (s.send p).trace = s.trace := by delta State.send; rfl
@[simp] theorem send_clearing (p : Packet) : (s.send p).clearing = s.clearing := by delta State.send; rfl

@[simp] theorem reply_pending (n : Nat) (d : List Word) : (s.reply n d).pending = s.pending := by delta State.reply; rfl
@[simp] theorem reply_regs (n : Nat) (d : List Word) : (s.reply n d).regs = s.regs := by delta State.reply; rfl
@[simp] theorem reply_mem (n : Nat) (d : List Word) : (s.reply n d).mem = s.mem := by delta State.reply; rfl
@[simp] theorem reply_outbox (n : Nat) (d : List Word) : (s.reply n d).outbox = s.outbox := by delta State.reply; rfl
@[simp] theorem reply_cells (n : Nat) (d : List Word) : (s.reply n d).cells = s.cells := by delta State.reply; rfl
@[simp] theorem reply_cellCtl (n : Nat) (d : List Word) : (s.reply n d).cellCtl = s.cellCtl := by delta State.reply; rfl
@[simp] theorem reply_slots (n : Nat) (d : List Word) : (s.reply n d).slots = s.slots := by delta State.reply; rfl
@[simp] theorem reply_tileCtl (n : Nat) (d : List Word) : (s.reply n d).tileCtl = s.tileCtl := by delta State.reply; rfl
@[simp] theorem reply_switch (n : Nat) (d : List Word) : (s.reply n d).switch = s.switch := by delta State.reply; rfl
@[simp] theorem reply_regions (n : Nat) (d : List Word) : (s.reply n d).regions = s.regions := by delta State.reply; rfl
@[simp] theorem reply_cycle (n : Nat) (d : List Word) : (s.reply n d).cycle = s.cycle := by delta State.reply; rfl
@[simp] theorem reply_tb (n : Nat) (d : List Word) : (s.reply n d).tb = s.tb := by delta State.reply; rfl
@[simp] theorem reply_tbOff (n : Nat) (d : List Word) : (s.reply n d).tbOff = s.tbOff := by delta State.reply; rfl
@[simp] theorem reply_tbSlew (n : Nat) (d : List Word) : (s.reply n d).tbSlew = s.tbSlew := by delta State.reply; rfl
@[simp] theorem reply_free (n : Nat) (d : List Word) : (s.reply n d).free = s.free := by delta State.reply; rfl
@[simp] theorem reply_routers (n : Nat) (d : List Word) : (s.reply n d).routers = s.routers := by delta State.reply; rfl
@[simp] theorem reply_dieCogs (n : Nat) (d : List Word) : (s.reply n d).dieCogs = s.dieCogs := by delta State.reply; rfl
@[simp] theorem reply_cogTab (n : Nat) (d : List Word) : (s.reply n d).cogTab = s.cogTab := by delta State.reply; rfl
@[simp] theorem reply_gsWait (n : Nat) (d : List Word) : (s.reply n d).gsWait = s.gsWait := by delta State.reply; rfl
@[simp] theorem reply_capWin (n : Nat) (d : List Word) : (s.reply n d).capWin = s.capWin := by delta State.reply; rfl
@[simp] theorem reply_isolated (n : Nat) (d : List Word) : (s.reply n d).isolated = s.isolated := by delta State.reply; rfl
@[simp] theorem reply_descs (n : Nat) (d : List Word) : (s.reply n d).descs = s.descs := by delta State.reply; rfl
@[simp] theorem reply_lru (n : Nat) (d : List Word) : (s.reply n d).lru = s.lru := by delta State.reply; rfl
@[simp] theorem reply_atts (n : Nat) (d : List Word) : (s.reply n d).atts = s.atts := by delta State.reply; rfl
@[simp] theorem reply_mirrorOut (n : Nat) (d : List Word) : (s.reply n d).mirrorOut = s.mirrorOut := by delta State.reply; rfl
@[simp] theorem reply_mirrorCnt (n : Nat) (d : List Word) : (s.reply n d).mirrorCnt = s.mirrorCnt := by delta State.reply; rfl
@[simp] theorem reply_axes (n : Nat) (d : List Word) : (s.reply n d).axes = s.axes := by delta State.reply; rfl
@[simp] theorem reply_encs (n : Nat) (d : List Word) : (s.reply n d).encs = s.encs := by delta State.reply; rfl
@[simp] theorem reply_trigs (n : Nat) (d : List Word) : (s.reply n d).trigs = s.trigs := by delta State.reply; rfl
@[simp] theorem reply_samples (n : Nat) (d : List Word) : (s.reply n d).samples = s.samples := by delta State.reply; rfl
@[simp] theorem reply_sampled (n : Nat) (d : List Word) : (s.reply n d).sampled = s.sampled := by delta State.reply; rfl
@[simp] theorem reply_banks (n : Nat) (d : List Word) : (s.reply n d).banks = s.banks := by delta State.reply; rfl
@[simp] theorem reply_hbmReq (n : Nat) (d : List Word) : (s.reply n d).hbmReq = s.hbmReq := by delta State.reply; rfl
@[simp] theorem reply_dmas (n : Nat) (d : List Word) : (s.reply n d).dmas = s.dmas := by delta State.reply; rfl
@[simp] theorem reply_links (n : Nat) (d : List Word) : (s.reply n d).links = s.links := by delta State.reply; rfl
@[simp] theorem reply_linkEnds (n : Nat) (d : List Word) : (s.reply n d).linkEnds = s.linkEnds := by delta State.reply; rfl
@[simp] theorem reply_training (n : Nat) (d : List Word) : (s.reply n d).training = s.training := by delta State.reply; rfl
@[simp] theorem reply_aligners (n : Nat) (d : List Word) : (s.reply n d).aligners = s.aligners := by delta State.reply; rfl
@[simp] theorem reply_sampleOut (n : Nat) (d : List Word) : (s.reply n d).sampleOut = s.sampleOut := by delta State.reply; rfl
@[simp] theorem reply_fuses (n : Nat) (d : List Word) : (s.reply n d).fuses = s.fuses := by delta State.reply; rfl
@[simp] theorem reply_sec (n : Nat) (d : List Word) : (s.reply n d).sec = s.sec := by delta State.reply; rfl
@[simp] theorem reply_power (n : Nat) (d : List Word) : (s.reply n d).power = s.power := by delta State.reply; rfl
@[simp] theorem reply_board (n : Nat) (d : List Word) : (s.reply n d).board = s.board := by delta State.reply; rfl
@[simp] theorem reply_released (n : Nat) (d : List Word) : (s.reply n d).released = s.released := by delta State.reply; rfl
@[simp] theorem reply_grn (n : Nat) (d : List Word) : (s.reply n d).grn = s.grn := by delta State.reply; rfl
@[simp] theorem reply_health (n : Nat) (d : List Word) : (s.reply n d).health = s.health := by delta State.reply; rfl
@[simp] theorem reply_grps (n : Nat) (d : List Word) : (s.reply n d).grps = s.grps := by delta State.reply; rfl
@[simp] theorem reply_pinSet (n : Nat) (d : List Word) : (s.reply n d).pinSet = s.pinSet := by delta State.reply; rfl
@[simp] theorem reply_calT0 (n : Nat) (d : List Word) : (s.reply n d).calT0 = s.calT0 := by delta State.reply; rfl
@[simp] theorem reply_braked (n : Nat) (d : List Word) : (s.reply n d).braked = s.braked := by delta State.reply; rfl
@[simp] theorem reply_capBraked (n : Nat) (d : List Word) : (s.reply n d).capBraked = s.capBraked := by delta State.reply; rfl
@[simp] theorem reply_twin (n : Nat) (d : List Word) : (s.reply n d).twin = s.twin := by delta State.reply; rfl
@[simp] theorem reply_cores (n : Nat) (d : List Word) : (s.reply n d).cores = s.cores := by delta State.reply; rfl
@[simp] theorem reply_resv (n : Nat) (d : List Word) : (s.reply n d).resv = s.resv := by delta State.reply; rfl
@[simp] theorem reply_fabWdt (n : Nat) (d : List Word) : (s.reply n d).fabWdt = s.fabWdt := by delta State.reply; rfl
@[simp] theorem reply_pkgWdt (n : Nat) (d : List Word) : (s.reply n d).pkgWdt = s.pkgWdt := by delta State.reply; rfl
@[simp] theorem reply_loader (n : Nat) (d : List Word) : (s.reply n d).loader = s.loader := by delta State.reply; rfl
@[simp] theorem reply_bist (n : Nat) (d : List Word) : (s.reply n d).bist = s.bist := by delta State.reply; rfl
@[simp] theorem reply_outer (n : Nat) (d : List Word) : (s.reply n d).outer = s.outer := by delta State.reply; rfl
@[simp] theorem reply_dbg (n : Nat) (d : List Word) : (s.reply n d).dbg = s.dbg := by delta State.reply; rfl
@[simp] theorem reply_trace (n : Nat) (d : List Word) : (s.reply n d).trace = s.trace := by delta State.reply; rfl
@[simp] theorem reply_clearing (n : Nat) (d : List Word) : (s.reply n d).clearing = s.clearing := by delta State.reply; rfl

@[simp] theorem setCell_pending (k : Nat) (x : Cell) : (s.setCell k x).pending = s.pending := by delta State.setCell; rfl
@[simp] theorem setCell_regs (k : Nat) (x : Cell) : (s.setCell k x).regs = s.regs := by delta State.setCell; rfl
@[simp] theorem setCell_mem (k : Nat) (x : Cell) : (s.setCell k x).mem = s.mem := by delta State.setCell; rfl
@[simp] theorem setCell_outbox (k : Nat) (x : Cell) : (s.setCell k x).outbox = s.outbox := by delta State.setCell; rfl
@[simp] theorem setCell_cellCtl (k : Nat) (x : Cell) : (s.setCell k x).cellCtl = s.cellCtl := by delta State.setCell; rfl
@[simp] theorem setCell_slots (k : Nat) (x : Cell) : (s.setCell k x).slots = s.slots := by delta State.setCell; rfl
@[simp] theorem setCell_tileCtl (k : Nat) (x : Cell) : (s.setCell k x).tileCtl = s.tileCtl := by delta State.setCell; rfl
@[simp] theorem setCell_switch (k : Nat) (x : Cell) : (s.setCell k x).switch = s.switch := by delta State.setCell; rfl
@[simp] theorem setCell_regions (k : Nat) (x : Cell) : (s.setCell k x).regions = s.regions := by delta State.setCell; rfl
@[simp] theorem setCell_cycle (k : Nat) (x : Cell) : (s.setCell k x).cycle = s.cycle := by delta State.setCell; rfl
@[simp] theorem setCell_tb (k : Nat) (x : Cell) : (s.setCell k x).tb = s.tb := by delta State.setCell; rfl
@[simp] theorem setCell_tbOff (k : Nat) (x : Cell) : (s.setCell k x).tbOff = s.tbOff := by delta State.setCell; rfl
@[simp] theorem setCell_tbSlew (k : Nat) (x : Cell) : (s.setCell k x).tbSlew = s.tbSlew := by delta State.setCell; rfl
@[simp] theorem setCell_free (k : Nat) (x : Cell) : (s.setCell k x).free = s.free := by delta State.setCell; rfl
@[simp] theorem setCell_status (k : Nat) (x : Cell) : (s.setCell k x).status = s.status := by delta State.setCell; rfl
@[simp] theorem setCell_answer (k : Nat) (x : Cell) : (s.setCell k x).answer = s.answer := by delta State.setCell; rfl
@[simp] theorem setCell_routers (k : Nat) (x : Cell) : (s.setCell k x).routers = s.routers := by delta State.setCell; rfl
@[simp] theorem setCell_dieCogs (k : Nat) (x : Cell) : (s.setCell k x).dieCogs = s.dieCogs := by delta State.setCell; rfl
@[simp] theorem setCell_cogTab (k : Nat) (x : Cell) : (s.setCell k x).cogTab = s.cogTab := by delta State.setCell; rfl
@[simp] theorem setCell_gsWait (k : Nat) (x : Cell) : (s.setCell k x).gsWait = s.gsWait := by delta State.setCell; rfl
@[simp] theorem setCell_capWin (k : Nat) (x : Cell) : (s.setCell k x).capWin = s.capWin := by delta State.setCell; rfl
@[simp] theorem setCell_isolated (k : Nat) (x : Cell) : (s.setCell k x).isolated = s.isolated := by delta State.setCell; rfl
@[simp] theorem setCell_descs (k : Nat) (x : Cell) : (s.setCell k x).descs = s.descs := by delta State.setCell; rfl
@[simp] theorem setCell_lru (k : Nat) (x : Cell) : (s.setCell k x).lru = s.lru := by delta State.setCell; rfl
@[simp] theorem setCell_atts (k : Nat) (x : Cell) : (s.setCell k x).atts = s.atts := by delta State.setCell; rfl
@[simp] theorem setCell_mirrorOut (k : Nat) (x : Cell) : (s.setCell k x).mirrorOut = s.mirrorOut := by delta State.setCell; rfl
@[simp] theorem setCell_mirrorCnt (k : Nat) (x : Cell) : (s.setCell k x).mirrorCnt = s.mirrorCnt := by delta State.setCell; rfl
@[simp] theorem setCell_axes (k : Nat) (x : Cell) : (s.setCell k x).axes = s.axes := by delta State.setCell; rfl
@[simp] theorem setCell_encs (k : Nat) (x : Cell) : (s.setCell k x).encs = s.encs := by delta State.setCell; rfl
@[simp] theorem setCell_trigs (k : Nat) (x : Cell) : (s.setCell k x).trigs = s.trigs := by delta State.setCell; rfl
@[simp] theorem setCell_samples (k : Nat) (x : Cell) : (s.setCell k x).samples = s.samples := by delta State.setCell; rfl
@[simp] theorem setCell_sampled (k : Nat) (x : Cell) : (s.setCell k x).sampled = s.sampled := by delta State.setCell; rfl
@[simp] theorem setCell_banks (k : Nat) (x : Cell) : (s.setCell k x).banks = s.banks := by delta State.setCell; rfl
@[simp] theorem setCell_hbmReq (k : Nat) (x : Cell) : (s.setCell k x).hbmReq = s.hbmReq := by delta State.setCell; rfl
@[simp] theorem setCell_dmas (k : Nat) (x : Cell) : (s.setCell k x).dmas = s.dmas := by delta State.setCell; rfl
@[simp] theorem setCell_links (k : Nat) (x : Cell) : (s.setCell k x).links = s.links := by delta State.setCell; rfl
@[simp] theorem setCell_linkEnds (k : Nat) (x : Cell) : (s.setCell k x).linkEnds = s.linkEnds := by delta State.setCell; rfl
@[simp] theorem setCell_training (k : Nat) (x : Cell) : (s.setCell k x).training = s.training := by delta State.setCell; rfl
@[simp] theorem setCell_aligners (k : Nat) (x : Cell) : (s.setCell k x).aligners = s.aligners := by delta State.setCell; rfl
@[simp] theorem setCell_sampleOut (k : Nat) (x : Cell) : (s.setCell k x).sampleOut = s.sampleOut := by delta State.setCell; rfl
@[simp] theorem setCell_fuses (k : Nat) (x : Cell) : (s.setCell k x).fuses = s.fuses := by delta State.setCell; rfl
@[simp] theorem setCell_sec (k : Nat) (x : Cell) : (s.setCell k x).sec = s.sec := by delta State.setCell; rfl
@[simp] theorem setCell_power (k : Nat) (x : Cell) : (s.setCell k x).power = s.power := by delta State.setCell; rfl
@[simp] theorem setCell_board (k : Nat) (x : Cell) : (s.setCell k x).board = s.board := by delta State.setCell; rfl
@[simp] theorem setCell_released (k : Nat) (x : Cell) : (s.setCell k x).released = s.released := by delta State.setCell; rfl
@[simp] theorem setCell_grn (k : Nat) (x : Cell) : (s.setCell k x).grn = s.grn := by delta State.setCell; rfl
@[simp] theorem setCell_health (k : Nat) (x : Cell) : (s.setCell k x).health = s.health := by delta State.setCell; rfl
@[simp] theorem setCell_grps (k : Nat) (x : Cell) : (s.setCell k x).grps = s.grps := by delta State.setCell; rfl
@[simp] theorem setCell_pinSet (k : Nat) (x : Cell) : (s.setCell k x).pinSet = s.pinSet := by delta State.setCell; rfl
@[simp] theorem setCell_calT0 (k : Nat) (x : Cell) : (s.setCell k x).calT0 = s.calT0 := by delta State.setCell; rfl
@[simp] theorem setCell_braked (k : Nat) (x : Cell) : (s.setCell k x).braked = s.braked := by delta State.setCell; rfl
@[simp] theorem setCell_capBraked (k : Nat) (x : Cell) : (s.setCell k x).capBraked = s.capBraked := by delta State.setCell; rfl
@[simp] theorem setCell_twin (k : Nat) (x : Cell) : (s.setCell k x).twin = s.twin := by delta State.setCell; rfl
@[simp] theorem setCell_cores (k : Nat) (x : Cell) : (s.setCell k x).cores = s.cores := by delta State.setCell; rfl
@[simp] theorem setCell_resv (k : Nat) (x : Cell) : (s.setCell k x).resv = s.resv := by delta State.setCell; rfl
@[simp] theorem setCell_fabWdt (k : Nat) (x : Cell) : (s.setCell k x).fabWdt = s.fabWdt := by delta State.setCell; rfl
@[simp] theorem setCell_pkgWdt (k : Nat) (x : Cell) : (s.setCell k x).pkgWdt = s.pkgWdt := by delta State.setCell; rfl
@[simp] theorem setCell_loader (k : Nat) (x : Cell) : (s.setCell k x).loader = s.loader := by delta State.setCell; rfl
@[simp] theorem setCell_bist (k : Nat) (x : Cell) : (s.setCell k x).bist = s.bist := by delta State.setCell; rfl
@[simp] theorem setCell_outer (k : Nat) (x : Cell) : (s.setCell k x).outer = s.outer := by delta State.setCell; rfl
@[simp] theorem setCell_dbg (k : Nat) (x : Cell) : (s.setCell k x).dbg = s.dbg := by delta State.setCell; rfl
@[simp] theorem setCell_trace (k : Nat) (x : Cell) : (s.setCell k x).trace = s.trace := by delta State.setCell; rfl
@[simp] theorem setCell_clearing (k : Nat) (x : Cell) : (s.setCell k x).clearing = s.clearing := by delta State.setCell; rfl

@[simp] theorem setRegion_pending (k : Nat) (x : Region) : (s.setRegion k x).pending = s.pending := by delta State.setRegion; rfl
@[simp] theorem setRegion_regs (k : Nat) (x : Region) : (s.setRegion k x).regs = s.regs := by delta State.setRegion; rfl
@[simp] theorem setRegion_mem (k : Nat) (x : Region) : (s.setRegion k x).mem = s.mem := by delta State.setRegion; rfl
@[simp] theorem setRegion_outbox (k : Nat) (x : Region) : (s.setRegion k x).outbox = s.outbox := by delta State.setRegion; rfl
@[simp] theorem setRegion_cells (k : Nat) (x : Region) : (s.setRegion k x).cells = s.cells := by delta State.setRegion; rfl
@[simp] theorem setRegion_cellCtl (k : Nat) (x : Region) : (s.setRegion k x).cellCtl = s.cellCtl := by delta State.setRegion; rfl
@[simp] theorem setRegion_slots (k : Nat) (x : Region) : (s.setRegion k x).slots = s.slots := by delta State.setRegion; rfl
@[simp] theorem setRegion_tileCtl (k : Nat) (x : Region) : (s.setRegion k x).tileCtl = s.tileCtl := by delta State.setRegion; rfl
@[simp] theorem setRegion_switch (k : Nat) (x : Region) : (s.setRegion k x).switch = s.switch := by delta State.setRegion; rfl
@[simp] theorem setRegion_cycle (k : Nat) (x : Region) : (s.setRegion k x).cycle = s.cycle := by delta State.setRegion; rfl
@[simp] theorem setRegion_tb (k : Nat) (x : Region) : (s.setRegion k x).tb = s.tb := by delta State.setRegion; rfl
@[simp] theorem setRegion_tbOff (k : Nat) (x : Region) : (s.setRegion k x).tbOff = s.tbOff := by delta State.setRegion; rfl
@[simp] theorem setRegion_tbSlew (k : Nat) (x : Region) : (s.setRegion k x).tbSlew = s.tbSlew := by delta State.setRegion; rfl
@[simp] theorem setRegion_free (k : Nat) (x : Region) : (s.setRegion k x).free = s.free := by delta State.setRegion; rfl
@[simp] theorem setRegion_status (k : Nat) (x : Region) : (s.setRegion k x).status = s.status := by delta State.setRegion; rfl
@[simp] theorem setRegion_answer (k : Nat) (x : Region) : (s.setRegion k x).answer = s.answer := by delta State.setRegion; rfl
@[simp] theorem setRegion_routers (k : Nat) (x : Region) : (s.setRegion k x).routers = s.routers := by delta State.setRegion; rfl
@[simp] theorem setRegion_dieCogs (k : Nat) (x : Region) : (s.setRegion k x).dieCogs = s.dieCogs := by delta State.setRegion; rfl
@[simp] theorem setRegion_cogTab (k : Nat) (x : Region) : (s.setRegion k x).cogTab = s.cogTab := by delta State.setRegion; rfl
@[simp] theorem setRegion_gsWait (k : Nat) (x : Region) : (s.setRegion k x).gsWait = s.gsWait := by delta State.setRegion; rfl
@[simp] theorem setRegion_capWin (k : Nat) (x : Region) : (s.setRegion k x).capWin = s.capWin := by delta State.setRegion; rfl
@[simp] theorem setRegion_isolated (k : Nat) (x : Region) : (s.setRegion k x).isolated = s.isolated := by delta State.setRegion; rfl
@[simp] theorem setRegion_descs (k : Nat) (x : Region) : (s.setRegion k x).descs = s.descs := by delta State.setRegion; rfl
@[simp] theorem setRegion_lru (k : Nat) (x : Region) : (s.setRegion k x).lru = s.lru := by delta State.setRegion; rfl
@[simp] theorem setRegion_atts (k : Nat) (x : Region) : (s.setRegion k x).atts = s.atts := by delta State.setRegion; rfl
@[simp] theorem setRegion_mirrorOut (k : Nat) (x : Region) : (s.setRegion k x).mirrorOut = s.mirrorOut := by delta State.setRegion; rfl
@[simp] theorem setRegion_mirrorCnt (k : Nat) (x : Region) : (s.setRegion k x).mirrorCnt = s.mirrorCnt := by delta State.setRegion; rfl
@[simp] theorem setRegion_axes (k : Nat) (x : Region) : (s.setRegion k x).axes = s.axes := by delta State.setRegion; rfl
@[simp] theorem setRegion_encs (k : Nat) (x : Region) : (s.setRegion k x).encs = s.encs := by delta State.setRegion; rfl
@[simp] theorem setRegion_trigs (k : Nat) (x : Region) : (s.setRegion k x).trigs = s.trigs := by delta State.setRegion; rfl
@[simp] theorem setRegion_samples (k : Nat) (x : Region) : (s.setRegion k x).samples = s.samples := by delta State.setRegion; rfl
@[simp] theorem setRegion_sampled (k : Nat) (x : Region) : (s.setRegion k x).sampled = s.sampled := by delta State.setRegion; rfl
@[simp] theorem setRegion_banks (k : Nat) (x : Region) : (s.setRegion k x).banks = s.banks := by delta State.setRegion; rfl
@[simp] theorem setRegion_hbmReq (k : Nat) (x : Region) : (s.setRegion k x).hbmReq = s.hbmReq := by delta State.setRegion; rfl
@[simp] theorem setRegion_dmas (k : Nat) (x : Region) : (s.setRegion k x).dmas = s.dmas := by delta State.setRegion; rfl
@[simp] theorem setRegion_links (k : Nat) (x : Region) : (s.setRegion k x).links = s.links := by delta State.setRegion; rfl
@[simp] theorem setRegion_linkEnds (k : Nat) (x : Region) : (s.setRegion k x).linkEnds = s.linkEnds := by delta State.setRegion; rfl
@[simp] theorem setRegion_training (k : Nat) (x : Region) : (s.setRegion k x).training = s.training := by delta State.setRegion; rfl
@[simp] theorem setRegion_aligners (k : Nat) (x : Region) : (s.setRegion k x).aligners = s.aligners := by delta State.setRegion; rfl
@[simp] theorem setRegion_sampleOut (k : Nat) (x : Region) : (s.setRegion k x).sampleOut = s.sampleOut := by delta State.setRegion; rfl
@[simp] theorem setRegion_fuses (k : Nat) (x : Region) : (s.setRegion k x).fuses = s.fuses := by delta State.setRegion; rfl
@[simp] theorem setRegion_sec (k : Nat) (x : Region) : (s.setRegion k x).sec = s.sec := by delta State.setRegion; rfl
@[simp] theorem setRegion_power (k : Nat) (x : Region) : (s.setRegion k x).power = s.power := by delta State.setRegion; rfl
@[simp] theorem setRegion_board (k : Nat) (x : Region) : (s.setRegion k x).board = s.board := by delta State.setRegion; rfl
@[simp] theorem setRegion_released (k : Nat) (x : Region) : (s.setRegion k x).released = s.released := by delta State.setRegion; rfl
@[simp] theorem setRegion_grn (k : Nat) (x : Region) : (s.setRegion k x).grn = s.grn := by delta State.setRegion; rfl
@[simp] theorem setRegion_health (k : Nat) (x : Region) : (s.setRegion k x).health = s.health := by delta State.setRegion; rfl
@[simp] theorem setRegion_grps (k : Nat) (x : Region) : (s.setRegion k x).grps = s.grps := by delta State.setRegion; rfl
@[simp] theorem setRegion_pinSet (k : Nat) (x : Region) : (s.setRegion k x).pinSet = s.pinSet := by delta State.setRegion; rfl
@[simp] theorem setRegion_calT0 (k : Nat) (x : Region) : (s.setRegion k x).calT0 = s.calT0 := by delta State.setRegion; rfl
@[simp] theorem setRegion_braked (k : Nat) (x : Region) : (s.setRegion k x).braked = s.braked := by delta State.setRegion; rfl
@[simp] theorem setRegion_capBraked (k : Nat) (x : Region) : (s.setRegion k x).capBraked = s.capBraked := by delta State.setRegion; rfl
@[simp] theorem setRegion_twin (k : Nat) (x : Region) : (s.setRegion k x).twin = s.twin := by delta State.setRegion; rfl
@[simp] theorem setRegion_cores (k : Nat) (x : Region) : (s.setRegion k x).cores = s.cores := by delta State.setRegion; rfl
@[simp] theorem setRegion_resv (k : Nat) (x : Region) : (s.setRegion k x).resv = s.resv := by delta State.setRegion; rfl
@[simp] theorem setRegion_fabWdt (k : Nat) (x : Region) : (s.setRegion k x).fabWdt = s.fabWdt := by delta State.setRegion; rfl
@[simp] theorem setRegion_pkgWdt (k : Nat) (x : Region) : (s.setRegion k x).pkgWdt = s.pkgWdt := by delta State.setRegion; rfl
@[simp] theorem setRegion_loader (k : Nat) (x : Region) : (s.setRegion k x).loader = s.loader := by delta State.setRegion; rfl
@[simp] theorem setRegion_bist (k : Nat) (x : Region) : (s.setRegion k x).bist = s.bist := by delta State.setRegion; rfl
@[simp] theorem setRegion_outer (k : Nat) (x : Region) : (s.setRegion k x).outer = s.outer := by delta State.setRegion; rfl
@[simp] theorem setRegion_dbg (k : Nat) (x : Region) : (s.setRegion k x).dbg = s.dbg := by delta State.setRegion; rfl
@[simp] theorem setRegion_trace (k : Nat) (x : Region) : (s.setRegion k x).trace = s.trace := by delta State.setRegion; rfl
@[simp] theorem setRegion_clearing (k : Nat) (x : Region) : (s.setRegion k x).clearing = s.clearing := by delta State.setRegion; rfl

@[simp] theorem setRouter_pending (k : Nat) (x : Router) : (s.setRouter k x).pending = s.pending := by delta State.setRouter; rfl
@[simp] theorem setRouter_regs (k : Nat) (x : Router) : (s.setRouter k x).regs = s.regs := by delta State.setRouter; rfl
@[simp] theorem setRouter_mem (k : Nat) (x : Router) : (s.setRouter k x).mem = s.mem := by delta State.setRouter; rfl
@[simp] theorem setRouter_outbox (k : Nat) (x : Router) : (s.setRouter k x).outbox = s.outbox := by delta State.setRouter; rfl
@[simp] theorem setRouter_cells (k : Nat) (x : Router) : (s.setRouter k x).cells = s.cells := by delta State.setRouter; rfl
@[simp] theorem setRouter_cellCtl (k : Nat) (x : Router) : (s.setRouter k x).cellCtl = s.cellCtl := by delta State.setRouter; rfl
@[simp] theorem setRouter_slots (k : Nat) (x : Router) : (s.setRouter k x).slots = s.slots := by delta State.setRouter; rfl
@[simp] theorem setRouter_tileCtl (k : Nat) (x : Router) : (s.setRouter k x).tileCtl = s.tileCtl := by delta State.setRouter; rfl
@[simp] theorem setRouter_switch (k : Nat) (x : Router) : (s.setRouter k x).switch = s.switch := by delta State.setRouter; rfl
@[simp] theorem setRouter_regions (k : Nat) (x : Router) : (s.setRouter k x).regions = s.regions := by delta State.setRouter; rfl
@[simp] theorem setRouter_cycle (k : Nat) (x : Router) : (s.setRouter k x).cycle = s.cycle := by delta State.setRouter; rfl
@[simp] theorem setRouter_tb (k : Nat) (x : Router) : (s.setRouter k x).tb = s.tb := by delta State.setRouter; rfl
@[simp] theorem setRouter_tbOff (k : Nat) (x : Router) : (s.setRouter k x).tbOff = s.tbOff := by delta State.setRouter; rfl
@[simp] theorem setRouter_tbSlew (k : Nat) (x : Router) : (s.setRouter k x).tbSlew = s.tbSlew := by delta State.setRouter; rfl
@[simp] theorem setRouter_free (k : Nat) (x : Router) : (s.setRouter k x).free = s.free := by delta State.setRouter; rfl
@[simp] theorem setRouter_status (k : Nat) (x : Router) : (s.setRouter k x).status = s.status := by delta State.setRouter; rfl
@[simp] theorem setRouter_answer (k : Nat) (x : Router) : (s.setRouter k x).answer = s.answer := by delta State.setRouter; rfl
@[simp] theorem setRouter_dieCogs (k : Nat) (x : Router) : (s.setRouter k x).dieCogs = s.dieCogs := by delta State.setRouter; rfl
@[simp] theorem setRouter_cogTab (k : Nat) (x : Router) : (s.setRouter k x).cogTab = s.cogTab := by delta State.setRouter; rfl
@[simp] theorem setRouter_gsWait (k : Nat) (x : Router) : (s.setRouter k x).gsWait = s.gsWait := by delta State.setRouter; rfl
@[simp] theorem setRouter_capWin (k : Nat) (x : Router) : (s.setRouter k x).capWin = s.capWin := by delta State.setRouter; rfl
@[simp] theorem setRouter_isolated (k : Nat) (x : Router) : (s.setRouter k x).isolated = s.isolated := by delta State.setRouter; rfl
@[simp] theorem setRouter_descs (k : Nat) (x : Router) : (s.setRouter k x).descs = s.descs := by delta State.setRouter; rfl
@[simp] theorem setRouter_lru (k : Nat) (x : Router) : (s.setRouter k x).lru = s.lru := by delta State.setRouter; rfl
@[simp] theorem setRouter_atts (k : Nat) (x : Router) : (s.setRouter k x).atts = s.atts := by delta State.setRouter; rfl
@[simp] theorem setRouter_mirrorOut (k : Nat) (x : Router) : (s.setRouter k x).mirrorOut = s.mirrorOut := by delta State.setRouter; rfl
@[simp] theorem setRouter_mirrorCnt (k : Nat) (x : Router) : (s.setRouter k x).mirrorCnt = s.mirrorCnt := by delta State.setRouter; rfl
@[simp] theorem setRouter_axes (k : Nat) (x : Router) : (s.setRouter k x).axes = s.axes := by delta State.setRouter; rfl
@[simp] theorem setRouter_encs (k : Nat) (x : Router) : (s.setRouter k x).encs = s.encs := by delta State.setRouter; rfl
@[simp] theorem setRouter_trigs (k : Nat) (x : Router) : (s.setRouter k x).trigs = s.trigs := by delta State.setRouter; rfl
@[simp] theorem setRouter_samples (k : Nat) (x : Router) : (s.setRouter k x).samples = s.samples := by delta State.setRouter; rfl
@[simp] theorem setRouter_sampled (k : Nat) (x : Router) : (s.setRouter k x).sampled = s.sampled := by delta State.setRouter; rfl
@[simp] theorem setRouter_banks (k : Nat) (x : Router) : (s.setRouter k x).banks = s.banks := by delta State.setRouter; rfl
@[simp] theorem setRouter_hbmReq (k : Nat) (x : Router) : (s.setRouter k x).hbmReq = s.hbmReq := by delta State.setRouter; rfl
@[simp] theorem setRouter_dmas (k : Nat) (x : Router) : (s.setRouter k x).dmas = s.dmas := by delta State.setRouter; rfl
@[simp] theorem setRouter_links (k : Nat) (x : Router) : (s.setRouter k x).links = s.links := by delta State.setRouter; rfl
@[simp] theorem setRouter_linkEnds (k : Nat) (x : Router) : (s.setRouter k x).linkEnds = s.linkEnds := by delta State.setRouter; rfl
@[simp] theorem setRouter_training (k : Nat) (x : Router) : (s.setRouter k x).training = s.training := by delta State.setRouter; rfl
@[simp] theorem setRouter_aligners (k : Nat) (x : Router) : (s.setRouter k x).aligners = s.aligners := by delta State.setRouter; rfl
@[simp] theorem setRouter_sampleOut (k : Nat) (x : Router) : (s.setRouter k x).sampleOut = s.sampleOut := by delta State.setRouter; rfl
@[simp] theorem setRouter_fuses (k : Nat) (x : Router) : (s.setRouter k x).fuses = s.fuses := by delta State.setRouter; rfl
@[simp] theorem setRouter_sec (k : Nat) (x : Router) : (s.setRouter k x).sec = s.sec := by delta State.setRouter; rfl
@[simp] theorem setRouter_power (k : Nat) (x : Router) : (s.setRouter k x).power = s.power := by delta State.setRouter; rfl
@[simp] theorem setRouter_board (k : Nat) (x : Router) : (s.setRouter k x).board = s.board := by delta State.setRouter; rfl
@[simp] theorem setRouter_released (k : Nat) (x : Router) : (s.setRouter k x).released = s.released := by delta State.setRouter; rfl
@[simp] theorem setRouter_grn (k : Nat) (x : Router) : (s.setRouter k x).grn = s.grn := by delta State.setRouter; rfl
@[simp] theorem setRouter_health (k : Nat) (x : Router) : (s.setRouter k x).health = s.health := by delta State.setRouter; rfl
@[simp] theorem setRouter_grps (k : Nat) (x : Router) : (s.setRouter k x).grps = s.grps := by delta State.setRouter; rfl
@[simp] theorem setRouter_pinSet (k : Nat) (x : Router) : (s.setRouter k x).pinSet = s.pinSet := by delta State.setRouter; rfl
@[simp] theorem setRouter_calT0 (k : Nat) (x : Router) : (s.setRouter k x).calT0 = s.calT0 := by delta State.setRouter; rfl
@[simp] theorem setRouter_braked (k : Nat) (x : Router) : (s.setRouter k x).braked = s.braked := by delta State.setRouter; rfl
@[simp] theorem setRouter_capBraked (k : Nat) (x : Router) : (s.setRouter k x).capBraked = s.capBraked := by delta State.setRouter; rfl
@[simp] theorem setRouter_twin (k : Nat) (x : Router) : (s.setRouter k x).twin = s.twin := by delta State.setRouter; rfl
@[simp] theorem setRouter_cores (k : Nat) (x : Router) : (s.setRouter k x).cores = s.cores := by delta State.setRouter; rfl
@[simp] theorem setRouter_resv (k : Nat) (x : Router) : (s.setRouter k x).resv = s.resv := by delta State.setRouter; rfl
@[simp] theorem setRouter_fabWdt (k : Nat) (x : Router) : (s.setRouter k x).fabWdt = s.fabWdt := by delta State.setRouter; rfl
@[simp] theorem setRouter_pkgWdt (k : Nat) (x : Router) : (s.setRouter k x).pkgWdt = s.pkgWdt := by delta State.setRouter; rfl
@[simp] theorem setRouter_loader (k : Nat) (x : Router) : (s.setRouter k x).loader = s.loader := by delta State.setRouter; rfl
@[simp] theorem setRouter_bist (k : Nat) (x : Router) : (s.setRouter k x).bist = s.bist := by delta State.setRouter; rfl
@[simp] theorem setRouter_outer (k : Nat) (x : Router) : (s.setRouter k x).outer = s.outer := by delta State.setRouter; rfl
@[simp] theorem setRouter_dbg (k : Nat) (x : Router) : (s.setRouter k x).dbg = s.dbg := by delta State.setRouter; rfl
@[simp] theorem setRouter_trace (k : Nat) (x : Router) : (s.setRouter k x).trace = s.trace := by delta State.setRouter; rfl
@[simp] theorem setRouter_clearing (k : Nat) (x : Router) : (s.setRouter k x).clearing = s.clearing := by delta State.setRouter; rfl

@[simp] theorem setCogs_pending (k : Nat) (x : DieCogs) : (s.setCogs k x).pending = s.pending := by delta State.setCogs; rfl
@[simp] theorem setCogs_regs (k : Nat) (x : DieCogs) : (s.setCogs k x).regs = s.regs := by delta State.setCogs; rfl
@[simp] theorem setCogs_mem (k : Nat) (x : DieCogs) : (s.setCogs k x).mem = s.mem := by delta State.setCogs; rfl
@[simp] theorem setCogs_outbox (k : Nat) (x : DieCogs) : (s.setCogs k x).outbox = s.outbox := by delta State.setCogs; rfl
@[simp] theorem setCogs_cells (k : Nat) (x : DieCogs) : (s.setCogs k x).cells = s.cells := by delta State.setCogs; rfl
@[simp] theorem setCogs_cellCtl (k : Nat) (x : DieCogs) : (s.setCogs k x).cellCtl = s.cellCtl := by delta State.setCogs; rfl
@[simp] theorem setCogs_slots (k : Nat) (x : DieCogs) : (s.setCogs k x).slots = s.slots := by delta State.setCogs; rfl
@[simp] theorem setCogs_tileCtl (k : Nat) (x : DieCogs) : (s.setCogs k x).tileCtl = s.tileCtl := by delta State.setCogs; rfl
@[simp] theorem setCogs_switch (k : Nat) (x : DieCogs) : (s.setCogs k x).switch = s.switch := by delta State.setCogs; rfl
@[simp] theorem setCogs_regions (k : Nat) (x : DieCogs) : (s.setCogs k x).regions = s.regions := by delta State.setCogs; rfl
@[simp] theorem setCogs_cycle (k : Nat) (x : DieCogs) : (s.setCogs k x).cycle = s.cycle := by delta State.setCogs; rfl
@[simp] theorem setCogs_tb (k : Nat) (x : DieCogs) : (s.setCogs k x).tb = s.tb := by delta State.setCogs; rfl
@[simp] theorem setCogs_tbOff (k : Nat) (x : DieCogs) : (s.setCogs k x).tbOff = s.tbOff := by delta State.setCogs; rfl
@[simp] theorem setCogs_tbSlew (k : Nat) (x : DieCogs) : (s.setCogs k x).tbSlew = s.tbSlew := by delta State.setCogs; rfl
@[simp] theorem setCogs_free (k : Nat) (x : DieCogs) : (s.setCogs k x).free = s.free := by delta State.setCogs; rfl
@[simp] theorem setCogs_status (k : Nat) (x : DieCogs) : (s.setCogs k x).status = s.status := by delta State.setCogs; rfl
@[simp] theorem setCogs_answer (k : Nat) (x : DieCogs) : (s.setCogs k x).answer = s.answer := by delta State.setCogs; rfl
@[simp] theorem setCogs_routers (k : Nat) (x : DieCogs) : (s.setCogs k x).routers = s.routers := by delta State.setCogs; rfl
@[simp] theorem setCogs_cogTab (k : Nat) (x : DieCogs) : (s.setCogs k x).cogTab = s.cogTab := by delta State.setCogs; rfl
@[simp] theorem setCogs_gsWait (k : Nat) (x : DieCogs) : (s.setCogs k x).gsWait = s.gsWait := by delta State.setCogs; rfl
@[simp] theorem setCogs_capWin (k : Nat) (x : DieCogs) : (s.setCogs k x).capWin = s.capWin := by delta State.setCogs; rfl
@[simp] theorem setCogs_isolated (k : Nat) (x : DieCogs) : (s.setCogs k x).isolated = s.isolated := by delta State.setCogs; rfl
@[simp] theorem setCogs_descs (k : Nat) (x : DieCogs) : (s.setCogs k x).descs = s.descs := by delta State.setCogs; rfl
@[simp] theorem setCogs_lru (k : Nat) (x : DieCogs) : (s.setCogs k x).lru = s.lru := by delta State.setCogs; rfl
@[simp] theorem setCogs_atts (k : Nat) (x : DieCogs) : (s.setCogs k x).atts = s.atts := by delta State.setCogs; rfl
@[simp] theorem setCogs_mirrorOut (k : Nat) (x : DieCogs) : (s.setCogs k x).mirrorOut = s.mirrorOut := by delta State.setCogs; rfl
@[simp] theorem setCogs_mirrorCnt (k : Nat) (x : DieCogs) : (s.setCogs k x).mirrorCnt = s.mirrorCnt := by delta State.setCogs; rfl
@[simp] theorem setCogs_axes (k : Nat) (x : DieCogs) : (s.setCogs k x).axes = s.axes := by delta State.setCogs; rfl
@[simp] theorem setCogs_encs (k : Nat) (x : DieCogs) : (s.setCogs k x).encs = s.encs := by delta State.setCogs; rfl
@[simp] theorem setCogs_trigs (k : Nat) (x : DieCogs) : (s.setCogs k x).trigs = s.trigs := by delta State.setCogs; rfl
@[simp] theorem setCogs_samples (k : Nat) (x : DieCogs) : (s.setCogs k x).samples = s.samples := by delta State.setCogs; rfl
@[simp] theorem setCogs_sampled (k : Nat) (x : DieCogs) : (s.setCogs k x).sampled = s.sampled := by delta State.setCogs; rfl
@[simp] theorem setCogs_banks (k : Nat) (x : DieCogs) : (s.setCogs k x).banks = s.banks := by delta State.setCogs; rfl
@[simp] theorem setCogs_hbmReq (k : Nat) (x : DieCogs) : (s.setCogs k x).hbmReq = s.hbmReq := by delta State.setCogs; rfl
@[simp] theorem setCogs_dmas (k : Nat) (x : DieCogs) : (s.setCogs k x).dmas = s.dmas := by delta State.setCogs; rfl
@[simp] theorem setCogs_links (k : Nat) (x : DieCogs) : (s.setCogs k x).links = s.links := by delta State.setCogs; rfl
@[simp] theorem setCogs_linkEnds (k : Nat) (x : DieCogs) : (s.setCogs k x).linkEnds = s.linkEnds := by delta State.setCogs; rfl
@[simp] theorem setCogs_training (k : Nat) (x : DieCogs) : (s.setCogs k x).training = s.training := by delta State.setCogs; rfl
@[simp] theorem setCogs_aligners (k : Nat) (x : DieCogs) : (s.setCogs k x).aligners = s.aligners := by delta State.setCogs; rfl
@[simp] theorem setCogs_sampleOut (k : Nat) (x : DieCogs) : (s.setCogs k x).sampleOut = s.sampleOut := by delta State.setCogs; rfl
@[simp] theorem setCogs_fuses (k : Nat) (x : DieCogs) : (s.setCogs k x).fuses = s.fuses := by delta State.setCogs; rfl
@[simp] theorem setCogs_sec (k : Nat) (x : DieCogs) : (s.setCogs k x).sec = s.sec := by delta State.setCogs; rfl
@[simp] theorem setCogs_power (k : Nat) (x : DieCogs) : (s.setCogs k x).power = s.power := by delta State.setCogs; rfl
@[simp] theorem setCogs_board (k : Nat) (x : DieCogs) : (s.setCogs k x).board = s.board := by delta State.setCogs; rfl
@[simp] theorem setCogs_released (k : Nat) (x : DieCogs) : (s.setCogs k x).released = s.released := by delta State.setCogs; rfl
@[simp] theorem setCogs_grn (k : Nat) (x : DieCogs) : (s.setCogs k x).grn = s.grn := by delta State.setCogs; rfl
@[simp] theorem setCogs_health (k : Nat) (x : DieCogs) : (s.setCogs k x).health = s.health := by delta State.setCogs; rfl
@[simp] theorem setCogs_grps (k : Nat) (x : DieCogs) : (s.setCogs k x).grps = s.grps := by delta State.setCogs; rfl
@[simp] theorem setCogs_pinSet (k : Nat) (x : DieCogs) : (s.setCogs k x).pinSet = s.pinSet := by delta State.setCogs; rfl
@[simp] theorem setCogs_calT0 (k : Nat) (x : DieCogs) : (s.setCogs k x).calT0 = s.calT0 := by delta State.setCogs; rfl
@[simp] theorem setCogs_braked (k : Nat) (x : DieCogs) : (s.setCogs k x).braked = s.braked := by delta State.setCogs; rfl
@[simp] theorem setCogs_capBraked (k : Nat) (x : DieCogs) : (s.setCogs k x).capBraked = s.capBraked := by delta State.setCogs; rfl
@[simp] theorem setCogs_twin (k : Nat) (x : DieCogs) : (s.setCogs k x).twin = s.twin := by delta State.setCogs; rfl
@[simp] theorem setCogs_cores (k : Nat) (x : DieCogs) : (s.setCogs k x).cores = s.cores := by delta State.setCogs; rfl
@[simp] theorem setCogs_resv (k : Nat) (x : DieCogs) : (s.setCogs k x).resv = s.resv := by delta State.setCogs; rfl
@[simp] theorem setCogs_fabWdt (k : Nat) (x : DieCogs) : (s.setCogs k x).fabWdt = s.fabWdt := by delta State.setCogs; rfl
@[simp] theorem setCogs_pkgWdt (k : Nat) (x : DieCogs) : (s.setCogs k x).pkgWdt = s.pkgWdt := by delta State.setCogs; rfl
@[simp] theorem setCogs_loader (k : Nat) (x : DieCogs) : (s.setCogs k x).loader = s.loader := by delta State.setCogs; rfl
@[simp] theorem setCogs_bist (k : Nat) (x : DieCogs) : (s.setCogs k x).bist = s.bist := by delta State.setCogs; rfl
@[simp] theorem setCogs_outer (k : Nat) (x : DieCogs) : (s.setCogs k x).outer = s.outer := by delta State.setCogs; rfl
@[simp] theorem setCogs_dbg (k : Nat) (x : DieCogs) : (s.setCogs k x).dbg = s.dbg := by delta State.setCogs; rfl
@[simp] theorem setCogs_trace (k : Nat) (x : DieCogs) : (s.setCogs k x).trace = s.trace := by delta State.setCogs; rfl
@[simp] theorem setCogs_clearing (k : Nat) (x : DieCogs) : (s.setCogs k x).clearing = s.clearing := by delta State.setCogs; rfl

@[simp] theorem setAtt_pending (k : Nat) (x : Att) : (s.setAtt k x).pending = s.pending := by delta State.setAtt; rfl
@[simp] theorem setAtt_regs (k : Nat) (x : Att) : (s.setAtt k x).regs = s.regs := by delta State.setAtt; rfl
@[simp] theorem setAtt_mem (k : Nat) (x : Att) : (s.setAtt k x).mem = s.mem := by delta State.setAtt; rfl
@[simp] theorem setAtt_outbox (k : Nat) (x : Att) : (s.setAtt k x).outbox = s.outbox := by delta State.setAtt; rfl
@[simp] theorem setAtt_cells (k : Nat) (x : Att) : (s.setAtt k x).cells = s.cells := by delta State.setAtt; rfl
@[simp] theorem setAtt_cellCtl (k : Nat) (x : Att) : (s.setAtt k x).cellCtl = s.cellCtl := by delta State.setAtt; rfl
@[simp] theorem setAtt_slots (k : Nat) (x : Att) : (s.setAtt k x).slots = s.slots := by delta State.setAtt; rfl
@[simp] theorem setAtt_tileCtl (k : Nat) (x : Att) : (s.setAtt k x).tileCtl = s.tileCtl := by delta State.setAtt; rfl
@[simp] theorem setAtt_switch (k : Nat) (x : Att) : (s.setAtt k x).switch = s.switch := by delta State.setAtt; rfl
@[simp] theorem setAtt_regions (k : Nat) (x : Att) : (s.setAtt k x).regions = s.regions := by delta State.setAtt; rfl
@[simp] theorem setAtt_cycle (k : Nat) (x : Att) : (s.setAtt k x).cycle = s.cycle := by delta State.setAtt; rfl
@[simp] theorem setAtt_tb (k : Nat) (x : Att) : (s.setAtt k x).tb = s.tb := by delta State.setAtt; rfl
@[simp] theorem setAtt_tbOff (k : Nat) (x : Att) : (s.setAtt k x).tbOff = s.tbOff := by delta State.setAtt; rfl
@[simp] theorem setAtt_tbSlew (k : Nat) (x : Att) : (s.setAtt k x).tbSlew = s.tbSlew := by delta State.setAtt; rfl
@[simp] theorem setAtt_free (k : Nat) (x : Att) : (s.setAtt k x).free = s.free := by delta State.setAtt; rfl
@[simp] theorem setAtt_status (k : Nat) (x : Att) : (s.setAtt k x).status = s.status := by delta State.setAtt; rfl
@[simp] theorem setAtt_answer (k : Nat) (x : Att) : (s.setAtt k x).answer = s.answer := by delta State.setAtt; rfl
@[simp] theorem setAtt_routers (k : Nat) (x : Att) : (s.setAtt k x).routers = s.routers := by delta State.setAtt; rfl
@[simp] theorem setAtt_dieCogs (k : Nat) (x : Att) : (s.setAtt k x).dieCogs = s.dieCogs := by delta State.setAtt; rfl
@[simp] theorem setAtt_cogTab (k : Nat) (x : Att) : (s.setAtt k x).cogTab = s.cogTab := by delta State.setAtt; rfl
@[simp] theorem setAtt_gsWait (k : Nat) (x : Att) : (s.setAtt k x).gsWait = s.gsWait := by delta State.setAtt; rfl
@[simp] theorem setAtt_capWin (k : Nat) (x : Att) : (s.setAtt k x).capWin = s.capWin := by delta State.setAtt; rfl
@[simp] theorem setAtt_isolated (k : Nat) (x : Att) : (s.setAtt k x).isolated = s.isolated := by delta State.setAtt; rfl
@[simp] theorem setAtt_descs (k : Nat) (x : Att) : (s.setAtt k x).descs = s.descs := by delta State.setAtt; rfl
@[simp] theorem setAtt_lru (k : Nat) (x : Att) : (s.setAtt k x).lru = s.lru := by delta State.setAtt; rfl
@[simp] theorem setAtt_mirrorOut (k : Nat) (x : Att) : (s.setAtt k x).mirrorOut = s.mirrorOut := by delta State.setAtt; rfl
@[simp] theorem setAtt_mirrorCnt (k : Nat) (x : Att) : (s.setAtt k x).mirrorCnt = s.mirrorCnt := by delta State.setAtt; rfl
@[simp] theorem setAtt_axes (k : Nat) (x : Att) : (s.setAtt k x).axes = s.axes := by delta State.setAtt; rfl
@[simp] theorem setAtt_encs (k : Nat) (x : Att) : (s.setAtt k x).encs = s.encs := by delta State.setAtt; rfl
@[simp] theorem setAtt_trigs (k : Nat) (x : Att) : (s.setAtt k x).trigs = s.trigs := by delta State.setAtt; rfl
@[simp] theorem setAtt_samples (k : Nat) (x : Att) : (s.setAtt k x).samples = s.samples := by delta State.setAtt; rfl
@[simp] theorem setAtt_sampled (k : Nat) (x : Att) : (s.setAtt k x).sampled = s.sampled := by delta State.setAtt; rfl
@[simp] theorem setAtt_banks (k : Nat) (x : Att) : (s.setAtt k x).banks = s.banks := by delta State.setAtt; rfl
@[simp] theorem setAtt_hbmReq (k : Nat) (x : Att) : (s.setAtt k x).hbmReq = s.hbmReq := by delta State.setAtt; rfl
@[simp] theorem setAtt_dmas (k : Nat) (x : Att) : (s.setAtt k x).dmas = s.dmas := by delta State.setAtt; rfl
@[simp] theorem setAtt_links (k : Nat) (x : Att) : (s.setAtt k x).links = s.links := by delta State.setAtt; rfl
@[simp] theorem setAtt_linkEnds (k : Nat) (x : Att) : (s.setAtt k x).linkEnds = s.linkEnds := by delta State.setAtt; rfl
@[simp] theorem setAtt_training (k : Nat) (x : Att) : (s.setAtt k x).training = s.training := by delta State.setAtt; rfl
@[simp] theorem setAtt_aligners (k : Nat) (x : Att) : (s.setAtt k x).aligners = s.aligners := by delta State.setAtt; rfl
@[simp] theorem setAtt_sampleOut (k : Nat) (x : Att) : (s.setAtt k x).sampleOut = s.sampleOut := by delta State.setAtt; rfl
@[simp] theorem setAtt_fuses (k : Nat) (x : Att) : (s.setAtt k x).fuses = s.fuses := by delta State.setAtt; rfl
@[simp] theorem setAtt_sec (k : Nat) (x : Att) : (s.setAtt k x).sec = s.sec := by delta State.setAtt; rfl
@[simp] theorem setAtt_power (k : Nat) (x : Att) : (s.setAtt k x).power = s.power := by delta State.setAtt; rfl
@[simp] theorem setAtt_board (k : Nat) (x : Att) : (s.setAtt k x).board = s.board := by delta State.setAtt; rfl
@[simp] theorem setAtt_released (k : Nat) (x : Att) : (s.setAtt k x).released = s.released := by delta State.setAtt; rfl
@[simp] theorem setAtt_grn (k : Nat) (x : Att) : (s.setAtt k x).grn = s.grn := by delta State.setAtt; rfl
@[simp] theorem setAtt_health (k : Nat) (x : Att) : (s.setAtt k x).health = s.health := by delta State.setAtt; rfl
@[simp] theorem setAtt_grps (k : Nat) (x : Att) : (s.setAtt k x).grps = s.grps := by delta State.setAtt; rfl
@[simp] theorem setAtt_pinSet (k : Nat) (x : Att) : (s.setAtt k x).pinSet = s.pinSet := by delta State.setAtt; rfl
@[simp] theorem setAtt_calT0 (k : Nat) (x : Att) : (s.setAtt k x).calT0 = s.calT0 := by delta State.setAtt; rfl
@[simp] theorem setAtt_braked (k : Nat) (x : Att) : (s.setAtt k x).braked = s.braked := by delta State.setAtt; rfl
@[simp] theorem setAtt_capBraked (k : Nat) (x : Att) : (s.setAtt k x).capBraked = s.capBraked := by delta State.setAtt; rfl
@[simp] theorem setAtt_twin (k : Nat) (x : Att) : (s.setAtt k x).twin = s.twin := by delta State.setAtt; rfl
@[simp] theorem setAtt_cores (k : Nat) (x : Att) : (s.setAtt k x).cores = s.cores := by delta State.setAtt; rfl
@[simp] theorem setAtt_resv (k : Nat) (x : Att) : (s.setAtt k x).resv = s.resv := by delta State.setAtt; rfl
@[simp] theorem setAtt_fabWdt (k : Nat) (x : Att) : (s.setAtt k x).fabWdt = s.fabWdt := by delta State.setAtt; rfl
@[simp] theorem setAtt_pkgWdt (k : Nat) (x : Att) : (s.setAtt k x).pkgWdt = s.pkgWdt := by delta State.setAtt; rfl
@[simp] theorem setAtt_loader (k : Nat) (x : Att) : (s.setAtt k x).loader = s.loader := by delta State.setAtt; rfl
@[simp] theorem setAtt_bist (k : Nat) (x : Att) : (s.setAtt k x).bist = s.bist := by delta State.setAtt; rfl
@[simp] theorem setAtt_outer (k : Nat) (x : Att) : (s.setAtt k x).outer = s.outer := by delta State.setAtt; rfl
@[simp] theorem setAtt_dbg (k : Nat) (x : Att) : (s.setAtt k x).dbg = s.dbg := by delta State.setAtt; rfl
@[simp] theorem setAtt_trace (k : Nat) (x : Att) : (s.setAtt k x).trace = s.trace := by delta State.setAtt; rfl
@[simp] theorem setAtt_clearing (k : Nat) (x : Att) : (s.setAtt k x).clearing = s.clearing := by delta State.setAtt; rfl

@[simp] theorem setDesc_pending (k : Nat) (x : Desc) : (s.setDesc k x).pending = s.pending := by delta State.setDesc; rfl
@[simp] theorem setDesc_regs (k : Nat) (x : Desc) : (s.setDesc k x).regs = s.regs := by delta State.setDesc; rfl
@[simp] theorem setDesc_mem (k : Nat) (x : Desc) : (s.setDesc k x).mem = s.mem := by delta State.setDesc; rfl
@[simp] theorem setDesc_outbox (k : Nat) (x : Desc) : (s.setDesc k x).outbox = s.outbox := by delta State.setDesc; rfl
@[simp] theorem setDesc_cells (k : Nat) (x : Desc) : (s.setDesc k x).cells = s.cells := by delta State.setDesc; rfl
@[simp] theorem setDesc_cellCtl (k : Nat) (x : Desc) : (s.setDesc k x).cellCtl = s.cellCtl := by delta State.setDesc; rfl
@[simp] theorem setDesc_slots (k : Nat) (x : Desc) : (s.setDesc k x).slots = s.slots := by delta State.setDesc; rfl
@[simp] theorem setDesc_tileCtl (k : Nat) (x : Desc) : (s.setDesc k x).tileCtl = s.tileCtl := by delta State.setDesc; rfl
@[simp] theorem setDesc_switch (k : Nat) (x : Desc) : (s.setDesc k x).switch = s.switch := by delta State.setDesc; rfl
@[simp] theorem setDesc_regions (k : Nat) (x : Desc) : (s.setDesc k x).regions = s.regions := by delta State.setDesc; rfl
@[simp] theorem setDesc_cycle (k : Nat) (x : Desc) : (s.setDesc k x).cycle = s.cycle := by delta State.setDesc; rfl
@[simp] theorem setDesc_tb (k : Nat) (x : Desc) : (s.setDesc k x).tb = s.tb := by delta State.setDesc; rfl
@[simp] theorem setDesc_tbOff (k : Nat) (x : Desc) : (s.setDesc k x).tbOff = s.tbOff := by delta State.setDesc; rfl
@[simp] theorem setDesc_tbSlew (k : Nat) (x : Desc) : (s.setDesc k x).tbSlew = s.tbSlew := by delta State.setDesc; rfl
@[simp] theorem setDesc_free (k : Nat) (x : Desc) : (s.setDesc k x).free = s.free := by delta State.setDesc; rfl
@[simp] theorem setDesc_status (k : Nat) (x : Desc) : (s.setDesc k x).status = s.status := by delta State.setDesc; rfl
@[simp] theorem setDesc_answer (k : Nat) (x : Desc) : (s.setDesc k x).answer = s.answer := by delta State.setDesc; rfl
@[simp] theorem setDesc_routers (k : Nat) (x : Desc) : (s.setDesc k x).routers = s.routers := by delta State.setDesc; rfl
@[simp] theorem setDesc_dieCogs (k : Nat) (x : Desc) : (s.setDesc k x).dieCogs = s.dieCogs := by delta State.setDesc; rfl
@[simp] theorem setDesc_cogTab (k : Nat) (x : Desc) : (s.setDesc k x).cogTab = s.cogTab := by delta State.setDesc; rfl
@[simp] theorem setDesc_gsWait (k : Nat) (x : Desc) : (s.setDesc k x).gsWait = s.gsWait := by delta State.setDesc; rfl
@[simp] theorem setDesc_capWin (k : Nat) (x : Desc) : (s.setDesc k x).capWin = s.capWin := by delta State.setDesc; rfl
@[simp] theorem setDesc_isolated (k : Nat) (x : Desc) : (s.setDesc k x).isolated = s.isolated := by delta State.setDesc; rfl
@[simp] theorem setDesc_lru (k : Nat) (x : Desc) : (s.setDesc k x).lru = s.lru := by delta State.setDesc; rfl
@[simp] theorem setDesc_atts (k : Nat) (x : Desc) : (s.setDesc k x).atts = s.atts := by delta State.setDesc; rfl
@[simp] theorem setDesc_mirrorOut (k : Nat) (x : Desc) : (s.setDesc k x).mirrorOut = s.mirrorOut := by delta State.setDesc; rfl
@[simp] theorem setDesc_mirrorCnt (k : Nat) (x : Desc) : (s.setDesc k x).mirrorCnt = s.mirrorCnt := by delta State.setDesc; rfl
@[simp] theorem setDesc_axes (k : Nat) (x : Desc) : (s.setDesc k x).axes = s.axes := by delta State.setDesc; rfl
@[simp] theorem setDesc_encs (k : Nat) (x : Desc) : (s.setDesc k x).encs = s.encs := by delta State.setDesc; rfl
@[simp] theorem setDesc_trigs (k : Nat) (x : Desc) : (s.setDesc k x).trigs = s.trigs := by delta State.setDesc; rfl
@[simp] theorem setDesc_samples (k : Nat) (x : Desc) : (s.setDesc k x).samples = s.samples := by delta State.setDesc; rfl
@[simp] theorem setDesc_sampled (k : Nat) (x : Desc) : (s.setDesc k x).sampled = s.sampled := by delta State.setDesc; rfl
@[simp] theorem setDesc_banks (k : Nat) (x : Desc) : (s.setDesc k x).banks = s.banks := by delta State.setDesc; rfl
@[simp] theorem setDesc_hbmReq (k : Nat) (x : Desc) : (s.setDesc k x).hbmReq = s.hbmReq := by delta State.setDesc; rfl
@[simp] theorem setDesc_dmas (k : Nat) (x : Desc) : (s.setDesc k x).dmas = s.dmas := by delta State.setDesc; rfl
@[simp] theorem setDesc_links (k : Nat) (x : Desc) : (s.setDesc k x).links = s.links := by delta State.setDesc; rfl
@[simp] theorem setDesc_linkEnds (k : Nat) (x : Desc) : (s.setDesc k x).linkEnds = s.linkEnds := by delta State.setDesc; rfl
@[simp] theorem setDesc_training (k : Nat) (x : Desc) : (s.setDesc k x).training = s.training := by delta State.setDesc; rfl
@[simp] theorem setDesc_aligners (k : Nat) (x : Desc) : (s.setDesc k x).aligners = s.aligners := by delta State.setDesc; rfl
@[simp] theorem setDesc_sampleOut (k : Nat) (x : Desc) : (s.setDesc k x).sampleOut = s.sampleOut := by delta State.setDesc; rfl
@[simp] theorem setDesc_fuses (k : Nat) (x : Desc) : (s.setDesc k x).fuses = s.fuses := by delta State.setDesc; rfl
@[simp] theorem setDesc_sec (k : Nat) (x : Desc) : (s.setDesc k x).sec = s.sec := by delta State.setDesc; rfl
@[simp] theorem setDesc_power (k : Nat) (x : Desc) : (s.setDesc k x).power = s.power := by delta State.setDesc; rfl
@[simp] theorem setDesc_board (k : Nat) (x : Desc) : (s.setDesc k x).board = s.board := by delta State.setDesc; rfl
@[simp] theorem setDesc_released (k : Nat) (x : Desc) : (s.setDesc k x).released = s.released := by delta State.setDesc; rfl
@[simp] theorem setDesc_grn (k : Nat) (x : Desc) : (s.setDesc k x).grn = s.grn := by delta State.setDesc; rfl
@[simp] theorem setDesc_health (k : Nat) (x : Desc) : (s.setDesc k x).health = s.health := by delta State.setDesc; rfl
@[simp] theorem setDesc_grps (k : Nat) (x : Desc) : (s.setDesc k x).grps = s.grps := by delta State.setDesc; rfl
@[simp] theorem setDesc_pinSet (k : Nat) (x : Desc) : (s.setDesc k x).pinSet = s.pinSet := by delta State.setDesc; rfl
@[simp] theorem setDesc_calT0 (k : Nat) (x : Desc) : (s.setDesc k x).calT0 = s.calT0 := by delta State.setDesc; rfl
@[simp] theorem setDesc_braked (k : Nat) (x : Desc) : (s.setDesc k x).braked = s.braked := by delta State.setDesc; rfl
@[simp] theorem setDesc_capBraked (k : Nat) (x : Desc) : (s.setDesc k x).capBraked = s.capBraked := by delta State.setDesc; rfl
@[simp] theorem setDesc_twin (k : Nat) (x : Desc) : (s.setDesc k x).twin = s.twin := by delta State.setDesc; rfl
@[simp] theorem setDesc_cores (k : Nat) (x : Desc) : (s.setDesc k x).cores = s.cores := by delta State.setDesc; rfl
@[simp] theorem setDesc_resv (k : Nat) (x : Desc) : (s.setDesc k x).resv = s.resv := by delta State.setDesc; rfl
@[simp] theorem setDesc_fabWdt (k : Nat) (x : Desc) : (s.setDesc k x).fabWdt = s.fabWdt := by delta State.setDesc; rfl
@[simp] theorem setDesc_pkgWdt (k : Nat) (x : Desc) : (s.setDesc k x).pkgWdt = s.pkgWdt := by delta State.setDesc; rfl
@[simp] theorem setDesc_loader (k : Nat) (x : Desc) : (s.setDesc k x).loader = s.loader := by delta State.setDesc; rfl
@[simp] theorem setDesc_bist (k : Nat) (x : Desc) : (s.setDesc k x).bist = s.bist := by delta State.setDesc; rfl
@[simp] theorem setDesc_outer (k : Nat) (x : Desc) : (s.setDesc k x).outer = s.outer := by delta State.setDesc; rfl
@[simp] theorem setDesc_dbg (k : Nat) (x : Desc) : (s.setDesc k x).dbg = s.dbg := by delta State.setDesc; rfl
@[simp] theorem setDesc_trace (k : Nat) (x : Desc) : (s.setDesc k x).trace = s.trace := by delta State.setDesc; rfl
@[simp] theorem setDesc_clearing (k : Nat) (x : Desc) : (s.setDesc k x).clearing = s.clearing := by delta State.setDesc; rfl

@[simp] theorem setAxis_pending (k : Nat) (x : Axis) : (s.setAxis k x).pending = s.pending := by delta State.setAxis; rfl
@[simp] theorem setAxis_regs (k : Nat) (x : Axis) : (s.setAxis k x).regs = s.regs := by delta State.setAxis; rfl
@[simp] theorem setAxis_mem (k : Nat) (x : Axis) : (s.setAxis k x).mem = s.mem := by delta State.setAxis; rfl
@[simp] theorem setAxis_outbox (k : Nat) (x : Axis) : (s.setAxis k x).outbox = s.outbox := by delta State.setAxis; rfl
@[simp] theorem setAxis_cells (k : Nat) (x : Axis) : (s.setAxis k x).cells = s.cells := by delta State.setAxis; rfl
@[simp] theorem setAxis_cellCtl (k : Nat) (x : Axis) : (s.setAxis k x).cellCtl = s.cellCtl := by delta State.setAxis; rfl
@[simp] theorem setAxis_slots (k : Nat) (x : Axis) : (s.setAxis k x).slots = s.slots := by delta State.setAxis; rfl
@[simp] theorem setAxis_tileCtl (k : Nat) (x : Axis) : (s.setAxis k x).tileCtl = s.tileCtl := by delta State.setAxis; rfl
@[simp] theorem setAxis_switch (k : Nat) (x : Axis) : (s.setAxis k x).switch = s.switch := by delta State.setAxis; rfl
@[simp] theorem setAxis_regions (k : Nat) (x : Axis) : (s.setAxis k x).regions = s.regions := by delta State.setAxis; rfl
@[simp] theorem setAxis_cycle (k : Nat) (x : Axis) : (s.setAxis k x).cycle = s.cycle := by delta State.setAxis; rfl
@[simp] theorem setAxis_tb (k : Nat) (x : Axis) : (s.setAxis k x).tb = s.tb := by delta State.setAxis; rfl
@[simp] theorem setAxis_tbOff (k : Nat) (x : Axis) : (s.setAxis k x).tbOff = s.tbOff := by delta State.setAxis; rfl
@[simp] theorem setAxis_tbSlew (k : Nat) (x : Axis) : (s.setAxis k x).tbSlew = s.tbSlew := by delta State.setAxis; rfl
@[simp] theorem setAxis_free (k : Nat) (x : Axis) : (s.setAxis k x).free = s.free := by delta State.setAxis; rfl
@[simp] theorem setAxis_status (k : Nat) (x : Axis) : (s.setAxis k x).status = s.status := by delta State.setAxis; rfl
@[simp] theorem setAxis_answer (k : Nat) (x : Axis) : (s.setAxis k x).answer = s.answer := by delta State.setAxis; rfl
@[simp] theorem setAxis_routers (k : Nat) (x : Axis) : (s.setAxis k x).routers = s.routers := by delta State.setAxis; rfl
@[simp] theorem setAxis_dieCogs (k : Nat) (x : Axis) : (s.setAxis k x).dieCogs = s.dieCogs := by delta State.setAxis; rfl
@[simp] theorem setAxis_cogTab (k : Nat) (x : Axis) : (s.setAxis k x).cogTab = s.cogTab := by delta State.setAxis; rfl
@[simp] theorem setAxis_gsWait (k : Nat) (x : Axis) : (s.setAxis k x).gsWait = s.gsWait := by delta State.setAxis; rfl
@[simp] theorem setAxis_capWin (k : Nat) (x : Axis) : (s.setAxis k x).capWin = s.capWin := by delta State.setAxis; rfl
@[simp] theorem setAxis_isolated (k : Nat) (x : Axis) : (s.setAxis k x).isolated = s.isolated := by delta State.setAxis; rfl
@[simp] theorem setAxis_descs (k : Nat) (x : Axis) : (s.setAxis k x).descs = s.descs := by delta State.setAxis; rfl
@[simp] theorem setAxis_lru (k : Nat) (x : Axis) : (s.setAxis k x).lru = s.lru := by delta State.setAxis; rfl
@[simp] theorem setAxis_atts (k : Nat) (x : Axis) : (s.setAxis k x).atts = s.atts := by delta State.setAxis; rfl
@[simp] theorem setAxis_mirrorOut (k : Nat) (x : Axis) : (s.setAxis k x).mirrorOut = s.mirrorOut := by delta State.setAxis; rfl
@[simp] theorem setAxis_mirrorCnt (k : Nat) (x : Axis) : (s.setAxis k x).mirrorCnt = s.mirrorCnt := by delta State.setAxis; rfl
@[simp] theorem setAxis_encs (k : Nat) (x : Axis) : (s.setAxis k x).encs = s.encs := by delta State.setAxis; rfl
@[simp] theorem setAxis_trigs (k : Nat) (x : Axis) : (s.setAxis k x).trigs = s.trigs := by delta State.setAxis; rfl
@[simp] theorem setAxis_samples (k : Nat) (x : Axis) : (s.setAxis k x).samples = s.samples := by delta State.setAxis; rfl
@[simp] theorem setAxis_sampled (k : Nat) (x : Axis) : (s.setAxis k x).sampled = s.sampled := by delta State.setAxis; rfl
@[simp] theorem setAxis_banks (k : Nat) (x : Axis) : (s.setAxis k x).banks = s.banks := by delta State.setAxis; rfl
@[simp] theorem setAxis_hbmReq (k : Nat) (x : Axis) : (s.setAxis k x).hbmReq = s.hbmReq := by delta State.setAxis; rfl
@[simp] theorem setAxis_dmas (k : Nat) (x : Axis) : (s.setAxis k x).dmas = s.dmas := by delta State.setAxis; rfl
@[simp] theorem setAxis_links (k : Nat) (x : Axis) : (s.setAxis k x).links = s.links := by delta State.setAxis; rfl
@[simp] theorem setAxis_linkEnds (k : Nat) (x : Axis) : (s.setAxis k x).linkEnds = s.linkEnds := by delta State.setAxis; rfl
@[simp] theorem setAxis_training (k : Nat) (x : Axis) : (s.setAxis k x).training = s.training := by delta State.setAxis; rfl
@[simp] theorem setAxis_aligners (k : Nat) (x : Axis) : (s.setAxis k x).aligners = s.aligners := by delta State.setAxis; rfl
@[simp] theorem setAxis_sampleOut (k : Nat) (x : Axis) : (s.setAxis k x).sampleOut = s.sampleOut := by delta State.setAxis; rfl
@[simp] theorem setAxis_fuses (k : Nat) (x : Axis) : (s.setAxis k x).fuses = s.fuses := by delta State.setAxis; rfl
@[simp] theorem setAxis_sec (k : Nat) (x : Axis) : (s.setAxis k x).sec = s.sec := by delta State.setAxis; rfl
@[simp] theorem setAxis_power (k : Nat) (x : Axis) : (s.setAxis k x).power = s.power := by delta State.setAxis; rfl
@[simp] theorem setAxis_board (k : Nat) (x : Axis) : (s.setAxis k x).board = s.board := by delta State.setAxis; rfl
@[simp] theorem setAxis_released (k : Nat) (x : Axis) : (s.setAxis k x).released = s.released := by delta State.setAxis; rfl
@[simp] theorem setAxis_grn (k : Nat) (x : Axis) : (s.setAxis k x).grn = s.grn := by delta State.setAxis; rfl
@[simp] theorem setAxis_health (k : Nat) (x : Axis) : (s.setAxis k x).health = s.health := by delta State.setAxis; rfl
@[simp] theorem setAxis_grps (k : Nat) (x : Axis) : (s.setAxis k x).grps = s.grps := by delta State.setAxis; rfl
@[simp] theorem setAxis_pinSet (k : Nat) (x : Axis) : (s.setAxis k x).pinSet = s.pinSet := by delta State.setAxis; rfl
@[simp] theorem setAxis_calT0 (k : Nat) (x : Axis) : (s.setAxis k x).calT0 = s.calT0 := by delta State.setAxis; rfl
@[simp] theorem setAxis_braked (k : Nat) (x : Axis) : (s.setAxis k x).braked = s.braked := by delta State.setAxis; rfl
@[simp] theorem setAxis_capBraked (k : Nat) (x : Axis) : (s.setAxis k x).capBraked = s.capBraked := by delta State.setAxis; rfl
@[simp] theorem setAxis_twin (k : Nat) (x : Axis) : (s.setAxis k x).twin = s.twin := by delta State.setAxis; rfl
@[simp] theorem setAxis_cores (k : Nat) (x : Axis) : (s.setAxis k x).cores = s.cores := by delta State.setAxis; rfl
@[simp] theorem setAxis_resv (k : Nat) (x : Axis) : (s.setAxis k x).resv = s.resv := by delta State.setAxis; rfl
@[simp] theorem setAxis_fabWdt (k : Nat) (x : Axis) : (s.setAxis k x).fabWdt = s.fabWdt := by delta State.setAxis; rfl
@[simp] theorem setAxis_pkgWdt (k : Nat) (x : Axis) : (s.setAxis k x).pkgWdt = s.pkgWdt := by delta State.setAxis; rfl
@[simp] theorem setAxis_loader (k : Nat) (x : Axis) : (s.setAxis k x).loader = s.loader := by delta State.setAxis; rfl
@[simp] theorem setAxis_bist (k : Nat) (x : Axis) : (s.setAxis k x).bist = s.bist := by delta State.setAxis; rfl
@[simp] theorem setAxis_outer (k : Nat) (x : Axis) : (s.setAxis k x).outer = s.outer := by delta State.setAxis; rfl
@[simp] theorem setAxis_dbg (k : Nat) (x : Axis) : (s.setAxis k x).dbg = s.dbg := by delta State.setAxis; rfl
@[simp] theorem setAxis_trace (k : Nat) (x : Axis) : (s.setAxis k x).trace = s.trace := by delta State.setAxis; rfl
@[simp] theorem setAxis_clearing (k : Nat) (x : Axis) : (s.setAxis k x).clearing = s.clearing := by delta State.setAxis; rfl

@[simp] theorem setEnc_pending (k : Nat) (x : EncChan) : (s.setEnc k x).pending = s.pending := by delta State.setEnc; rfl
@[simp] theorem setEnc_regs (k : Nat) (x : EncChan) : (s.setEnc k x).regs = s.regs := by delta State.setEnc; rfl
@[simp] theorem setEnc_mem (k : Nat) (x : EncChan) : (s.setEnc k x).mem = s.mem := by delta State.setEnc; rfl
@[simp] theorem setEnc_outbox (k : Nat) (x : EncChan) : (s.setEnc k x).outbox = s.outbox := by delta State.setEnc; rfl
@[simp] theorem setEnc_cells (k : Nat) (x : EncChan) : (s.setEnc k x).cells = s.cells := by delta State.setEnc; rfl
@[simp] theorem setEnc_cellCtl (k : Nat) (x : EncChan) : (s.setEnc k x).cellCtl = s.cellCtl := by delta State.setEnc; rfl
@[simp] theorem setEnc_slots (k : Nat) (x : EncChan) : (s.setEnc k x).slots = s.slots := by delta State.setEnc; rfl
@[simp] theorem setEnc_tileCtl (k : Nat) (x : EncChan) : (s.setEnc k x).tileCtl = s.tileCtl := by delta State.setEnc; rfl
@[simp] theorem setEnc_switch (k : Nat) (x : EncChan) : (s.setEnc k x).switch = s.switch := by delta State.setEnc; rfl
@[simp] theorem setEnc_regions (k : Nat) (x : EncChan) : (s.setEnc k x).regions = s.regions := by delta State.setEnc; rfl
@[simp] theorem setEnc_cycle (k : Nat) (x : EncChan) : (s.setEnc k x).cycle = s.cycle := by delta State.setEnc; rfl
@[simp] theorem setEnc_tb (k : Nat) (x : EncChan) : (s.setEnc k x).tb = s.tb := by delta State.setEnc; rfl
@[simp] theorem setEnc_tbOff (k : Nat) (x : EncChan) : (s.setEnc k x).tbOff = s.tbOff := by delta State.setEnc; rfl
@[simp] theorem setEnc_tbSlew (k : Nat) (x : EncChan) : (s.setEnc k x).tbSlew = s.tbSlew := by delta State.setEnc; rfl
@[simp] theorem setEnc_free (k : Nat) (x : EncChan) : (s.setEnc k x).free = s.free := by delta State.setEnc; rfl
@[simp] theorem setEnc_status (k : Nat) (x : EncChan) : (s.setEnc k x).status = s.status := by delta State.setEnc; rfl
@[simp] theorem setEnc_answer (k : Nat) (x : EncChan) : (s.setEnc k x).answer = s.answer := by delta State.setEnc; rfl
@[simp] theorem setEnc_routers (k : Nat) (x : EncChan) : (s.setEnc k x).routers = s.routers := by delta State.setEnc; rfl
@[simp] theorem setEnc_dieCogs (k : Nat) (x : EncChan) : (s.setEnc k x).dieCogs = s.dieCogs := by delta State.setEnc; rfl
@[simp] theorem setEnc_cogTab (k : Nat) (x : EncChan) : (s.setEnc k x).cogTab = s.cogTab := by delta State.setEnc; rfl
@[simp] theorem setEnc_gsWait (k : Nat) (x : EncChan) : (s.setEnc k x).gsWait = s.gsWait := by delta State.setEnc; rfl
@[simp] theorem setEnc_capWin (k : Nat) (x : EncChan) : (s.setEnc k x).capWin = s.capWin := by delta State.setEnc; rfl
@[simp] theorem setEnc_isolated (k : Nat) (x : EncChan) : (s.setEnc k x).isolated = s.isolated := by delta State.setEnc; rfl
@[simp] theorem setEnc_descs (k : Nat) (x : EncChan) : (s.setEnc k x).descs = s.descs := by delta State.setEnc; rfl
@[simp] theorem setEnc_lru (k : Nat) (x : EncChan) : (s.setEnc k x).lru = s.lru := by delta State.setEnc; rfl
@[simp] theorem setEnc_atts (k : Nat) (x : EncChan) : (s.setEnc k x).atts = s.atts := by delta State.setEnc; rfl
@[simp] theorem setEnc_mirrorOut (k : Nat) (x : EncChan) : (s.setEnc k x).mirrorOut = s.mirrorOut := by delta State.setEnc; rfl
@[simp] theorem setEnc_mirrorCnt (k : Nat) (x : EncChan) : (s.setEnc k x).mirrorCnt = s.mirrorCnt := by delta State.setEnc; rfl
@[simp] theorem setEnc_axes (k : Nat) (x : EncChan) : (s.setEnc k x).axes = s.axes := by delta State.setEnc; rfl
@[simp] theorem setEnc_trigs (k : Nat) (x : EncChan) : (s.setEnc k x).trigs = s.trigs := by delta State.setEnc; rfl
@[simp] theorem setEnc_samples (k : Nat) (x : EncChan) : (s.setEnc k x).samples = s.samples := by delta State.setEnc; rfl
@[simp] theorem setEnc_sampled (k : Nat) (x : EncChan) : (s.setEnc k x).sampled = s.sampled := by delta State.setEnc; rfl
@[simp] theorem setEnc_banks (k : Nat) (x : EncChan) : (s.setEnc k x).banks = s.banks := by delta State.setEnc; rfl
@[simp] theorem setEnc_hbmReq (k : Nat) (x : EncChan) : (s.setEnc k x).hbmReq = s.hbmReq := by delta State.setEnc; rfl
@[simp] theorem setEnc_dmas (k : Nat) (x : EncChan) : (s.setEnc k x).dmas = s.dmas := by delta State.setEnc; rfl
@[simp] theorem setEnc_links (k : Nat) (x : EncChan) : (s.setEnc k x).links = s.links := by delta State.setEnc; rfl
@[simp] theorem setEnc_linkEnds (k : Nat) (x : EncChan) : (s.setEnc k x).linkEnds = s.linkEnds := by delta State.setEnc; rfl
@[simp] theorem setEnc_training (k : Nat) (x : EncChan) : (s.setEnc k x).training = s.training := by delta State.setEnc; rfl
@[simp] theorem setEnc_aligners (k : Nat) (x : EncChan) : (s.setEnc k x).aligners = s.aligners := by delta State.setEnc; rfl
@[simp] theorem setEnc_sampleOut (k : Nat) (x : EncChan) : (s.setEnc k x).sampleOut = s.sampleOut := by delta State.setEnc; rfl
@[simp] theorem setEnc_fuses (k : Nat) (x : EncChan) : (s.setEnc k x).fuses = s.fuses := by delta State.setEnc; rfl
@[simp] theorem setEnc_sec (k : Nat) (x : EncChan) : (s.setEnc k x).sec = s.sec := by delta State.setEnc; rfl
@[simp] theorem setEnc_power (k : Nat) (x : EncChan) : (s.setEnc k x).power = s.power := by delta State.setEnc; rfl
@[simp] theorem setEnc_board (k : Nat) (x : EncChan) : (s.setEnc k x).board = s.board := by delta State.setEnc; rfl
@[simp] theorem setEnc_released (k : Nat) (x : EncChan) : (s.setEnc k x).released = s.released := by delta State.setEnc; rfl
@[simp] theorem setEnc_grn (k : Nat) (x : EncChan) : (s.setEnc k x).grn = s.grn := by delta State.setEnc; rfl
@[simp] theorem setEnc_health (k : Nat) (x : EncChan) : (s.setEnc k x).health = s.health := by delta State.setEnc; rfl
@[simp] theorem setEnc_grps (k : Nat) (x : EncChan) : (s.setEnc k x).grps = s.grps := by delta State.setEnc; rfl
@[simp] theorem setEnc_pinSet (k : Nat) (x : EncChan) : (s.setEnc k x).pinSet = s.pinSet := by delta State.setEnc; rfl
@[simp] theorem setEnc_calT0 (k : Nat) (x : EncChan) : (s.setEnc k x).calT0 = s.calT0 := by delta State.setEnc; rfl
@[simp] theorem setEnc_braked (k : Nat) (x : EncChan) : (s.setEnc k x).braked = s.braked := by delta State.setEnc; rfl
@[simp] theorem setEnc_capBraked (k : Nat) (x : EncChan) : (s.setEnc k x).capBraked = s.capBraked := by delta State.setEnc; rfl
@[simp] theorem setEnc_twin (k : Nat) (x : EncChan) : (s.setEnc k x).twin = s.twin := by delta State.setEnc; rfl
@[simp] theorem setEnc_cores (k : Nat) (x : EncChan) : (s.setEnc k x).cores = s.cores := by delta State.setEnc; rfl
@[simp] theorem setEnc_resv (k : Nat) (x : EncChan) : (s.setEnc k x).resv = s.resv := by delta State.setEnc; rfl
@[simp] theorem setEnc_fabWdt (k : Nat) (x : EncChan) : (s.setEnc k x).fabWdt = s.fabWdt := by delta State.setEnc; rfl
@[simp] theorem setEnc_pkgWdt (k : Nat) (x : EncChan) : (s.setEnc k x).pkgWdt = s.pkgWdt := by delta State.setEnc; rfl
@[simp] theorem setEnc_loader (k : Nat) (x : EncChan) : (s.setEnc k x).loader = s.loader := by delta State.setEnc; rfl
@[simp] theorem setEnc_bist (k : Nat) (x : EncChan) : (s.setEnc k x).bist = s.bist := by delta State.setEnc; rfl
@[simp] theorem setEnc_outer (k : Nat) (x : EncChan) : (s.setEnc k x).outer = s.outer := by delta State.setEnc; rfl
@[simp] theorem setEnc_dbg (k : Nat) (x : EncChan) : (s.setEnc k x).dbg = s.dbg := by delta State.setEnc; rfl
@[simp] theorem setEnc_trace (k : Nat) (x : EncChan) : (s.setEnc k x).trace = s.trace := by delta State.setEnc; rfl
@[simp] theorem setEnc_clearing (k : Nat) (x : EncChan) : (s.setEnc k x).clearing = s.clearing := by delta State.setEnc; rfl

@[simp] theorem setTrig_pending (k : Nat) (x : Trigger) : (s.setTrig k x).pending = s.pending := by delta State.setTrig; rfl
@[simp] theorem setTrig_regs (k : Nat) (x : Trigger) : (s.setTrig k x).regs = s.regs := by delta State.setTrig; rfl
@[simp] theorem setTrig_mem (k : Nat) (x : Trigger) : (s.setTrig k x).mem = s.mem := by delta State.setTrig; rfl
@[simp] theorem setTrig_outbox (k : Nat) (x : Trigger) : (s.setTrig k x).outbox = s.outbox := by delta State.setTrig; rfl
@[simp] theorem setTrig_cells (k : Nat) (x : Trigger) : (s.setTrig k x).cells = s.cells := by delta State.setTrig; rfl
@[simp] theorem setTrig_cellCtl (k : Nat) (x : Trigger) : (s.setTrig k x).cellCtl = s.cellCtl := by delta State.setTrig; rfl
@[simp] theorem setTrig_slots (k : Nat) (x : Trigger) : (s.setTrig k x).slots = s.slots := by delta State.setTrig; rfl
@[simp] theorem setTrig_tileCtl (k : Nat) (x : Trigger) : (s.setTrig k x).tileCtl = s.tileCtl := by delta State.setTrig; rfl
@[simp] theorem setTrig_switch (k : Nat) (x : Trigger) : (s.setTrig k x).switch = s.switch := by delta State.setTrig; rfl
@[simp] theorem setTrig_regions (k : Nat) (x : Trigger) : (s.setTrig k x).regions = s.regions := by delta State.setTrig; rfl
@[simp] theorem setTrig_cycle (k : Nat) (x : Trigger) : (s.setTrig k x).cycle = s.cycle := by delta State.setTrig; rfl
@[simp] theorem setTrig_tb (k : Nat) (x : Trigger) : (s.setTrig k x).tb = s.tb := by delta State.setTrig; rfl
@[simp] theorem setTrig_tbOff (k : Nat) (x : Trigger) : (s.setTrig k x).tbOff = s.tbOff := by delta State.setTrig; rfl
@[simp] theorem setTrig_tbSlew (k : Nat) (x : Trigger) : (s.setTrig k x).tbSlew = s.tbSlew := by delta State.setTrig; rfl
@[simp] theorem setTrig_free (k : Nat) (x : Trigger) : (s.setTrig k x).free = s.free := by delta State.setTrig; rfl
@[simp] theorem setTrig_status (k : Nat) (x : Trigger) : (s.setTrig k x).status = s.status := by delta State.setTrig; rfl
@[simp] theorem setTrig_answer (k : Nat) (x : Trigger) : (s.setTrig k x).answer = s.answer := by delta State.setTrig; rfl
@[simp] theorem setTrig_routers (k : Nat) (x : Trigger) : (s.setTrig k x).routers = s.routers := by delta State.setTrig; rfl
@[simp] theorem setTrig_dieCogs (k : Nat) (x : Trigger) : (s.setTrig k x).dieCogs = s.dieCogs := by delta State.setTrig; rfl
@[simp] theorem setTrig_cogTab (k : Nat) (x : Trigger) : (s.setTrig k x).cogTab = s.cogTab := by delta State.setTrig; rfl
@[simp] theorem setTrig_gsWait (k : Nat) (x : Trigger) : (s.setTrig k x).gsWait = s.gsWait := by delta State.setTrig; rfl
@[simp] theorem setTrig_capWin (k : Nat) (x : Trigger) : (s.setTrig k x).capWin = s.capWin := by delta State.setTrig; rfl
@[simp] theorem setTrig_isolated (k : Nat) (x : Trigger) : (s.setTrig k x).isolated = s.isolated := by delta State.setTrig; rfl
@[simp] theorem setTrig_descs (k : Nat) (x : Trigger) : (s.setTrig k x).descs = s.descs := by delta State.setTrig; rfl
@[simp] theorem setTrig_lru (k : Nat) (x : Trigger) : (s.setTrig k x).lru = s.lru := by delta State.setTrig; rfl
@[simp] theorem setTrig_atts (k : Nat) (x : Trigger) : (s.setTrig k x).atts = s.atts := by delta State.setTrig; rfl
@[simp] theorem setTrig_mirrorOut (k : Nat) (x : Trigger) : (s.setTrig k x).mirrorOut = s.mirrorOut := by delta State.setTrig; rfl
@[simp] theorem setTrig_mirrorCnt (k : Nat) (x : Trigger) : (s.setTrig k x).mirrorCnt = s.mirrorCnt := by delta State.setTrig; rfl
@[simp] theorem setTrig_axes (k : Nat) (x : Trigger) : (s.setTrig k x).axes = s.axes := by delta State.setTrig; rfl
@[simp] theorem setTrig_encs (k : Nat) (x : Trigger) : (s.setTrig k x).encs = s.encs := by delta State.setTrig; rfl
@[simp] theorem setTrig_samples (k : Nat) (x : Trigger) : (s.setTrig k x).samples = s.samples := by delta State.setTrig; rfl
@[simp] theorem setTrig_sampled (k : Nat) (x : Trigger) : (s.setTrig k x).sampled = s.sampled := by delta State.setTrig; rfl
@[simp] theorem setTrig_banks (k : Nat) (x : Trigger) : (s.setTrig k x).banks = s.banks := by delta State.setTrig; rfl
@[simp] theorem setTrig_hbmReq (k : Nat) (x : Trigger) : (s.setTrig k x).hbmReq = s.hbmReq := by delta State.setTrig; rfl
@[simp] theorem setTrig_dmas (k : Nat) (x : Trigger) : (s.setTrig k x).dmas = s.dmas := by delta State.setTrig; rfl
@[simp] theorem setTrig_links (k : Nat) (x : Trigger) : (s.setTrig k x).links = s.links := by delta State.setTrig; rfl
@[simp] theorem setTrig_linkEnds (k : Nat) (x : Trigger) : (s.setTrig k x).linkEnds = s.linkEnds := by delta State.setTrig; rfl
@[simp] theorem setTrig_training (k : Nat) (x : Trigger) : (s.setTrig k x).training = s.training := by delta State.setTrig; rfl
@[simp] theorem setTrig_aligners (k : Nat) (x : Trigger) : (s.setTrig k x).aligners = s.aligners := by delta State.setTrig; rfl
@[simp] theorem setTrig_sampleOut (k : Nat) (x : Trigger) : (s.setTrig k x).sampleOut = s.sampleOut := by delta State.setTrig; rfl
@[simp] theorem setTrig_fuses (k : Nat) (x : Trigger) : (s.setTrig k x).fuses = s.fuses := by delta State.setTrig; rfl
@[simp] theorem setTrig_sec (k : Nat) (x : Trigger) : (s.setTrig k x).sec = s.sec := by delta State.setTrig; rfl
@[simp] theorem setTrig_power (k : Nat) (x : Trigger) : (s.setTrig k x).power = s.power := by delta State.setTrig; rfl
@[simp] theorem setTrig_board (k : Nat) (x : Trigger) : (s.setTrig k x).board = s.board := by delta State.setTrig; rfl
@[simp] theorem setTrig_released (k : Nat) (x : Trigger) : (s.setTrig k x).released = s.released := by delta State.setTrig; rfl
@[simp] theorem setTrig_grn (k : Nat) (x : Trigger) : (s.setTrig k x).grn = s.grn := by delta State.setTrig; rfl
@[simp] theorem setTrig_health (k : Nat) (x : Trigger) : (s.setTrig k x).health = s.health := by delta State.setTrig; rfl
@[simp] theorem setTrig_grps (k : Nat) (x : Trigger) : (s.setTrig k x).grps = s.grps := by delta State.setTrig; rfl
@[simp] theorem setTrig_pinSet (k : Nat) (x : Trigger) : (s.setTrig k x).pinSet = s.pinSet := by delta State.setTrig; rfl
@[simp] theorem setTrig_calT0 (k : Nat) (x : Trigger) : (s.setTrig k x).calT0 = s.calT0 := by delta State.setTrig; rfl
@[simp] theorem setTrig_braked (k : Nat) (x : Trigger) : (s.setTrig k x).braked = s.braked := by delta State.setTrig; rfl
@[simp] theorem setTrig_capBraked (k : Nat) (x : Trigger) : (s.setTrig k x).capBraked = s.capBraked := by delta State.setTrig; rfl
@[simp] theorem setTrig_twin (k : Nat) (x : Trigger) : (s.setTrig k x).twin = s.twin := by delta State.setTrig; rfl
@[simp] theorem setTrig_cores (k : Nat) (x : Trigger) : (s.setTrig k x).cores = s.cores := by delta State.setTrig; rfl
@[simp] theorem setTrig_resv (k : Nat) (x : Trigger) : (s.setTrig k x).resv = s.resv := by delta State.setTrig; rfl
@[simp] theorem setTrig_fabWdt (k : Nat) (x : Trigger) : (s.setTrig k x).fabWdt = s.fabWdt := by delta State.setTrig; rfl
@[simp] theorem setTrig_pkgWdt (k : Nat) (x : Trigger) : (s.setTrig k x).pkgWdt = s.pkgWdt := by delta State.setTrig; rfl
@[simp] theorem setTrig_loader (k : Nat) (x : Trigger) : (s.setTrig k x).loader = s.loader := by delta State.setTrig; rfl
@[simp] theorem setTrig_bist (k : Nat) (x : Trigger) : (s.setTrig k x).bist = s.bist := by delta State.setTrig; rfl
@[simp] theorem setTrig_outer (k : Nat) (x : Trigger) : (s.setTrig k x).outer = s.outer := by delta State.setTrig; rfl
@[simp] theorem setTrig_dbg (k : Nat) (x : Trigger) : (s.setTrig k x).dbg = s.dbg := by delta State.setTrig; rfl
@[simp] theorem setTrig_trace (k : Nat) (x : Trigger) : (s.setTrig k x).trace = s.trace := by delta State.setTrig; rfl
@[simp] theorem setTrig_clearing (k : Nat) (x : Trigger) : (s.setTrig k x).clearing = s.clearing := by delta State.setTrig; rfl

@[simp] theorem setBank_pending (k : Nat) (x : Bank) : (s.setBank k x).pending = s.pending := by delta State.setBank; rfl
@[simp] theorem setBank_regs (k : Nat) (x : Bank) : (s.setBank k x).regs = s.regs := by delta State.setBank; rfl
@[simp] theorem setBank_mem (k : Nat) (x : Bank) : (s.setBank k x).mem = s.mem := by delta State.setBank; rfl
@[simp] theorem setBank_outbox (k : Nat) (x : Bank) : (s.setBank k x).outbox = s.outbox := by delta State.setBank; rfl
@[simp] theorem setBank_cells (k : Nat) (x : Bank) : (s.setBank k x).cells = s.cells := by delta State.setBank; rfl
@[simp] theorem setBank_cellCtl (k : Nat) (x : Bank) : (s.setBank k x).cellCtl = s.cellCtl := by delta State.setBank; rfl
@[simp] theorem setBank_slots (k : Nat) (x : Bank) : (s.setBank k x).slots = s.slots := by delta State.setBank; rfl
@[simp] theorem setBank_tileCtl (k : Nat) (x : Bank) : (s.setBank k x).tileCtl = s.tileCtl := by delta State.setBank; rfl
@[simp] theorem setBank_switch (k : Nat) (x : Bank) : (s.setBank k x).switch = s.switch := by delta State.setBank; rfl
@[simp] theorem setBank_regions (k : Nat) (x : Bank) : (s.setBank k x).regions = s.regions := by delta State.setBank; rfl
@[simp] theorem setBank_cycle (k : Nat) (x : Bank) : (s.setBank k x).cycle = s.cycle := by delta State.setBank; rfl
@[simp] theorem setBank_tb (k : Nat) (x : Bank) : (s.setBank k x).tb = s.tb := by delta State.setBank; rfl
@[simp] theorem setBank_tbOff (k : Nat) (x : Bank) : (s.setBank k x).tbOff = s.tbOff := by delta State.setBank; rfl
@[simp] theorem setBank_tbSlew (k : Nat) (x : Bank) : (s.setBank k x).tbSlew = s.tbSlew := by delta State.setBank; rfl
@[simp] theorem setBank_free (k : Nat) (x : Bank) : (s.setBank k x).free = s.free := by delta State.setBank; rfl
@[simp] theorem setBank_status (k : Nat) (x : Bank) : (s.setBank k x).status = s.status := by delta State.setBank; rfl
@[simp] theorem setBank_answer (k : Nat) (x : Bank) : (s.setBank k x).answer = s.answer := by delta State.setBank; rfl
@[simp] theorem setBank_routers (k : Nat) (x : Bank) : (s.setBank k x).routers = s.routers := by delta State.setBank; rfl
@[simp] theorem setBank_dieCogs (k : Nat) (x : Bank) : (s.setBank k x).dieCogs = s.dieCogs := by delta State.setBank; rfl
@[simp] theorem setBank_cogTab (k : Nat) (x : Bank) : (s.setBank k x).cogTab = s.cogTab := by delta State.setBank; rfl
@[simp] theorem setBank_gsWait (k : Nat) (x : Bank) : (s.setBank k x).gsWait = s.gsWait := by delta State.setBank; rfl
@[simp] theorem setBank_capWin (k : Nat) (x : Bank) : (s.setBank k x).capWin = s.capWin := by delta State.setBank; rfl
@[simp] theorem setBank_isolated (k : Nat) (x : Bank) : (s.setBank k x).isolated = s.isolated := by delta State.setBank; rfl
@[simp] theorem setBank_descs (k : Nat) (x : Bank) : (s.setBank k x).descs = s.descs := by delta State.setBank; rfl
@[simp] theorem setBank_lru (k : Nat) (x : Bank) : (s.setBank k x).lru = s.lru := by delta State.setBank; rfl
@[simp] theorem setBank_atts (k : Nat) (x : Bank) : (s.setBank k x).atts = s.atts := by delta State.setBank; rfl
@[simp] theorem setBank_mirrorOut (k : Nat) (x : Bank) : (s.setBank k x).mirrorOut = s.mirrorOut := by delta State.setBank; rfl
@[simp] theorem setBank_mirrorCnt (k : Nat) (x : Bank) : (s.setBank k x).mirrorCnt = s.mirrorCnt := by delta State.setBank; rfl
@[simp] theorem setBank_axes (k : Nat) (x : Bank) : (s.setBank k x).axes = s.axes := by delta State.setBank; rfl
@[simp] theorem setBank_encs (k : Nat) (x : Bank) : (s.setBank k x).encs = s.encs := by delta State.setBank; rfl
@[simp] theorem setBank_trigs (k : Nat) (x : Bank) : (s.setBank k x).trigs = s.trigs := by delta State.setBank; rfl
@[simp] theorem setBank_samples (k : Nat) (x : Bank) : (s.setBank k x).samples = s.samples := by delta State.setBank; rfl
@[simp] theorem setBank_sampled (k : Nat) (x : Bank) : (s.setBank k x).sampled = s.sampled := by delta State.setBank; rfl
@[simp] theorem setBank_hbmReq (k : Nat) (x : Bank) : (s.setBank k x).hbmReq = s.hbmReq := by delta State.setBank; rfl
@[simp] theorem setBank_dmas (k : Nat) (x : Bank) : (s.setBank k x).dmas = s.dmas := by delta State.setBank; rfl
@[simp] theorem setBank_links (k : Nat) (x : Bank) : (s.setBank k x).links = s.links := by delta State.setBank; rfl
@[simp] theorem setBank_linkEnds (k : Nat) (x : Bank) : (s.setBank k x).linkEnds = s.linkEnds := by delta State.setBank; rfl
@[simp] theorem setBank_training (k : Nat) (x : Bank) : (s.setBank k x).training = s.training := by delta State.setBank; rfl
@[simp] theorem setBank_aligners (k : Nat) (x : Bank) : (s.setBank k x).aligners = s.aligners := by delta State.setBank; rfl
@[simp] theorem setBank_sampleOut (k : Nat) (x : Bank) : (s.setBank k x).sampleOut = s.sampleOut := by delta State.setBank; rfl
@[simp] theorem setBank_fuses (k : Nat) (x : Bank) : (s.setBank k x).fuses = s.fuses := by delta State.setBank; rfl
@[simp] theorem setBank_sec (k : Nat) (x : Bank) : (s.setBank k x).sec = s.sec := by delta State.setBank; rfl
@[simp] theorem setBank_power (k : Nat) (x : Bank) : (s.setBank k x).power = s.power := by delta State.setBank; rfl
@[simp] theorem setBank_board (k : Nat) (x : Bank) : (s.setBank k x).board = s.board := by delta State.setBank; rfl
@[simp] theorem setBank_released (k : Nat) (x : Bank) : (s.setBank k x).released = s.released := by delta State.setBank; rfl
@[simp] theorem setBank_grn (k : Nat) (x : Bank) : (s.setBank k x).grn = s.grn := by delta State.setBank; rfl
@[simp] theorem setBank_health (k : Nat) (x : Bank) : (s.setBank k x).health = s.health := by delta State.setBank; rfl
@[simp] theorem setBank_grps (k : Nat) (x : Bank) : (s.setBank k x).grps = s.grps := by delta State.setBank; rfl
@[simp] theorem setBank_pinSet (k : Nat) (x : Bank) : (s.setBank k x).pinSet = s.pinSet := by delta State.setBank; rfl
@[simp] theorem setBank_calT0 (k : Nat) (x : Bank) : (s.setBank k x).calT0 = s.calT0 := by delta State.setBank; rfl
@[simp] theorem setBank_braked (k : Nat) (x : Bank) : (s.setBank k x).braked = s.braked := by delta State.setBank; rfl
@[simp] theorem setBank_capBraked (k : Nat) (x : Bank) : (s.setBank k x).capBraked = s.capBraked := by delta State.setBank; rfl
@[simp] theorem setBank_twin (k : Nat) (x : Bank) : (s.setBank k x).twin = s.twin := by delta State.setBank; rfl
@[simp] theorem setBank_cores (k : Nat) (x : Bank) : (s.setBank k x).cores = s.cores := by delta State.setBank; rfl
@[simp] theorem setBank_resv (k : Nat) (x : Bank) : (s.setBank k x).resv = s.resv := by delta State.setBank; rfl
@[simp] theorem setBank_fabWdt (k : Nat) (x : Bank) : (s.setBank k x).fabWdt = s.fabWdt := by delta State.setBank; rfl
@[simp] theorem setBank_pkgWdt (k : Nat) (x : Bank) : (s.setBank k x).pkgWdt = s.pkgWdt := by delta State.setBank; rfl
@[simp] theorem setBank_loader (k : Nat) (x : Bank) : (s.setBank k x).loader = s.loader := by delta State.setBank; rfl
@[simp] theorem setBank_bist (k : Nat) (x : Bank) : (s.setBank k x).bist = s.bist := by delta State.setBank; rfl
@[simp] theorem setBank_outer (k : Nat) (x : Bank) : (s.setBank k x).outer = s.outer := by delta State.setBank; rfl
@[simp] theorem setBank_dbg (k : Nat) (x : Bank) : (s.setBank k x).dbg = s.dbg := by delta State.setBank; rfl
@[simp] theorem setBank_trace (k : Nat) (x : Bank) : (s.setBank k x).trace = s.trace := by delta State.setBank; rfl
@[simp] theorem setBank_clearing (k : Nat) (x : Bank) : (s.setBank k x).clearing = s.clearing := by delta State.setBank; rfl

@[simp] theorem setDma_pending (k : Nat) (x : Dma) : (s.setDma k x).pending = s.pending := by delta State.setDma; rfl
@[simp] theorem setDma_regs (k : Nat) (x : Dma) : (s.setDma k x).regs = s.regs := by delta State.setDma; rfl
@[simp] theorem setDma_mem (k : Nat) (x : Dma) : (s.setDma k x).mem = s.mem := by delta State.setDma; rfl
@[simp] theorem setDma_outbox (k : Nat) (x : Dma) : (s.setDma k x).outbox = s.outbox := by delta State.setDma; rfl
@[simp] theorem setDma_cells (k : Nat) (x : Dma) : (s.setDma k x).cells = s.cells := by delta State.setDma; rfl
@[simp] theorem setDma_cellCtl (k : Nat) (x : Dma) : (s.setDma k x).cellCtl = s.cellCtl := by delta State.setDma; rfl
@[simp] theorem setDma_slots (k : Nat) (x : Dma) : (s.setDma k x).slots = s.slots := by delta State.setDma; rfl
@[simp] theorem setDma_tileCtl (k : Nat) (x : Dma) : (s.setDma k x).tileCtl = s.tileCtl := by delta State.setDma; rfl
@[simp] theorem setDma_switch (k : Nat) (x : Dma) : (s.setDma k x).switch = s.switch := by delta State.setDma; rfl
@[simp] theorem setDma_regions (k : Nat) (x : Dma) : (s.setDma k x).regions = s.regions := by delta State.setDma; rfl
@[simp] theorem setDma_cycle (k : Nat) (x : Dma) : (s.setDma k x).cycle = s.cycle := by delta State.setDma; rfl
@[simp] theorem setDma_tb (k : Nat) (x : Dma) : (s.setDma k x).tb = s.tb := by delta State.setDma; rfl
@[simp] theorem setDma_tbOff (k : Nat) (x : Dma) : (s.setDma k x).tbOff = s.tbOff := by delta State.setDma; rfl
@[simp] theorem setDma_tbSlew (k : Nat) (x : Dma) : (s.setDma k x).tbSlew = s.tbSlew := by delta State.setDma; rfl
@[simp] theorem setDma_free (k : Nat) (x : Dma) : (s.setDma k x).free = s.free := by delta State.setDma; rfl
@[simp] theorem setDma_status (k : Nat) (x : Dma) : (s.setDma k x).status = s.status := by delta State.setDma; rfl
@[simp] theorem setDma_answer (k : Nat) (x : Dma) : (s.setDma k x).answer = s.answer := by delta State.setDma; rfl
@[simp] theorem setDma_routers (k : Nat) (x : Dma) : (s.setDma k x).routers = s.routers := by delta State.setDma; rfl
@[simp] theorem setDma_dieCogs (k : Nat) (x : Dma) : (s.setDma k x).dieCogs = s.dieCogs := by delta State.setDma; rfl
@[simp] theorem setDma_cogTab (k : Nat) (x : Dma) : (s.setDma k x).cogTab = s.cogTab := by delta State.setDma; rfl
@[simp] theorem setDma_gsWait (k : Nat) (x : Dma) : (s.setDma k x).gsWait = s.gsWait := by delta State.setDma; rfl
@[simp] theorem setDma_capWin (k : Nat) (x : Dma) : (s.setDma k x).capWin = s.capWin := by delta State.setDma; rfl
@[simp] theorem setDma_isolated (k : Nat) (x : Dma) : (s.setDma k x).isolated = s.isolated := by delta State.setDma; rfl
@[simp] theorem setDma_descs (k : Nat) (x : Dma) : (s.setDma k x).descs = s.descs := by delta State.setDma; rfl
@[simp] theorem setDma_lru (k : Nat) (x : Dma) : (s.setDma k x).lru = s.lru := by delta State.setDma; rfl
@[simp] theorem setDma_atts (k : Nat) (x : Dma) : (s.setDma k x).atts = s.atts := by delta State.setDma; rfl
@[simp] theorem setDma_mirrorOut (k : Nat) (x : Dma) : (s.setDma k x).mirrorOut = s.mirrorOut := by delta State.setDma; rfl
@[simp] theorem setDma_mirrorCnt (k : Nat) (x : Dma) : (s.setDma k x).mirrorCnt = s.mirrorCnt := by delta State.setDma; rfl
@[simp] theorem setDma_axes (k : Nat) (x : Dma) : (s.setDma k x).axes = s.axes := by delta State.setDma; rfl
@[simp] theorem setDma_encs (k : Nat) (x : Dma) : (s.setDma k x).encs = s.encs := by delta State.setDma; rfl
@[simp] theorem setDma_trigs (k : Nat) (x : Dma) : (s.setDma k x).trigs = s.trigs := by delta State.setDma; rfl
@[simp] theorem setDma_samples (k : Nat) (x : Dma) : (s.setDma k x).samples = s.samples := by delta State.setDma; rfl
@[simp] theorem setDma_sampled (k : Nat) (x : Dma) : (s.setDma k x).sampled = s.sampled := by delta State.setDma; rfl
@[simp] theorem setDma_banks (k : Nat) (x : Dma) : (s.setDma k x).banks = s.banks := by delta State.setDma; rfl
@[simp] theorem setDma_hbmReq (k : Nat) (x : Dma) : (s.setDma k x).hbmReq = s.hbmReq := by delta State.setDma; rfl
@[simp] theorem setDma_links (k : Nat) (x : Dma) : (s.setDma k x).links = s.links := by delta State.setDma; rfl
@[simp] theorem setDma_linkEnds (k : Nat) (x : Dma) : (s.setDma k x).linkEnds = s.linkEnds := by delta State.setDma; rfl
@[simp] theorem setDma_training (k : Nat) (x : Dma) : (s.setDma k x).training = s.training := by delta State.setDma; rfl
@[simp] theorem setDma_aligners (k : Nat) (x : Dma) : (s.setDma k x).aligners = s.aligners := by delta State.setDma; rfl
@[simp] theorem setDma_sampleOut (k : Nat) (x : Dma) : (s.setDma k x).sampleOut = s.sampleOut := by delta State.setDma; rfl
@[simp] theorem setDma_fuses (k : Nat) (x : Dma) : (s.setDma k x).fuses = s.fuses := by delta State.setDma; rfl
@[simp] theorem setDma_sec (k : Nat) (x : Dma) : (s.setDma k x).sec = s.sec := by delta State.setDma; rfl
@[simp] theorem setDma_power (k : Nat) (x : Dma) : (s.setDma k x).power = s.power := by delta State.setDma; rfl
@[simp] theorem setDma_board (k : Nat) (x : Dma) : (s.setDma k x).board = s.board := by delta State.setDma; rfl
@[simp] theorem setDma_released (k : Nat) (x : Dma) : (s.setDma k x).released = s.released := by delta State.setDma; rfl
@[simp] theorem setDma_grn (k : Nat) (x : Dma) : (s.setDma k x).grn = s.grn := by delta State.setDma; rfl
@[simp] theorem setDma_health (k : Nat) (x : Dma) : (s.setDma k x).health = s.health := by delta State.setDma; rfl
@[simp] theorem setDma_grps (k : Nat) (x : Dma) : (s.setDma k x).grps = s.grps := by delta State.setDma; rfl
@[simp] theorem setDma_pinSet (k : Nat) (x : Dma) : (s.setDma k x).pinSet = s.pinSet := by delta State.setDma; rfl
@[simp] theorem setDma_calT0 (k : Nat) (x : Dma) : (s.setDma k x).calT0 = s.calT0 := by delta State.setDma; rfl
@[simp] theorem setDma_braked (k : Nat) (x : Dma) : (s.setDma k x).braked = s.braked := by delta State.setDma; rfl
@[simp] theorem setDma_capBraked (k : Nat) (x : Dma) : (s.setDma k x).capBraked = s.capBraked := by delta State.setDma; rfl
@[simp] theorem setDma_twin (k : Nat) (x : Dma) : (s.setDma k x).twin = s.twin := by delta State.setDma; rfl
@[simp] theorem setDma_cores (k : Nat) (x : Dma) : (s.setDma k x).cores = s.cores := by delta State.setDma; rfl
@[simp] theorem setDma_resv (k : Nat) (x : Dma) : (s.setDma k x).resv = s.resv := by delta State.setDma; rfl
@[simp] theorem setDma_fabWdt (k : Nat) (x : Dma) : (s.setDma k x).fabWdt = s.fabWdt := by delta State.setDma; rfl
@[simp] theorem setDma_pkgWdt (k : Nat) (x : Dma) : (s.setDma k x).pkgWdt = s.pkgWdt := by delta State.setDma; rfl
@[simp] theorem setDma_loader (k : Nat) (x : Dma) : (s.setDma k x).loader = s.loader := by delta State.setDma; rfl
@[simp] theorem setDma_bist (k : Nat) (x : Dma) : (s.setDma k x).bist = s.bist := by delta State.setDma; rfl
@[simp] theorem setDma_outer (k : Nat) (x : Dma) : (s.setDma k x).outer = s.outer := by delta State.setDma; rfl
@[simp] theorem setDma_dbg (k : Nat) (x : Dma) : (s.setDma k x).dbg = s.dbg := by delta State.setDma; rfl
@[simp] theorem setDma_trace (k : Nat) (x : Dma) : (s.setDma k x).trace = s.trace := by delta State.setDma; rfl
@[simp] theorem setDma_clearing (k : Nat) (x : Dma) : (s.setDma k x).clearing = s.clearing := by delta State.setDma; rfl

@[simp] theorem setLink_pending (k : Nat) (x : Link) : (s.setLink k x).pending = s.pending := by delta State.setLink; rfl
@[simp] theorem setLink_regs (k : Nat) (x : Link) : (s.setLink k x).regs = s.regs := by delta State.setLink; rfl
@[simp] theorem setLink_mem (k : Nat) (x : Link) : (s.setLink k x).mem = s.mem := by delta State.setLink; rfl
@[simp] theorem setLink_outbox (k : Nat) (x : Link) : (s.setLink k x).outbox = s.outbox := by delta State.setLink; rfl
@[simp] theorem setLink_cells (k : Nat) (x : Link) : (s.setLink k x).cells = s.cells := by delta State.setLink; rfl
@[simp] theorem setLink_cellCtl (k : Nat) (x : Link) : (s.setLink k x).cellCtl = s.cellCtl := by delta State.setLink; rfl
@[simp] theorem setLink_slots (k : Nat) (x : Link) : (s.setLink k x).slots = s.slots := by delta State.setLink; rfl
@[simp] theorem setLink_tileCtl (k : Nat) (x : Link) : (s.setLink k x).tileCtl = s.tileCtl := by delta State.setLink; rfl
@[simp] theorem setLink_switch (k : Nat) (x : Link) : (s.setLink k x).switch = s.switch := by delta State.setLink; rfl
@[simp] theorem setLink_regions (k : Nat) (x : Link) : (s.setLink k x).regions = s.regions := by delta State.setLink; rfl
@[simp] theorem setLink_cycle (k : Nat) (x : Link) : (s.setLink k x).cycle = s.cycle := by delta State.setLink; rfl
@[simp] theorem setLink_tb (k : Nat) (x : Link) : (s.setLink k x).tb = s.tb := by delta State.setLink; rfl
@[simp] theorem setLink_tbOff (k : Nat) (x : Link) : (s.setLink k x).tbOff = s.tbOff := by delta State.setLink; rfl
@[simp] theorem setLink_tbSlew (k : Nat) (x : Link) : (s.setLink k x).tbSlew = s.tbSlew := by delta State.setLink; rfl
@[simp] theorem setLink_free (k : Nat) (x : Link) : (s.setLink k x).free = s.free := by delta State.setLink; rfl
@[simp] theorem setLink_status (k : Nat) (x : Link) : (s.setLink k x).status = s.status := by delta State.setLink; rfl
@[simp] theorem setLink_answer (k : Nat) (x : Link) : (s.setLink k x).answer = s.answer := by delta State.setLink; rfl
@[simp] theorem setLink_routers (k : Nat) (x : Link) : (s.setLink k x).routers = s.routers := by delta State.setLink; rfl
@[simp] theorem setLink_dieCogs (k : Nat) (x : Link) : (s.setLink k x).dieCogs = s.dieCogs := by delta State.setLink; rfl
@[simp] theorem setLink_cogTab (k : Nat) (x : Link) : (s.setLink k x).cogTab = s.cogTab := by delta State.setLink; rfl
@[simp] theorem setLink_gsWait (k : Nat) (x : Link) : (s.setLink k x).gsWait = s.gsWait := by delta State.setLink; rfl
@[simp] theorem setLink_capWin (k : Nat) (x : Link) : (s.setLink k x).capWin = s.capWin := by delta State.setLink; rfl
@[simp] theorem setLink_isolated (k : Nat) (x : Link) : (s.setLink k x).isolated = s.isolated := by delta State.setLink; rfl
@[simp] theorem setLink_descs (k : Nat) (x : Link) : (s.setLink k x).descs = s.descs := by delta State.setLink; rfl
@[simp] theorem setLink_lru (k : Nat) (x : Link) : (s.setLink k x).lru = s.lru := by delta State.setLink; rfl
@[simp] theorem setLink_atts (k : Nat) (x : Link) : (s.setLink k x).atts = s.atts := by delta State.setLink; rfl
@[simp] theorem setLink_mirrorOut (k : Nat) (x : Link) : (s.setLink k x).mirrorOut = s.mirrorOut := by delta State.setLink; rfl
@[simp] theorem setLink_mirrorCnt (k : Nat) (x : Link) : (s.setLink k x).mirrorCnt = s.mirrorCnt := by delta State.setLink; rfl
@[simp] theorem setLink_axes (k : Nat) (x : Link) : (s.setLink k x).axes = s.axes := by delta State.setLink; rfl
@[simp] theorem setLink_encs (k : Nat) (x : Link) : (s.setLink k x).encs = s.encs := by delta State.setLink; rfl
@[simp] theorem setLink_trigs (k : Nat) (x : Link) : (s.setLink k x).trigs = s.trigs := by delta State.setLink; rfl
@[simp] theorem setLink_samples (k : Nat) (x : Link) : (s.setLink k x).samples = s.samples := by delta State.setLink; rfl
@[simp] theorem setLink_sampled (k : Nat) (x : Link) : (s.setLink k x).sampled = s.sampled := by delta State.setLink; rfl
@[simp] theorem setLink_banks (k : Nat) (x : Link) : (s.setLink k x).banks = s.banks := by delta State.setLink; rfl
@[simp] theorem setLink_hbmReq (k : Nat) (x : Link) : (s.setLink k x).hbmReq = s.hbmReq := by delta State.setLink; rfl
@[simp] theorem setLink_dmas (k : Nat) (x : Link) : (s.setLink k x).dmas = s.dmas := by delta State.setLink; rfl
@[simp] theorem setLink_linkEnds (k : Nat) (x : Link) : (s.setLink k x).linkEnds = s.linkEnds := by delta State.setLink; rfl
@[simp] theorem setLink_training (k : Nat) (x : Link) : (s.setLink k x).training = s.training := by delta State.setLink; rfl
@[simp] theorem setLink_aligners (k : Nat) (x : Link) : (s.setLink k x).aligners = s.aligners := by delta State.setLink; rfl
@[simp] theorem setLink_sampleOut (k : Nat) (x : Link) : (s.setLink k x).sampleOut = s.sampleOut := by delta State.setLink; rfl
@[simp] theorem setLink_fuses (k : Nat) (x : Link) : (s.setLink k x).fuses = s.fuses := by delta State.setLink; rfl
@[simp] theorem setLink_sec (k : Nat) (x : Link) : (s.setLink k x).sec = s.sec := by delta State.setLink; rfl
@[simp] theorem setLink_power (k : Nat) (x : Link) : (s.setLink k x).power = s.power := by delta State.setLink; rfl
@[simp] theorem setLink_board (k : Nat) (x : Link) : (s.setLink k x).board = s.board := by delta State.setLink; rfl
@[simp] theorem setLink_released (k : Nat) (x : Link) : (s.setLink k x).released = s.released := by delta State.setLink; rfl
@[simp] theorem setLink_grn (k : Nat) (x : Link) : (s.setLink k x).grn = s.grn := by delta State.setLink; rfl
@[simp] theorem setLink_health (k : Nat) (x : Link) : (s.setLink k x).health = s.health := by delta State.setLink; rfl
@[simp] theorem setLink_grps (k : Nat) (x : Link) : (s.setLink k x).grps = s.grps := by delta State.setLink; rfl
@[simp] theorem setLink_pinSet (k : Nat) (x : Link) : (s.setLink k x).pinSet = s.pinSet := by delta State.setLink; rfl
@[simp] theorem setLink_calT0 (k : Nat) (x : Link) : (s.setLink k x).calT0 = s.calT0 := by delta State.setLink; rfl
@[simp] theorem setLink_braked (k : Nat) (x : Link) : (s.setLink k x).braked = s.braked := by delta State.setLink; rfl
@[simp] theorem setLink_capBraked (k : Nat) (x : Link) : (s.setLink k x).capBraked = s.capBraked := by delta State.setLink; rfl
@[simp] theorem setLink_twin (k : Nat) (x : Link) : (s.setLink k x).twin = s.twin := by delta State.setLink; rfl
@[simp] theorem setLink_cores (k : Nat) (x : Link) : (s.setLink k x).cores = s.cores := by delta State.setLink; rfl
@[simp] theorem setLink_resv (k : Nat) (x : Link) : (s.setLink k x).resv = s.resv := by delta State.setLink; rfl
@[simp] theorem setLink_fabWdt (k : Nat) (x : Link) : (s.setLink k x).fabWdt = s.fabWdt := by delta State.setLink; rfl
@[simp] theorem setLink_pkgWdt (k : Nat) (x : Link) : (s.setLink k x).pkgWdt = s.pkgWdt := by delta State.setLink; rfl
@[simp] theorem setLink_loader (k : Nat) (x : Link) : (s.setLink k x).loader = s.loader := by delta State.setLink; rfl
@[simp] theorem setLink_bist (k : Nat) (x : Link) : (s.setLink k x).bist = s.bist := by delta State.setLink; rfl
@[simp] theorem setLink_outer (k : Nat) (x : Link) : (s.setLink k x).outer = s.outer := by delta State.setLink; rfl
@[simp] theorem setLink_dbg (k : Nat) (x : Link) : (s.setLink k x).dbg = s.dbg := by delta State.setLink; rfl
@[simp] theorem setLink_trace (k : Nat) (x : Link) : (s.setLink k x).trace = s.trace := by delta State.setLink; rfl
@[simp] theorem setLink_clearing (k : Nat) (x : Link) : (s.setLink k x).clearing = s.clearing := by delta State.setLink; rfl

@[simp] theorem setLinkEnd_pending (l d : Nat) (x : LinkEnd) : (s.setLinkEnd l d x).pending = s.pending := by delta State.setLinkEnd; rfl
@[simp] theorem setLinkEnd_regs (l d : Nat) (x : LinkEnd) : (s.setLinkEnd l d x).regs = s.regs := by delta State.setLinkEnd; rfl
@[simp] theorem setLinkEnd_mem (l d : Nat) (x : LinkEnd) : (s.setLinkEnd l d x).mem = s.mem := by delta State.setLinkEnd; rfl
@[simp] theorem setLinkEnd_outbox (l d : Nat) (x : LinkEnd) : (s.setLinkEnd l d x).outbox = s.outbox := by delta State.setLinkEnd; rfl
@[simp] theorem setLinkEnd_cells (l d : Nat) (x : LinkEnd) : (s.setLinkEnd l d x).cells = s.cells := by delta State.setLinkEnd; rfl
@[simp] theorem setLinkEnd_cellCtl (l d : Nat) (x : LinkEnd) : (s.setLinkEnd l d x).cellCtl = s.cellCtl := by delta State.setLinkEnd; rfl
@[simp] theorem setLinkEnd_slots (l d : Nat) (x : LinkEnd) : (s.setLinkEnd l d x).slots = s.slots := by delta State.setLinkEnd; rfl
@[simp] theorem setLinkEnd_tileCtl (l d : Nat) (x : LinkEnd) : (s.setLinkEnd l d x).tileCtl = s.tileCtl := by delta State.setLinkEnd; rfl
@[simp] theorem setLinkEnd_switch (l d : Nat) (x : LinkEnd) : (s.setLinkEnd l d x).switch = s.switch := by delta State.setLinkEnd; rfl
@[simp] theorem setLinkEnd_regions (l d : Nat) (x : LinkEnd) : (s.setLinkEnd l d x).regions = s.regions := by delta State.setLinkEnd; rfl
@[simp] theorem setLinkEnd_cycle (l d : Nat) (x : LinkEnd) : (s.setLinkEnd l d x).cycle = s.cycle := by delta State.setLinkEnd; rfl
@[simp] theorem setLinkEnd_tb (l d : Nat) (x : LinkEnd) : (s.setLinkEnd l d x).tb = s.tb := by delta State.setLinkEnd; rfl
@[simp] theorem setLinkEnd_tbOff (l d : Nat) (x : LinkEnd) : (s.setLinkEnd l d x).tbOff = s.tbOff := by delta State.setLinkEnd; rfl
@[simp] theorem setLinkEnd_tbSlew (l d : Nat) (x : LinkEnd) : (s.setLinkEnd l d x).tbSlew = s.tbSlew := by delta State.setLinkEnd; rfl
@[simp] theorem setLinkEnd_free (l d : Nat) (x : LinkEnd) : (s.setLinkEnd l d x).free = s.free := by delta State.setLinkEnd; rfl
@[simp] theorem setLinkEnd_status (l d : Nat) (x : LinkEnd) : (s.setLinkEnd l d x).status = s.status := by delta State.setLinkEnd; rfl
@[simp] theorem setLinkEnd_answer (l d : Nat) (x : LinkEnd) : (s.setLinkEnd l d x).answer = s.answer := by delta State.setLinkEnd; rfl
@[simp] theorem setLinkEnd_routers (l d : Nat) (x : LinkEnd) : (s.setLinkEnd l d x).routers = s.routers := by delta State.setLinkEnd; rfl
@[simp] theorem setLinkEnd_dieCogs (l d : Nat) (x : LinkEnd) : (s.setLinkEnd l d x).dieCogs = s.dieCogs := by delta State.setLinkEnd; rfl
@[simp] theorem setLinkEnd_cogTab (l d : Nat) (x : LinkEnd) : (s.setLinkEnd l d x).cogTab = s.cogTab := by delta State.setLinkEnd; rfl
@[simp] theorem setLinkEnd_gsWait (l d : Nat) (x : LinkEnd) : (s.setLinkEnd l d x).gsWait = s.gsWait := by delta State.setLinkEnd; rfl
@[simp] theorem setLinkEnd_capWin (l d : Nat) (x : LinkEnd) : (s.setLinkEnd l d x).capWin = s.capWin := by delta State.setLinkEnd; rfl
@[simp] theorem setLinkEnd_isolated (l d : Nat) (x : LinkEnd) : (s.setLinkEnd l d x).isolated = s.isolated := by delta State.setLinkEnd; rfl
@[simp] theorem setLinkEnd_descs (l d : Nat) (x : LinkEnd) : (s.setLinkEnd l d x).descs = s.descs := by delta State.setLinkEnd; rfl
@[simp] theorem setLinkEnd_lru (l d : Nat) (x : LinkEnd) : (s.setLinkEnd l d x).lru = s.lru := by delta State.setLinkEnd; rfl
@[simp] theorem setLinkEnd_atts (l d : Nat) (x : LinkEnd) : (s.setLinkEnd l d x).atts = s.atts := by delta State.setLinkEnd; rfl
@[simp] theorem setLinkEnd_mirrorOut (l d : Nat) (x : LinkEnd) : (s.setLinkEnd l d x).mirrorOut = s.mirrorOut := by delta State.setLinkEnd; rfl
@[simp] theorem setLinkEnd_mirrorCnt (l d : Nat) (x : LinkEnd) : (s.setLinkEnd l d x).mirrorCnt = s.mirrorCnt := by delta State.setLinkEnd; rfl
@[simp] theorem setLinkEnd_axes (l d : Nat) (x : LinkEnd) : (s.setLinkEnd l d x).axes = s.axes := by delta State.setLinkEnd; rfl
@[simp] theorem setLinkEnd_encs (l d : Nat) (x : LinkEnd) : (s.setLinkEnd l d x).encs = s.encs := by delta State.setLinkEnd; rfl
@[simp] theorem setLinkEnd_trigs (l d : Nat) (x : LinkEnd) : (s.setLinkEnd l d x).trigs = s.trigs := by delta State.setLinkEnd; rfl
@[simp] theorem setLinkEnd_samples (l d : Nat) (x : LinkEnd) : (s.setLinkEnd l d x).samples = s.samples := by delta State.setLinkEnd; rfl
@[simp] theorem setLinkEnd_sampled (l d : Nat) (x : LinkEnd) : (s.setLinkEnd l d x).sampled = s.sampled := by delta State.setLinkEnd; rfl
@[simp] theorem setLinkEnd_banks (l d : Nat) (x : LinkEnd) : (s.setLinkEnd l d x).banks = s.banks := by delta State.setLinkEnd; rfl
@[simp] theorem setLinkEnd_hbmReq (l d : Nat) (x : LinkEnd) : (s.setLinkEnd l d x).hbmReq = s.hbmReq := by delta State.setLinkEnd; rfl
@[simp] theorem setLinkEnd_dmas (l d : Nat) (x : LinkEnd) : (s.setLinkEnd l d x).dmas = s.dmas := by delta State.setLinkEnd; rfl
@[simp] theorem setLinkEnd_links (l d : Nat) (x : LinkEnd) : (s.setLinkEnd l d x).links = s.links := by delta State.setLinkEnd; rfl
@[simp] theorem setLinkEnd_training (l d : Nat) (x : LinkEnd) : (s.setLinkEnd l d x).training = s.training := by delta State.setLinkEnd; rfl
@[simp] theorem setLinkEnd_aligners (l d : Nat) (x : LinkEnd) : (s.setLinkEnd l d x).aligners = s.aligners := by delta State.setLinkEnd; rfl
@[simp] theorem setLinkEnd_sampleOut (l d : Nat) (x : LinkEnd) : (s.setLinkEnd l d x).sampleOut = s.sampleOut := by delta State.setLinkEnd; rfl
@[simp] theorem setLinkEnd_fuses (l d : Nat) (x : LinkEnd) : (s.setLinkEnd l d x).fuses = s.fuses := by delta State.setLinkEnd; rfl
@[simp] theorem setLinkEnd_sec (l d : Nat) (x : LinkEnd) : (s.setLinkEnd l d x).sec = s.sec := by delta State.setLinkEnd; rfl
@[simp] theorem setLinkEnd_power (l d : Nat) (x : LinkEnd) : (s.setLinkEnd l d x).power = s.power := by delta State.setLinkEnd; rfl
@[simp] theorem setLinkEnd_board (l d : Nat) (x : LinkEnd) : (s.setLinkEnd l d x).board = s.board := by delta State.setLinkEnd; rfl
@[simp] theorem setLinkEnd_released (l d : Nat) (x : LinkEnd) : (s.setLinkEnd l d x).released = s.released := by delta State.setLinkEnd; rfl
@[simp] theorem setLinkEnd_grn (l d : Nat) (x : LinkEnd) : (s.setLinkEnd l d x).grn = s.grn := by delta State.setLinkEnd; rfl
@[simp] theorem setLinkEnd_health (l d : Nat) (x : LinkEnd) : (s.setLinkEnd l d x).health = s.health := by delta State.setLinkEnd; rfl
@[simp] theorem setLinkEnd_grps (l d : Nat) (x : LinkEnd) : (s.setLinkEnd l d x).grps = s.grps := by delta State.setLinkEnd; rfl
@[simp] theorem setLinkEnd_pinSet (l d : Nat) (x : LinkEnd) : (s.setLinkEnd l d x).pinSet = s.pinSet := by delta State.setLinkEnd; rfl
@[simp] theorem setLinkEnd_calT0 (l d : Nat) (x : LinkEnd) : (s.setLinkEnd l d x).calT0 = s.calT0 := by delta State.setLinkEnd; rfl
@[simp] theorem setLinkEnd_braked (l d : Nat) (x : LinkEnd) : (s.setLinkEnd l d x).braked = s.braked := by delta State.setLinkEnd; rfl
@[simp] theorem setLinkEnd_capBraked (l d : Nat) (x : LinkEnd) : (s.setLinkEnd l d x).capBraked = s.capBraked := by delta State.setLinkEnd; rfl
@[simp] theorem setLinkEnd_twin (l d : Nat) (x : LinkEnd) : (s.setLinkEnd l d x).twin = s.twin := by delta State.setLinkEnd; rfl
@[simp] theorem setLinkEnd_cores (l d : Nat) (x : LinkEnd) : (s.setLinkEnd l d x).cores = s.cores := by delta State.setLinkEnd; rfl
@[simp] theorem setLinkEnd_resv (l d : Nat) (x : LinkEnd) : (s.setLinkEnd l d x).resv = s.resv := by delta State.setLinkEnd; rfl
@[simp] theorem setLinkEnd_fabWdt (l d : Nat) (x : LinkEnd) : (s.setLinkEnd l d x).fabWdt = s.fabWdt := by delta State.setLinkEnd; rfl
@[simp] theorem setLinkEnd_pkgWdt (l d : Nat) (x : LinkEnd) : (s.setLinkEnd l d x).pkgWdt = s.pkgWdt := by delta State.setLinkEnd; rfl
@[simp] theorem setLinkEnd_loader (l d : Nat) (x : LinkEnd) : (s.setLinkEnd l d x).loader = s.loader := by delta State.setLinkEnd; rfl
@[simp] theorem setLinkEnd_bist (l d : Nat) (x : LinkEnd) : (s.setLinkEnd l d x).bist = s.bist := by delta State.setLinkEnd; rfl
@[simp] theorem setLinkEnd_outer (l d : Nat) (x : LinkEnd) : (s.setLinkEnd l d x).outer = s.outer := by delta State.setLinkEnd; rfl
@[simp] theorem setLinkEnd_dbg (l d : Nat) (x : LinkEnd) : (s.setLinkEnd l d x).dbg = s.dbg := by delta State.setLinkEnd; rfl
@[simp] theorem setLinkEnd_trace (l d : Nat) (x : LinkEnd) : (s.setLinkEnd l d x).trace = s.trace := by delta State.setLinkEnd; rfl
@[simp] theorem setLinkEnd_clearing (l d : Nat) (x : LinkEnd) : (s.setLinkEnd l d x).clearing = s.clearing := by delta State.setLinkEnd; rfl

@[simp] theorem setAligner_pending (k : Nat) (x : List Held) : (s.setAligner k x).pending = s.pending := by delta State.setAligner; rfl
@[simp] theorem setAligner_regs (k : Nat) (x : List Held) : (s.setAligner k x).regs = s.regs := by delta State.setAligner; rfl
@[simp] theorem setAligner_mem (k : Nat) (x : List Held) : (s.setAligner k x).mem = s.mem := by delta State.setAligner; rfl
@[simp] theorem setAligner_outbox (k : Nat) (x : List Held) : (s.setAligner k x).outbox = s.outbox := by delta State.setAligner; rfl
@[simp] theorem setAligner_cells (k : Nat) (x : List Held) : (s.setAligner k x).cells = s.cells := by delta State.setAligner; rfl
@[simp] theorem setAligner_cellCtl (k : Nat) (x : List Held) : (s.setAligner k x).cellCtl = s.cellCtl := by delta State.setAligner; rfl
@[simp] theorem setAligner_slots (k : Nat) (x : List Held) : (s.setAligner k x).slots = s.slots := by delta State.setAligner; rfl
@[simp] theorem setAligner_tileCtl (k : Nat) (x : List Held) : (s.setAligner k x).tileCtl = s.tileCtl := by delta State.setAligner; rfl
@[simp] theorem setAligner_switch (k : Nat) (x : List Held) : (s.setAligner k x).switch = s.switch := by delta State.setAligner; rfl
@[simp] theorem setAligner_regions (k : Nat) (x : List Held) : (s.setAligner k x).regions = s.regions := by delta State.setAligner; rfl
@[simp] theorem setAligner_cycle (k : Nat) (x : List Held) : (s.setAligner k x).cycle = s.cycle := by delta State.setAligner; rfl
@[simp] theorem setAligner_tb (k : Nat) (x : List Held) : (s.setAligner k x).tb = s.tb := by delta State.setAligner; rfl
@[simp] theorem setAligner_tbOff (k : Nat) (x : List Held) : (s.setAligner k x).tbOff = s.tbOff := by delta State.setAligner; rfl
@[simp] theorem setAligner_tbSlew (k : Nat) (x : List Held) : (s.setAligner k x).tbSlew = s.tbSlew := by delta State.setAligner; rfl
@[simp] theorem setAligner_free (k : Nat) (x : List Held) : (s.setAligner k x).free = s.free := by delta State.setAligner; rfl
@[simp] theorem setAligner_status (k : Nat) (x : List Held) : (s.setAligner k x).status = s.status := by delta State.setAligner; rfl
@[simp] theorem setAligner_answer (k : Nat) (x : List Held) : (s.setAligner k x).answer = s.answer := by delta State.setAligner; rfl
@[simp] theorem setAligner_routers (k : Nat) (x : List Held) : (s.setAligner k x).routers = s.routers := by delta State.setAligner; rfl
@[simp] theorem setAligner_dieCogs (k : Nat) (x : List Held) : (s.setAligner k x).dieCogs = s.dieCogs := by delta State.setAligner; rfl
@[simp] theorem setAligner_cogTab (k : Nat) (x : List Held) : (s.setAligner k x).cogTab = s.cogTab := by delta State.setAligner; rfl
@[simp] theorem setAligner_gsWait (k : Nat) (x : List Held) : (s.setAligner k x).gsWait = s.gsWait := by delta State.setAligner; rfl
@[simp] theorem setAligner_capWin (k : Nat) (x : List Held) : (s.setAligner k x).capWin = s.capWin := by delta State.setAligner; rfl
@[simp] theorem setAligner_isolated (k : Nat) (x : List Held) : (s.setAligner k x).isolated = s.isolated := by delta State.setAligner; rfl
@[simp] theorem setAligner_descs (k : Nat) (x : List Held) : (s.setAligner k x).descs = s.descs := by delta State.setAligner; rfl
@[simp] theorem setAligner_lru (k : Nat) (x : List Held) : (s.setAligner k x).lru = s.lru := by delta State.setAligner; rfl
@[simp] theorem setAligner_atts (k : Nat) (x : List Held) : (s.setAligner k x).atts = s.atts := by delta State.setAligner; rfl
@[simp] theorem setAligner_mirrorOut (k : Nat) (x : List Held) : (s.setAligner k x).mirrorOut = s.mirrorOut := by delta State.setAligner; rfl
@[simp] theorem setAligner_mirrorCnt (k : Nat) (x : List Held) : (s.setAligner k x).mirrorCnt = s.mirrorCnt := by delta State.setAligner; rfl
@[simp] theorem setAligner_axes (k : Nat) (x : List Held) : (s.setAligner k x).axes = s.axes := by delta State.setAligner; rfl
@[simp] theorem setAligner_encs (k : Nat) (x : List Held) : (s.setAligner k x).encs = s.encs := by delta State.setAligner; rfl
@[simp] theorem setAligner_trigs (k : Nat) (x : List Held) : (s.setAligner k x).trigs = s.trigs := by delta State.setAligner; rfl
@[simp] theorem setAligner_samples (k : Nat) (x : List Held) : (s.setAligner k x).samples = s.samples := by delta State.setAligner; rfl
@[simp] theorem setAligner_sampled (k : Nat) (x : List Held) : (s.setAligner k x).sampled = s.sampled := by delta State.setAligner; rfl
@[simp] theorem setAligner_banks (k : Nat) (x : List Held) : (s.setAligner k x).banks = s.banks := by delta State.setAligner; rfl
@[simp] theorem setAligner_hbmReq (k : Nat) (x : List Held) : (s.setAligner k x).hbmReq = s.hbmReq := by delta State.setAligner; rfl
@[simp] theorem setAligner_dmas (k : Nat) (x : List Held) : (s.setAligner k x).dmas = s.dmas := by delta State.setAligner; rfl
@[simp] theorem setAligner_links (k : Nat) (x : List Held) : (s.setAligner k x).links = s.links := by delta State.setAligner; rfl
@[simp] theorem setAligner_linkEnds (k : Nat) (x : List Held) : (s.setAligner k x).linkEnds = s.linkEnds := by delta State.setAligner; rfl
@[simp] theorem setAligner_training (k : Nat) (x : List Held) : (s.setAligner k x).training = s.training := by delta State.setAligner; rfl
@[simp] theorem setAligner_sampleOut (k : Nat) (x : List Held) : (s.setAligner k x).sampleOut = s.sampleOut := by delta State.setAligner; rfl
@[simp] theorem setAligner_fuses (k : Nat) (x : List Held) : (s.setAligner k x).fuses = s.fuses := by delta State.setAligner; rfl
@[simp] theorem setAligner_sec (k : Nat) (x : List Held) : (s.setAligner k x).sec = s.sec := by delta State.setAligner; rfl
@[simp] theorem setAligner_power (k : Nat) (x : List Held) : (s.setAligner k x).power = s.power := by delta State.setAligner; rfl
@[simp] theorem setAligner_board (k : Nat) (x : List Held) : (s.setAligner k x).board = s.board := by delta State.setAligner; rfl
@[simp] theorem setAligner_released (k : Nat) (x : List Held) : (s.setAligner k x).released = s.released := by delta State.setAligner; rfl
@[simp] theorem setAligner_grn (k : Nat) (x : List Held) : (s.setAligner k x).grn = s.grn := by delta State.setAligner; rfl
@[simp] theorem setAligner_health (k : Nat) (x : List Held) : (s.setAligner k x).health = s.health := by delta State.setAligner; rfl
@[simp] theorem setAligner_grps (k : Nat) (x : List Held) : (s.setAligner k x).grps = s.grps := by delta State.setAligner; rfl
@[simp] theorem setAligner_pinSet (k : Nat) (x : List Held) : (s.setAligner k x).pinSet = s.pinSet := by delta State.setAligner; rfl
@[simp] theorem setAligner_calT0 (k : Nat) (x : List Held) : (s.setAligner k x).calT0 = s.calT0 := by delta State.setAligner; rfl
@[simp] theorem setAligner_braked (k : Nat) (x : List Held) : (s.setAligner k x).braked = s.braked := by delta State.setAligner; rfl
@[simp] theorem setAligner_capBraked (k : Nat) (x : List Held) : (s.setAligner k x).capBraked = s.capBraked := by delta State.setAligner; rfl
@[simp] theorem setAligner_twin (k : Nat) (x : List Held) : (s.setAligner k x).twin = s.twin := by delta State.setAligner; rfl
@[simp] theorem setAligner_cores (k : Nat) (x : List Held) : (s.setAligner k x).cores = s.cores := by delta State.setAligner; rfl
@[simp] theorem setAligner_resv (k : Nat) (x : List Held) : (s.setAligner k x).resv = s.resv := by delta State.setAligner; rfl
@[simp] theorem setAligner_fabWdt (k : Nat) (x : List Held) : (s.setAligner k x).fabWdt = s.fabWdt := by delta State.setAligner; rfl
@[simp] theorem setAligner_pkgWdt (k : Nat) (x : List Held) : (s.setAligner k x).pkgWdt = s.pkgWdt := by delta State.setAligner; rfl
@[simp] theorem setAligner_loader (k : Nat) (x : List Held) : (s.setAligner k x).loader = s.loader := by delta State.setAligner; rfl
@[simp] theorem setAligner_bist (k : Nat) (x : List Held) : (s.setAligner k x).bist = s.bist := by delta State.setAligner; rfl
@[simp] theorem setAligner_outer (k : Nat) (x : List Held) : (s.setAligner k x).outer = s.outer := by delta State.setAligner; rfl
@[simp] theorem setAligner_dbg (k : Nat) (x : List Held) : (s.setAligner k x).dbg = s.dbg := by delta State.setAligner; rfl
@[simp] theorem setAligner_trace (k : Nat) (x : List Held) : (s.setAligner k x).trace = s.trace := by delta State.setAligner; rfl
@[simp] theorem setAligner_clearing (k : Nat) (x : List Held) : (s.setAligner k x).clearing = s.clearing := by delta State.setAligner; rfl

end Sys2Proof.Laws
end

