-- ==== Sys2Proof/Tests/Slice0.lean ====
section
/-! SUPPORT. Tests of the model: ill-formed terms that wellFormed refuses, states that meet the hypotheses of the
statements, and single steps with results from the manual's tables and worked examples. -/

namespace Sys2Proof.Tests

open Sys2Proof Sys2Proof.Machine

set_option Elab.async false

/-- A step's next state passes a check; a fault or a refusal does not. -/
def after (o : Host.Outcome State Fault Refusal) (p : State → Bool) : Bool :=
  match o with
  | .next t => p t
  | _ => false

/-! Ill-formed terms, one for each check of wellFormed. -/

/-- Fields of a micro-instruction with every code 0: ALWAYS, v0, v0, v0. -/
def f0 : Fields := ⟨0, 0, 0, 0, 0, 0, 0, 0, 0, 0, 0, 0⟩
/-- The same with DST NONE. -/
def fNone : Fields := { f0 with dst := 0x18 }
def c0 : CellAt := ⟨0, 0, 0⟩

/-- Reserved TEST, CP, operand, DST and CTL codes (R87). -/
theorem test_wf_cell_codes :
    wellFormed (.cellAdd c0 { f0 with test := 7 }) = false ∧ wellFormed (.cellAdd c0 { f0 with cp := 7 }) = false ∧
    wellFormed (.cellAdd c0 { f0 with srca := 0x1F }) = false ∧ wellFormed (.cellAdd c0 { f0 with dst := 0x10 }) = false ∧
    wellFormed (.cellAdd c0 { f0 with ctl := 1 }) = false ∧ wellFormed (.cellAdd c0 f0) = true := by decide +kernel

/-- The other rows of R87: DST and OMASK on MAC, DST on ST, TM, SRCA of TAGRD and LD, pointer SRCB, CH. -/
theorem test_wf_cell_rows :
    wellFormed (.cellMac c0 f0) = false ∧ wellFormed (.cellMac c0 { fNone with omask := 1 }) = false ∧
    wellFormed (.cellSt c0 f0) = false ∧ wellFormed (.cellTagout c0 f0) = false ∧
    wellFormed (.cellAdd c0 { f0 with tm := 1 }) = false ∧ wellFormed (.cellTagrd c0 f0) = false ∧
    wellFormed (.cellLd c0 f0) = false ∧ wellFormed (.cellLd c0 { f0 with srca := 0x18, srcb := 0x14 }) = false ∧
    wellFormed (.cellAnd c0 { f0 with ch := 1 }) = false ∧ wellFormed (.cellAdd c0 { f0 with ch := 1 }) = true := by
  decide +kernel

/-- Lengths of payloads and records. -/
theorem test_wf_lengths :
    wellFormed (.leatResponse 0 0 0 0 [1]) = false ∧ wellFormed (.svcPush 0 []) = false ∧
    wellFormed (.svcConfig 0 []) = false ∧ wellFormed (.dmaTransferResponse 0 0 0 (List.replicate 2049 0)) = false ∧
    wellFormed (.imageHeader []) = false ∧ wellFormed (.recordCell 0 0 [1]) = false ∧
    wellFormed (.recordMemory 0 0 (List.replicate 7 0)) = false ∧ wellFormed (.imageTag []) = false := by decide +kernel

theorem test_wf_lengths_outer :
    wellFormed (.pcieBar0Write 0 2 [0, 0, 0, 0]) = false ∧ wellFormed (.pcieBar0Write 0 0 [0]) = false ∧
    wellFormed (.pcieBar0Read 0 0 3) = false ∧ wellFormed (.hostCompletionRx 0 [1]) = false ∧
    wellFormed (.registerWrite 2 0 false 0 0) = false ∧
    wellFormed (.ftMirqRx ⟨true, 0, none, 0⟩ 0 (List.replicate 13 0)) = false ∧
    wellFormed (.ftCkptRx ⟨true, 0, none, 0⟩ 0 (List.replicate 12 (0, 0))) = false ∧
    wellFormed (.ftGranRx ⟨true, 0, none, 0⟩ 0 0 true (List.replicate 93 0)) = false ∧
    wellFormed (.ftStateRx ⟨true, 0, none, 0⟩ 0 (List.replicate 97 0)) = false := by decide +kernel

/-- Pages that no node carries, and offsets inside a word. -/
theorem test_wf_pages :
    wellFormed (.evtPendClear ⟨.bank, 768⟩ 0 0 0) = false ∧ wellFormed (.blkEnable ⟨.rgn, 128⟩ true 0 0) = false ∧
    wellFormed (.regReadClear ⟨.rgn, 0⟩ 0x42 0 0) = false ∧ wellFormed (.regReadClear ⟨.rgn, 0⟩ 0x40 0 0) = true := by
  decide +kernel

/-! Cells. -/

/-- Region 0 ACTIVE and about to run region cycle 7. -/
def act : State := (State.reset.setFld (rgnPage 0) 0x40 0 3 stActive).setRegion 0 { Region.reset with cyc := 7 }

def fNever : Fields := { f0 with inv := 1 }
/-- Reads input N, writes nothing. -/
def fIn : Fields := { fNone with srca := 0x10 }

/-- CellResultWord: every operation has fields the loader takes, in a region that runs. -/
theorem witness_cell_result :
    act.mayRun c0 = true ∧ act.slotCond c0 f0 = true ∧ act.slotCond c0 fIn = true ∧
    ∀ e ∈ scalarOps, fieldsOk e.op f0 = true ∨ fieldsOk e.op fIn = true := by decide +kernel

/-- CellComparePacked: both clauses, at the first and the last lane. -/
theorem witness_cell_compare_packed :
    (∀ e ∈ compareOps, fieldsOk e.2.1 f0 = true) ∧ (∀ e ∈ packedOps, fieldsOk e.2.1 f0 = true ∧ 0 < 32 / e.2.2.1) ∧
    3 < 32 / 8 ∧ act.mayRun c0 = true ∧ act.slotCond c0 f0 = true := by decide +kernel

/-- CellAccumulate: with DST NONE and with START, and ACCRD with s = 0 and s = 31. -/
theorem witness_cell_accumulate :
    (∀ e ∈ accOps, fieldsOk e.2.1 fNone = true ∧ fieldsOk e.2.1 { f0 with dst := 0x14 } = true) ∧
    fieldsOk 0x2F f0 = true ∧ fieldsOk 0x2F { f0 with srcb := 31 } = true ∧ act.slotCond c0 fNone = true := by
  decide +kernel

/-- CellNopSquash: the condition true, and false, for every operation's fields. -/
theorem witness_cell_squash :
    fieldsOk 0x00 f0 = true ∧ act.slotCond c0 fNever = false ∧ fieldsOk 0x02 fNever = true ∧
    fieldsOk 0x24 { fNever with srca := 0x18 } = true ∧ fieldsOk 0x25 { fNever with dst := 0x18 } = true ∧
    act.slotCond c0 { fNever with srca := 0x18 } = false ∧ act.slotCond c0 { fNever with dst := 0x18 } = false := by
  decide +kernel

/-- Quarter 0 of tile 0 belongs to cell 0. -/
def actOwned : State := { act with tileCtl := [(0, 0x20000#64)] }

/-- CellLoadStore: a quarter the cell owns and one it does not, at its first and last word. -/
theorem witness_cell_load_store :
    fieldsOk 0x24 { f0 with srca := 0x18 } = true ∧ fieldsOk 0x25 fNone = true ∧
    actOwned.mayRun c0 = true ∧ actOwned.slotCond c0 fNone = true ∧ act.slotCond c0 { f0 with srca := 0x18 } = true ∧
    ownsQuarter (actOwned.tileCtlWord 0) 0 0 = true ∧ ownsQuarter (actOwned.tileCtlWord 0) 3 0 = false ∧
    ownsQuarter (act.tileCtlWord 0) 0 0 = false := by decide +kernel

/-- LD of a word of an owned quarter is in flight with the word read, two cycles on (R84). -/
theorem test_cell_ld :
    after (exec (.cellLd c0 { f0 with srca := 0x18, dst := 1 }) (actOwned.writeWord (tileBase 0 0) 0x1234)) (fun t =>
      (t.cell 0).flight.map (fun r => (r.land, r.val, r.dst)) == [(9, 0x1234, some 1)]) = true := by decide +kernel

/-- CellEncodingAndInactive. -/
theorem witness_cell_encoding :
    fieldsOk 0x2B f0 = false ∧ fieldsOk 0x02 f0 = true ∧ State.reset.rgnActive 0 = false := by decide +kernel

def flying (land : Nat) (d : BitVec 5) : State :=
  act.setCell 0 { Cell.reset with flight := [⟨5, land, 0, some d, 42, none, 0, 0, 0, idleWord, none, none⟩] }

/-- CellResultLands: due in this cycle into v0 and m0, and due in the next. -/
theorem witness_cell_lands :
    (flying 7 0).rgnActive 0 = true ∧ ((flying 7 0).cell 0).flight.map (·.land) = [7] ∧
    ((flying 8 0x16).cell 0).flight.map (·.dst) = [some 0x16] ∧ (flying 7 0).cycleAt c0 = 7 := by decide +kernel

/-- The micro-instruction of the worked example of chapter 4: slot 1, MAC.B on WORD(W), IN.W and v9. -/
theorem test_cell_encoding_mac_b :
    fieldsOf 0xF8B189A00000#48 =
      (0x3E, { f0 with test := 2, cp := 0x18, dst := 0x18, srca := 0x13, srcb := 0x08 }) := by decide +kernel

/-- A cell's operands, for the operations alone. -/
def cin (a b : Word) (acc : DWord) (imm : Nat) : CellIn :=
  { a := a, b := b, imm := imm, flags := 0, west := false, acc := acc, accNow := acc, tagA := 0, mem := 0 }

/-- The worked example of chapter 4: 240, then 627, then 157 (Table 4-9). -/
theorem test_cell_mac_b :
    (cellAlu 0x3E (cin 0x10203040 0x02FF0103 0 0)).acc = some 240 ∧
    (cellAlu 0x3E (cin 0xFF008004 0x01010101 240 0)).acc = some 627 ∧
    (cellAlu 0x2F (cin 0 0 627 2)).val = 157 := by decide +kernel

/-- ABS of the most negative number sets V and keeps it (R80); ADD wraps with carry and zero. -/
theorem test_cell_abs_add :
    (cellAlu 0x0A (cin 0x80000000 0 0 0)).val = 0x80000000 ∧ (cellAlu 0x0A (cin 0x80000000 0 0 0)).flags.getLsbD 3 = true ∧
    (cellAlu 0x02 (cin 0xFFFFFFFF 1 0 0)).val = 0 ∧ (cellAlu 0x02 (cin 0xFFFFFFFF 1 0 0)).carry = true := by decide +kernel

/-- A result due in cycle 7 is in v0 after CELL_RESULT_LAND. -/
theorem test_cell_lands :
    after (exec (.cellResultLand c0) (flying 7 0)) (fun t => (t.cell 0).v[0] == 42 && (t.cell 0).flight == []) = true := by
  decide +kernel

/-- The shift count is the low five bits (Table 4-7). -/
theorem test_cell_shift : (cellAlu 0x1C (cin 1 33 0 0)).val = 2 ∧ (cellAlu 0x1E (cin 0x80000000 31 0 0)).val = 0xFFFFFFFF := by
  decide +kernel

/-! Resets (ResetOfTheDevice, ResetRelease). -/

/-- Power good: POR and RESET_N released. -/
def pg : State := { State.reset with board := { Board.reset with por := false } }
/-- A package that forwards, the boot's training ended. -/
def fwd : State :=
  { pg with released := [(0, 3), (1, 3), (2, 3), (8, 3)], training := { Training.reset with done := true } }

/-- RESET_N falls after POR (R492); POR release and RESET_N release in either order. -/
theorem witness_reset_pins :
    pg.board.por = false ∧ State.reset.board.por = true ∧ State.reset.board.resetLow = false := by decide +kernel

/-- The cap with three of its PLLs locked. -/
def locks : State := pg.setFld (clkPage 0) 0x40 4 4 0xE
/-- Training not ended, only the cap released. -/
def sitting : State := { fwd with training := Training.reset, released := [(0, 3)] }
/-- The first bank of sail 1 in the secure partition. -/
def secBank : State := fwd.setBit (bankPage 0) 0x48 0 true
/-- Sail 3 in a SAIL reset, both banks of its secure partition wiped and being wiped. -/
def sailHeld : State := fwd.setBit (rstPage 0) 0x50 2 true

/-- ResetOfTheDevice: a bank that a WARM reset wipes and one it does not. -/
theorem witness_device_reset :
    0 ∈ secureBanks ∧ secBank.bankSecure 0 = true ∧ fwd.bankSecure 0 = false ∧ 2 ∉ secureBanks := by decide +kernel

/-- Release steps: the last of the cap's PLLs, a sail with nothing released, and PLL unlock of a sail that runs and of one
that does not. -/
theorem witness_release_steps :
    pg.powerGood = true ∧ pg.releasedTo 0 = 0 ∧ fwd.releasedTo 0 ≠ 0 ∧ (fwd.releasedTo 0 = 3 ∧ fwd.releasedTo 8 = 3) ∧
    locks.powerGood = true ∧ locks.releasedTo 0 = 0 ∧ (∀ i, i < 4 → i ≠ 0 → locks.rbit (clkPage 0) 0x40 (4 + i) = true) ∧
    sitting.training.done = false ∧ sitting.releasedTo 0 = 3 ∧ sitting.releasedTo 1 = 0 ∧ sitting.releasedTo 8 = 0 ∧
    fwd.isIsolated 1 = false ∧ fwd.isIsolated 8 = false ∧ fwd.releasedTo 7 ≠ 3 ∧ fwd.training.done = true := by decide +kernel

/-- SAIL reset of the first and the last sail, and its release. -/
theorem witness_sail_reset :
    fwd.isIsolated 1 = false ∧ fwd.isIsolated 8 = false ∧ fwd.releasedTo 1 = 3 ∧ fwd.releasedTo 8 = 3 ∧
    sailHeld.training.done = true ∧ sailHeld.rbit (rstPage 0) 0x50 2 = true ∧ sailHeld.isIsolated 3 = false ∧
    sailHeld.releasedTo 3 = 0 ∧ (∀ i, i < 2 → (sailHeld.bank (96 * 2 + i)).wiping = false) := by decide +kernel

/-- RST.CAUSE after COLD and WARM (Table 14-3), on the cap and on the last sail. -/
theorem test_reset_cause :
    after (exec .rstCold fwd) (fun t => t.reg (rstPage 0) 0x48 == 4 && t.reg (rstPage 8) 0x48 == 4) = true ∧
    after (exec .rstWarm fwd) (fun t => t.reg (rstPage 0) 0x48 == 8 && t.releasedTo 0 == 0) = true := by decide +kernel

/-! Links (Links). -/

/-- Boot has read the manifest; links 0 and 11 (between sails 1 and 8) stand in training step n. -/
def lk (n : Nat) : State :=
  (({ fwd with grn := { fwd.grn with scanned := 1 } }.setLink 0 { Link.reset with step := n }).setLink 11
    { Link.reset with step := n })
/-- Links 0, 4 (between sails 1 and 2) and 11 await alignment, markers have arrived at the far ends of links 0 and 4, and
the dies `al` are aligned. -/
def lkMarked (al : BitVec 9) : State :=
  let e := { LinkEnd.reset with mkRound := some (5, 64), mkTime := some 1000 }
  { (((lk 7).setLink 4 { Link.reset with step := 7 }).setLinkEnd 0 1 e).setLinkEnd 4 2 e with
    training := { Training.reset with aligned := al } }
/-- Both ends report the same width and rate; SCHED 0. -/
def lkWide : State := (((((lk 5).setFld (fvlPage 0 0) 0x48 14 2 2).setFld (fvlPage 0 1) 0x48 16 2 2).setFld (fvlPage 11 1)
  0x48 14 2 1).setFld (fvlPage 11 8) 0x48 14 2 1)
def lane2 : Lanes := ⟨2, 0, 300, 0, 1, 0⟩
def rep (die : Nat) : IdReport := ⟨1, BitVec.ofNat 4 die, BitVec.ofNat 4 die, 3⟩

/-- LinkTraining: a state at each step, for the first and the last link; a report that disagrees, RETRAIN, and both
kinds of marker alignment. -/
theorem witness_link_training :
    (lk 0).linkState 0 = lkReset ∧ (lk 0).linkState 11 = lkReset ∧ (lk 0).grn.scanned.getLsbD 0 = true ∧
    SitesUp (lk 0) 0 ∧ SitesUp (lk 0) 11 ∧ ((lk 2).link 11).step = 2 ∧
    (lk 2).reportCause 0 (rep 0) (rep 1) = none ∧ (lk 2).reportCause 11 (rep 1) (rep 8) = none ∧
    (lk 2).reportCause 11 (rep 1) (rep 2) = some 3 ∧ (lk 2).linkState 11 ≠ lkDown ∧ NoOpen (lk 2) 11 ∧
    ((lk 3).link 0).step = 3 ∧ (lkWide.link 0).step = 5 ∧ lkWide.reportOf 0 0 = lkWide.reportOf 0 1 ∧
    0 < lkWide.reportOf 0 0 ∧ lkWide.reportOf 11 1 = lkWide.reportOf 11 8 ∧ lane2.mod0.val + lane2.mod1.val = 2 := by
  unfold SitesUp NoOpen; decide +kernel

theorem witness_marker_align :
    (State.reset.setLinkState 0 lkRetrain).linkState 0 = lkRetrain ∧
    ((lkMarked 0).link 0).step = 7 ∧ SitesUp (lkMarked 0) 0 ∧ SitesUp (lkMarked 0) 4 ∧ SitesUp (lkMarked 0) 11 ∧
    (lkMarked 0).waitsAlign 11 = false ∧ (lkMarked 2).waitsAlign 0 = false ∧ (lkMarked 0).waitsAlign 0 = true ∧
    ((lkMarked 0).linkEnd 0 1).mkRound = some (5, 64) ∧ ((lkMarked 0).linkEnd 0 1).mkTime = some 1000 ∧
    (lkMarked 2).waitsAlign 4 = true ∧ ((lkMarked 2).link 4).step = 7 ∧ (lkMarked 2).training.aligned.getLsbD 1 = true ∧
    ((lkMarked 2).linkEnd 4 2).mkRound = some (5, 64) ∧ ((lkMarked 2).linkEnd 4 2).mkTime = some 1000 := by
  unfold SitesUp; decide +kernel

/-- The link state register of one end of a link, STATE UP. -/
def up : State := State.reset.setLinkState 0 lkUp
/-- Die 1 has sent a frame with one credit to die 0 over link 0. -/
def framed : State := up.setLinkEnd 0 1 { LinkEnd.reset with sent := [⟨0, 0, false, [(3, 7)], [], none, none⟩] }

/-- The same link, its frame failed four times. -/
def failing : State := framed.setLinkEnd 0 1 { framed.linkEnd 0 1 with fails := 4 }

/-- LinkInUse: a frame with a credit, the first failure and the one after the fourth, RETRAIN and training with nothing
open. -/
theorem witness_link_in_use :
    (framed.linkEnd 0 (farDie 0 (endDie 0 false))).sent = [⟨0, 0, false, [(3, 7)], [], none, none⟩] ∧
    framed.endLive 0 (endDie 0 false) = true ∧ framed.trainingFrames 0 = false ∧
    (framed.linkEnd 0 (farDie 0 (endDie 0 false))).fails < 4 ∧
    4 ≤ (failing.linkEnd 0 (farDie 0 (endDie 0 false))).fails ∧ failing.linkState 0 = lkUp ∧ NoOpen failing 0 ∧
    (failing.linkEnd 0 (farDie 0 (endDie 0 false))).sent ≠ [] ∧ ((failing.link 0).entries.filter fun c =>
      decide (failing.cycle < c + tenSeconds)).length < 3 ∧
    up.linkState 0 = lkUp ∧ NoOpen up 0 ∧ (up.link 0).entries = [] ∧
    (State.reset.setLinkState 0 lkDegraded).linkState 0 = lkDegraded ∧ (lk 7).linkState 11 ≠ lkDown ∧ NoOpen (lk 7) 11 := by
  unfold NoOpen; decide +kernel

/-- C_w of Table 11-9: two x64 modules at 32 GT/s carry 32 slots, one x32 at 16 GT/s carries 2. -/
theorem test_capacity : capacityOf 4 3 = 32 ∧ capacityOf 0 3 = 0 := by decide +kernel

/-! Routers and endpoints (RouterFlit, InjectionEjection, AdmitGates). -/

/-- Router {y,x} as the commands number it. -/
def nd (x y : Nat) : Fin 144 := Fin.ofNat 144 (12 * y + x)
/-- A router's cog table governs with this entry at every cog 0. -/
def withEntry (s : State) (n : Nat) (e : Word) : State := (s.setBit (cogPage n) 0x48 15 true).setCogEntry n 0 0 e
def flit0 : Flit := ⟨Vector.replicate 8 0, Vector.replicate 4 .clean⟩
def gsFlit : ChanFlit := ⟨false, 0, false, true, bareHeader, flit0⟩
/-- Every output set aside for priority 0 (select 8) but L, which is GS from N. -/
def setAside : Word := 0x00018888
/-- Every output claimed by GS. -/
def allGs : Word := 0x00011111

/-- A GS flit from the west held at an aligner, due in this cog and round. -/
def held : State := fwd.setAligner 0x44 [⟨3, 0, 0, gsFlit⟩]
/-- The same, and this cog's entry takes it to the output east and to L. -/
def heldOut : State := withEntry held 0x44 0x00040040
def beFlit (head : Bool) : ChanFlit := { gsFlit with be := true, vc := 7, head := head }

/-- RouterFlit at the north-west router of the cap: flits from input N, the inputs on the die and at a crossing, and the
release of an aligned flit to two outputs that stay on the die. -/
theorem witness_router_flit :
    fwd.releasedTo (nodeDie (nodeNum (nd 4 4))) = 3 ∧ fwd.rbit (rtrPage 0x44) 0x50 0 = false ∧
    fwd.rbit (rtrPage 0x44) 0x50 4 = false ∧ tget (fun _ => false) (fwd.router 0x44).discard (chan 0 7) = false ∧
    flit0.ecc = Vector.replicate 4 .clean ∧ bareHeader.destNode = 0 ∧ beyond 0x44 (routeTo 0x44 0) = some 7 ∧
    fwd.isIsolated 7 = false ∧ portXing 0x44 4 = none ∧ portXing 0x44 1 = none ∧ portXing 0x44 0 = some 0 := by decide +kernel

theorem witness_aligner_release :
    (heldOut.aligner 0x44).find? (fun h => h.port == 3 && h.cog == (heldOut.cogs 0).cog && h.round == (heldOut.cogs 0).round)
      = some ⟨3, 0, 0, gsFlit⟩ ∧ nodeDie 0x44 = 0 ∧
    heldOut.rbit (rtrPage 0x44) 0x50 3 = false ∧ heldOut.rbit (prbPage 0x44) 0x40 0 = false ∧
    (∀ o, o < 5 → entrySel (heldOut.entryNow 0x44) o = 4 → portXing 0x44 o = none) ∧
    entrySel (heldOut.entryNow 0x44) 1 = 4 ∧ entrySel (heldOut.entryNow 0x44) 4 = 4 := by decide +kernel

def head0 : Header := { bareHeader with bkind := 3, srcPort := 0x30, destPort := 0x20, bytes := 4 }
/-- To core 0's mailbox, node {4,5}, and to a node outside the grid. -/
def note45 : Packet := ⟨{ bareHeader with bkind := 6, destPort := 0x22, destNode := 0x45 }, []⟩
def noteAbsent : Packet := ⟨{ head0 with destPort := 0x25, destNode := 0x4C }, []⟩

/-- A packet from {4,4} waits in the outbox. -/
def posting : State := { fwd with outbox := [⟨{ note45.hdr with srcNode := 0x44 }, []⟩] }

/-- Injection: a node that does not exist, a packet that waits at input L, a packet that the outbox holds. -/
theorem witness_injection :
    fwd.releasedTo (nodeDie (nodeNum (nd 4 4))) = 3 ∧
    isAddressed noteAbsent.hdr = false ∧ noteAbsent.hdr.destNode ≠ 0xFF ∧ nodeExists noteAbsent.hdr.destNode.toNat = false ∧
    isNonPosted noteAbsent.hdr = true ∧ (fwd.router 0x44).owed = [] ∧
    isAddressed note45.hdr = false ∧ note45.hdr.destNode ≠ 0xFF ∧ nodeExists note45.hdr.destNode.toNat = true ∧
    fwd.rbit (rtrPage 0x44) 0x50 4 = false ∧
    ((beyond 0x44 (routeTo 0x44 0x45)).map fwd.isIsolated).getD false = false ∧
    fwd.laneTaken 0x44 0 (vcOf note45.hdr % 8) = false ∧ (fwd.router 0x44).inject = [] ∧
    (fwd.router 0x44).injNext ≤ fwd.cycle ∧
    (tget (fun _ => []) (fwd.router 0x44).bufs (chan 4 (vcOf note45.hdr % 8))).length < 6 ∧
    (posting.outbox.find? fun p => p.hdr.srcNode.toNat == 0x44 && !posting.laneTaken 0x44 0 (vcOf p.hdr)).isSome = true := by
  decide +kernel

/-- Group 0 of sail 1 has captured a word, and cog 6 of its home node injects it (INJ 16, INJV). -/
def capturing : State :=
  ((fwd.setBit (cogPage 0x05) 0x48 15 true).setCogEntry 0x05 0 6 0x60000000#32).setGrp 1 0 { fwd.grp 1 0 with cap := [5] }

theorem witness_injection_gs :
    entryInjV (capturing.sampledEntry 0x05) = true ∧
    (capturing.sourceWords 0x05 (entryInj (capturing.sampledEntry 0x05))).2 = [5] ∧ nodeNum (nd 5 0) = 0x05 ∧
    entryInjV (State.reset.sampledEntry 0x05) = false := by decide +kernel

/-- A HEAD of a READ of tile memory. -/
def readTile : ChanFlit :=
  ⟨true, 0, true, true, { head0 with addr := BitVec.ofNat 48 (tileBase 0 0), destNode := 1, txn := 9 }, flit0⟩
/-- To a reserved port. -/
def badPort : ChanFlit := { readTile with hdr := { head0 with destPort := 0x25 } }
/-- Lane 0 of the transceivers in RAW mode, cog 0 of node {4,5} ejects to it. -/
def rawLane : State := (withEntry (State.reset.setGate 0x54 gateOpen) 0x54 0x01010000#32).setFld (xcvPage 0) (laneOff 0 0x100) 0 3 1

/-- Ejection: a gate that is CLOSED refuses, one that is OPEN admits, a reserved port, a lane, a GS flit at a CLOSED gate
and in a cog whose entry ejects nothing. -/
theorem witness_ejection :
    State.reset.gateRefusal (regionNode 0) readTile.hdr = some stEndpointClosed ∧
    isNonPosted readTile.hdr = true ∧ (State.reset.router (regionNode 0)).owed = [] ∧
    (act.setGate (regionNode 0) gateOpen).gateRefusal (regionNode 0) { readTile.hdr with bkind := 1 } = none ∧
    flit0.ecc = Vector.replicate 4 .clean ∧ (State.reset.setGate 0x44 gateOpen).gateRefusal 0x44 badPort.hdr = none ∧
    badPort.hdr.destPort = 0x25 ∧ badPort.hdr.bkind = 3 ∧
    nodeNum (nd 4 5) = 0x54 ∧ rawLane.gate 0x54 = gateOpen ∧ entrySel (rawLane.entryNow 0x54) 4 = 1 ∧
    entryEj (rawLane.entryNow 0x54) = 16 ∧ laneMode rawLane 0 = 1 ∧ rawLane.portSpoil 0x54 16 = none ∧
    ((List.finRange 8).all fun i => SWord.kind (flit0.words.get i) == 0#2) = true ∧
    (rawLane.setGate 0x54 gateClosing).gate 0x54 ≠ gateOpen ∧ entrySel (State.reset.entryNow 0x54) 4 = 0 := by decide +kernel

/-- A gate of a cap node in each of its states, and a region's. -/
theorem witness_admit_gates :
    (fwd.setGate 0x44 gateOpen).gate 0x44 = gateOpen ∧ State.reset.gate 0x44 = gateClosed ∧
    ((fwd.setGate 0x44 gateClosing).setBit (rtrPage 0x44) 0x48 0 true).gate 0x44 = gateClosing ∧
    (State.reset.setGate (regionNode 0) gateClosed).gate (regionNode 0) = gateClosed ∧
    State.reset.mayOpen (regionNode 0) = false ∧ act.mayOpen (regionNode 0) = true ∧
    (fwd.setGate 0x44 gateClosing).gateIdle 0x44 = true ∧ fwd.clearing = 0 ∧ fwd.loader.waiting = false := by decide +kernel

/-- Dimension order, X first (R117): from {4,4} a packet for {0,11} goes west, from {0,4} south, at {0,11} to L. -/
theorem test_route : routeTo 0x44 0xB0 = 3 ∧ routeTo 0x40 0xB0 = 2 ∧ routeTo 0xB0 0xB0 = 4 := by decide +kernel

/-! Rounds and cog tables (RoundStarts, CogTablesAndSwaps). -/

/-- Swaps armed for round 1 at two routers of the cap, one for another round, one enabled. -/
def swaps : State :=
  (((State.reset.setBit (cogPage 0x44) 0x48 13 true).setReg (cogPage 0x44) 0x50 0x80000001#32).setBit
    (cogPage 0x77) 0x48 12 true).setBit (cogPage 0x45) 0x40 0 true

theorem witness_round_starts :
    swaps.loader.waiting = false ∧ 0x44 ∈ dieNodes 0 ∧ 0x77 ∈ dieNodes 0 ∧ swaps.cogArmed 0x44 = true ∧
    swaps.rfld (cogPage 0x44) 0x50 0 16 = fld ((swaps.cogs 0).round + 1) 0 16 ∧ swaps.cogArmed 0x45 = false ∧
    swaps.rbit (cogPage 0x45) 0x40 0 = true ∧ swaps.cogGoverning 0x45 = false ∧ swaps.rbit (cogPage 0x77) 0x40 0 = false := by
  decide +kernel

/-- Bank 1 is the standby one; INDEX at its last entry with AUTOINC; a swap armed. -/
def tabEnd : State := State.reset.setReg (cogPage 0x44) 0x54 0x800103FF#32
theorem witness_cog_table :
    tabEnd.tabWritable 0x44 = true ∧ State.reset.tabWritable 0x44 = false ∧
    (tabEnd.setBit (cogPage 0x44) 0x48 13 true).tabWritable 0x44 = false ∧
    (2 + 2 ^ 16 - fld (State.reset.cogs 0).round 0 16) % 2 ^ 16 = 2 ∧
    (32767 + 2 ^ 16 - fld (State.reset.cogs 0).round 0 16) % 2 ^ 16 = 32767 := by decide +kernel

/-- The entry is written with bit 31 at 0 and INDEX wraps (R157, Table 7-10). -/
theorem test_cog_table_write :
    after (exec (.cogTabDataWrite (nd 4 4) 0xFFFFFFFF) tabEnd) (fun t =>
      t.cogEntry 0x44 1 0x3FF == 0x7FFFFFFF && t.rfld (cogPage 0x44) 0x54 0 10 == 0) = true := by decide +kernel

/-- Swaps for rounds 1 and 32,768 ahead are refused (R158). -/
theorem test_swap_range :
    after (exec (.cogSwapArm (nd 4 4) 1) State.reset) (fun t => t.status == 8) = true ∧
    after (exec (.cogSwapArm (nd 4 4) 32768) State.reset) (fun t => t.status == 8) = true := by decide +kernel

/-! Regions and tile memory (RegionCycle, TileMemoryAccess). -/

/-- Region 0 with its sequencer in TIME mode, a step every region cycle, at its last entry with `span` steps left. -/
def timed (step : Bool) (span : Nat) : State :=
  ((act.setFld (rgnPage 0) 0x44 0 2 1).setFld (rgnPage 0) 0x44 12 20 1).setRegion 0
    { Region.reset with cyc := 7, step := step, spanLeft := span }
/-- An access to word 0x10 of tile 35. -/
def tacc (kind : BitVec 3) (fl : List Flit) : TileAccess :=
  ⟨⟨{ head0 with bkind := kind, addr := BitVec.ofNat 48 (tileBase 0 35 + 0x10), len := BitVec.ofNat 7 fl.length }, fl⟩, 0, []⟩
def tileQ (kind : BitVec 3) (fl : List Flit) : State := act.setRegion 0 { Region.reset with cyc := 7, tileAcc := [tacc kind fl] }
/-- A READ of 8 bytes there. -/
def tacc8 : TileAccess := ⟨{ (tacc 3 []).pkt with hdr := { (tacc 3 []).pkt.hdr with bytes := 8 } }, 0, []⟩
def tileQ8 : State := act.setRegion 0 { Region.reset with cyc := 7, tileAcc := [tacc8] }
/-- Quarter 0 of tile 35 used in this region cycle. -/
def tileBusy : State := act.setRegion 0 { Region.reset with cyc := 7, tileAcc := [tacc 3 []], qbusy := [(140, 7)] }

theorem witness_region_cycle :
    act.rgnActive 0 = true ∧ act.sec.halt = false ∧ State.reset.rgnActive 127 = false ∧
    (timed true 1).seqMode 0 = 1 ∧ (timed true 1).rgnActive 0 = true ∧ (timed true 1).sec.halt = false ∧
    ((timed true 1).region 0).kcount + 1 = (timed true 1).seqK 0 ∧ ((timed true 1).region 0).step = true ∧
    ((timed true 1).region 0).spanLeft ≤ 1 ∧ ((timed true 1).region 0).entry = (timed true 1).seqLast 0 ∧
    1 < ((timed true 2).region 0).spanLeft ∧ ((timed false 1).region 0).step = false ∧ act.seqMode 0 ≠ 1 := by decide +kernel

theorem witness_tile_memory :
    ((tileQ 3 []).region 0).tileAcc.find? (fun a => tileOf a.pkt.hdr == 35) = some (tacc 3 []) ∧
    ((tileQ 3 []).router (regionNode 0)).owed = [] ∧
    tget (fun _ => 0) ((tileQ 3 []).region 0).qbusy (35 * 4) = 0 ∧ (tileQ 3 []).rgnActive 0 = true ∧
    (tacc 3 []).pkt.hdr.addr.toNat % 4 = 0 ∧ (tacc 3 []).pkt.hdr.bytes = 4 ∧ isNonPosted (tacc 3 []).pkt.hdr = true ∧
    ((tileQ 1 [bytesFlit [1, 2, 3, 4]]).region 0).tileAcc.find? (fun a => tileOf a.pkt.hdr == 35)
      = some (tacc 1 [bytesFlit [1, 2, 3, 4]]) ∧
    (tileQ8.region 0).tileAcc.find? (fun a => tileOf a.pkt.hdr == 35) = some tacc8 ∧
    tileWord tacc8.pkt.hdr 0 + 4 < tacc8.pkt.hdr.addr.toNat + tacc8.pkt.hdr.bytes.toNat ∧
    (tacc 3 []).pkt.hdr.addr.toNat + (tacc 3 []).pkt.hdr.bytes.toNat ≤ tileWord (tacc 3 []).pkt.hdr 0 + 4 ∧
    tget (fun _ => 0) (tileBusy.region 0).qbusy (35 * 4) = (tileBusy.region 0).cyc ∧
    (tileBusy.region 0).tileAcc.find? (fun a => tileOf a.pkt.hdr == 35) = some (tacc 3 []) ∧
    isNonPosted (tacc 0 []).pkt.hdr = false := by decide +kernel

/-- A write puts its least significant byte at the lowest address (R2). -/
theorem test_tile_write :
    after (exec (.tileMemBeAccess 0 35) (tileQ 1 [bytesFlit [1, 2, 3, 4]])) (fun t =>
      t.readWord (tileBase 0 35 + 0x10) == 0x04030201) = true := by decide +kernel

/-! Queues (QueueWords, QueueTransfers, QueueFlushUnbind, ServiceRequests). -/

/-- Queue 5 bound to index i of an instance, in DIRECT, with these words in the window. -/
def direct (inst i : Nat) (mid : Bool) (ws : List SWord) : State :=
  (State.reset.setDesc 5 { Desc.zero with state := qDirect, bound := true, kind := if i < 16 then 2 else 1, port := BitVec.ofNat 6 i
                                          node := if inst < 128 then BitVec.ofNat 8 (regionNode inst) else 0x55, pkts := 2 }).setAtt
    (portAtt inst i) { Att.reset with bound := true, queue := 5, mid := mid, window := ws }
def kLast : Nat := recvKey 131 15
/-- Receive port 15 of millpond quarter 3, the last key of the statements, and port 0 of region 0. -/
theorem witness_queue_keys : kLast = portAtt 0x103 15 ∧ recvKey 0 0 = portAtt 0 0 := by decide +kernel

/-- A word with END and KIND DATA. -/
def endWord : SWord := mkWord 0x20#6 7

theorem witness_queue_words :
    DirectQueue (direct 0x103 15 true [3, endWord]) kLast ∧ TakesWord (direct 0x103 15 true [3, endWord]) kLast endWord ∧
    DirectQueue (direct 0 0 false (List.replicate 15 3)) 0 ∧ TakesWord (direct 0 0 false (List.replicate 15 3)) 0 3 ∧
    ((direct 0x103 15 true [3]).setGate (attNode kLast) gateOpen).attClosed kLast = false ∧
    ((direct 0x103 15 true [3]).att kLast).mid = true ∧ (State.reset.att 0).bound = false := by
  unfold DirectQueue TakesWord; decide +kernel

def leat0 (p : LeatPhase) : Leat := ⟨9, 31, p, 0, [1], false⟩
/-- Port 0 of region 0 with a ring of 16 slots, RD and WR given. -/
def ringed (rd wr : BitVec 29) (a : Att) : State :=
  (State.reset.setDesc 5 { Desc.zero with state := qSpilling, bound := true, ringLog2 := 4, rd := rd, wr := wr }).setAtt 0
    { a with bound := true, queue := 5 }

def writing (p : LeatPhase) : State := ringed 31 31 { Att.reset with writes := [leat0 p] }
def staged : State := ringed 0 8 { Att.reset with staging := [endWord] }
theorem witness_queue_transfers :
    ((writing .sent).att 0).writes = [leat0 .sent] ∧ ((writing .sent).att 0).unbind = .none ∧
    ((writing .sent).att 0).staging = [] ∧ ((writing .sent).att 0).reads = [] ∧ (leat0 .sent).phase = .sent ∧
    (leat0 .sent).slot = ((writing .sent).desc 5).wr.toNat ∧ ((writing .sent).desc 5).state = qSpilling ∧
    ((writing .sent).desc 5).ringLog2.toNat ≤ 28 ∧ (leat0 .sent).dead = false ∧ (writing .sent).loader.waiting = false ∧
    ((writing .retry).att 0).writes = [leat0 .retry] ∧ (leat0 .retry).phase = .retry := by decide +kernel
theorem witness_queue_spill :
    (staged.att 0).bound = true ∧ (staged.att 0).unbind = .none ∧ (staged.att 0).staging = [endWord] ∧
    SWord.isEnd endWord = true ∧ (staged.att 0).cur = [] ∧ (staged.att 0).writes = [] ∧
    ringUsable (staged.desc 5) = true ∧ 0 < (staged.desc 5).ringCount ∧
    (staged.desc 5).ringCount + 7 < (staged.desc 5).ringSize := by decide +kernel

def flushing (mid : Bool) : State :=
  (direct 0 0 mid [3]).setDesc 5 { (direct 0 0 mid [3]).desc 5 with flush := true }
theorem witness_queue_flush :
    ((direct 0 0 true [3]).att 0).bound = true ∧ ((direct 0 0 true [3]).att 0).mid = true ∧
    ((direct 0 0 true [3]).desc 5).flush = false ∧ (direct 0 0 true [3]).mirrored 5 = false ∧
    DirectQueue (flushing false) 0 ∧ ((flushing false).desc 5).flush = true ∧ ((flushing false).att 0).cur = [] ∧
    ((flushing false).att 0).mid = false ∧
    DirectQueue (flushing true) 0 ∧ ((flushing true).desc 5).flush = true ∧ ((flushing true).att 0).cur = [] ∧
    ((flushing true).desc 5).pkts ≠ 0 ∧ ((flushing true).att 0).mid = true := by
  unfold DirectQueue; decide +kernel

/-- Port 0's queue draining, its words still held. -/
def draining : State := ringed 0 8 { Att.reset with unbind := .draining, window := [1, 2], staging := [3] }
theorem witness_queue_unbind :
    DirectQueue (direct 0 0 false []) 0 ∧ (direct 0 0 false []).gate (attNode 0) = gateClosed ∧
    ((direct 0 0 false []).att 0).window = [] ∧ ((direct 0 0 false []).att 0).cur = [] ∧
    ((direct 0 0 false []).att 0).spoil = .none ∧ (direct 0 0 false []).loader.waiting = false ∧
    (draining.att 0).unbind = .draining ∧ (draining.att 0).beHdr = none ∧ draining.loader.waiting = false := by
  unfold DirectQueue; decide +kernel

/-- Queue 5 is of quarter 1, which is enabled. -/
def served (s : State) : State := s.setBit (qmPage 1) 0x40 0 true
/-- An empty PARKED queue's descriptor as CONFIG carries it. -/
def parked : List Byte := (Desc.bytes { Desc.zero with state := qParked })
/-- Queue 5 receives at index 16 of quarter 0, and sends from index 15. -/
def pushable : State := served (direct 0x100 16 false [])
def poppable : State := served (direct 0x100 15 true [3])
theorem witness_service :
    pushable.descCached 5 = true ∧ pushable.qmServes 5 false = true ∧
    (pushable.desc 5).svcKey 5 = some (portAtt 0x100 16) ∧ (pushable.desc 5).kind = 1#2 ∧
    (pushable.att (portAtt 0x100 16)).queue = 5 ∧ DirectQueue pushable (portAtt 0x100 16) ∧
    TakesWord pushable (portAtt 0x100 16) 3 ∧ isSvc (portAtt 0x100 16) = false ∧
    poppable.descCached 5 = true ∧ poppable.qmServes 5 false = true ∧ (poppable.desc 5).svcKey 5 = some (portAtt 0x100 15) ∧
    (poppable.desc 5).kind = 2#2 ∧ (poppable.att (portAtt 0x100 15)).queue = 5 ∧ isSvc (portAtt 0x100 15) = false ∧
    DirectQueue poppable (portAtt 0x100 15) ∧ (poppable.att (portAtt 0x100 15)).mid = true ∧
    (poppable.att (portAtt 0x100 15)).window = [3] ∧ SWord.isIdle 3 = false ∧ (poppable.desc 5).flush = false ∧
    svcBarred (poppable.desc 5) = false := by
  unfold DirectQueue TakesWord; decide +kernel

def listed : State := { served (State.reset.setDesc 5 (descOf parked)) with lru := [5] }
theorem witness_service_config :
    listed.descCached 5 = true ∧ listed.qmServes 5 false = true ∧ (listed.desc 5).bound = false ∧
    svcBarred (listed.desc 5) = false ∧ configBad parked (descOf parked) = false ∧ (descOf parked).bound = false ∧
    5 % 4 = 1 ∧ State.reset.rbit (qmPage 1) 0x40 0 = false := by decide +kernel

/-- PUSH to a quarter whose ENABLE is 0 answers ENDPOINT_CLOSED (Table 8-15). -/
theorem test_service_closed :
    after (exec (.svcPush 5 [3]) (direct 0x100 16 false [])) (fun t => t.status == 3 && (t.att (portAtt 0x100 16)).window == []) = true := by
  decide +kernel

/-! Governor (MotionInputs, SamplesAndTriggers, Timebase). -/

/-- Axis 3 counts channel 7, which is in ABZ mode, with DIR 1. -/
def counting : State :=
  (((State.reset.setFld encPage (encOff 7 0x100) 0 2 1).setReg govPage (axOff 3 0x100) 0x00000705#32).setReg govPage
    (axOff 3 0x104) 0x00010000#32).setAxState 3 2
def ssi : State :=
  (State.reset.setReg encPage (encOff 0 0x100) 2#32).setReg encPage (encOff 0 0x104) 13#32

/-- The same channel with parity, its frame under way since 4. -/
def ssiFrame (par : Bool) : State :=
  (ssi.setBit encPage (encOff 0 0x104) 7 par).setEnc 0 { EncChan.reset with frameAt := some 4 }
/-- Channel 0 in SSI mode with its data input high. -/
def ssiHigh : State := ssi.setEnc 0 { EncChan.reset with a := true }

theorem witness_encoder :
    counting.encMode 7 = 1 ∧ true ≠ (counting.enc 7).a ∧ (counting.enc 7).a = false ∧ (counting.enc 7).b = false ∧
    (counting.enc 7).z = false ∧ counting.axCounts 3 7 = true ∧ counting.axCounts 0 7 = false ∧
    (4 &&& ~~~(counting.enc 7).fault &&& modeInputs (counting.encMode 7)) ≠ 0 ∧
    (4 &&& ~~~(State.reset.enc 7).fault &&& modeInputs (State.reset.encMode 7)) = 0 ∧ counting.axState 3 = 2 := by
  decide +kernel

theorem witness_ssi :
    ssi.encMode 0 = 2 ∧ (ssi.enc 0).frameAt = none ∧ (ssi.enc 0).nextAt ≤ ssi.tbDie 0 / 8000 * 8000 ∧ (ssi.enc 0).a = false ∧
    ssiHigh.encMode 0 = 2 ∧ (ssiHigh.enc 0).frameAt = none ∧ (ssiHigh.enc 0).nextAt ≤ ssiHigh.tbDie 0 / 8000 * 8000 ∧
    (ssiHigh.enc 0).a = true ∧ ((ssiFrame false).enc 0).frameAt = some 4 ∧ (ssiFrame false).ssiParity 0 = false ∧
    ((ssiFrame true).enc 0).frameAt = some 4 ∧ (ssiFrame true).ssiParity 0 = true ∧ (ssiFrame true).ssiBits 0 = 13 := by
  decide +kernel

/-- A rises while B is low: one count down (R206), and up for an axis with DIR 1. -/
theorem test_encoder_count :
    after (exec (.encLevelAccept 7 true false false) counting) (fun t =>
      t.reg encPage (encOff 7 0x10C) == 1 && (t.axis 3).pos == 0 - 0x10000) = true := by decide +kernel

/-- An INC configuration of axis 3 from channel 7; the axis OFF, WAIT_REF, VALID. -/
def axCfg : Word := 0x00000701
def axes (st : Nat) : State := ((counting.setReg govPage (axOff 3 0x100) 0x00000705#32).setAxState 3 st)

theorem witness_axes :
    (axes 0).axState 3 = 0 ∧ (axCfg &&& axCfgMask) ≠ (axes 0).axCtrl 3 ∧ fld axCfg 0 2 ≠ 0 ∧ fld axCfg 4 2 ≠ 3 ∧
    fld (axCfg ||| 0x80000#32) 16 4 = 8 ∧ (axes 0).sourcesOk axCfg = true ∧ bit axCfg 30 = false ∧ bit axCfg 31 = false ∧
    (axes 2).axState 3 = 2 ∧ ((axes 1).axCtrl 3 &&& axCfgMask) = (axes 1).axCtrl 3 ∧ (axes 1).axState 3 = 1 ∧
    (axes 1).sourcesOk ((axes 1).axCtrl 3) = true ∧ (axes 2).sourcesOk ((axes 2).axCtrl 3) = true ∧
    ((axes 2).axCtrl 3 &&& axCfgMask) = (axes 2).axCtrl 3 ∧ (axCfg &&& axCfgMask) ≠ (axes 2).axCtrl 3 ∧
    (axes 3).axState 3 = 3 ∧ (axes 1).axRefMode 3 = 0 := by decide +kernel

/-- ARM_REF in immediate mode makes the axis VALID at AX_REF (R212). -/
theorem test_arm_ref :
    after (exec (.armRef 3) ((axes 1).setReg govPage (axOff 3 0x110) 5)) (fun t =>
      t.axState 3 == 2 && (t.axis 3).pos == 0x500) = true := by decide +kernel

/-- A Gray code of 4 bits (R208). -/
theorem test_gray : grayToBin 4 0b1000 = 15 ∧ grayToBin 4 0b0110 = 4 := by decide +kernel

def sampleIn8 : State := { State.reset with samples := [(8, [GovSample.reset])] }
theorem witness_samples : tget (fun _ => []) sampleIn8.samples 8 = GovSample.reset :: [] := by decide +kernel

/-- The timebase slews back by 77 units. -/
def slewing : State := { State.reset with tb := 5, tbSlew := -77 }
theorem witness_timebase :
    -2147484 ≤ slewing.tbRate ∧ (slewing.tb : Int) + 1 * (625 * (2 ^ 32 + slewing.tbRate)) + slewing.tbSlew < 2 ^ 64 * tbUnit ∧
    (slewing.tbSlew.natAbs + 2 ^ 28 - 1) / 2 ^ 28 = 1 ∧
    ([0, 1, 2, 3].all fun a => State.reset.axState a != 2) = true ∧
    ((List.range 8).all fun i => !State.reset.ltEnabled i) = true ∧ counting.axState 3 = 2 := by decide +kernel

/-- RATE is clamped to 500 ppm (R217), and TB_ADJ to 2^30 ns. -/
theorem test_tb_clamp :
    after (exec (.tbRateWrite 0x7FFFFFFF) State.reset) (fun t => t.reg govPage 0x48 == 2147484) = true ∧
    after (exec (.tbAdjWrite 0x80000000) State.reset) (fun t => t.tbSlew == -2 ^ 30 * tbUnit) = true := by decide +kernel

/-- Trigger 7 in TIME mode on pin 63: enabled with a pitch of 1,000 ns, and refused where the pin has a function. -/
def ltWord : Word := 0x00003F03
def pitched : State := State.reset.setReg govPage (ltOff 7 0x204) 1000
def ltOn : State := (pitched.setReg govPage (ltOff 7 0x200) ltWord)

/-- The same in position mode, its next pulse predicted. -/
def ltPos : State := (pitched.setReg govPage (ltOff 7 0x200) 0x00003F01#32).setTrig 7 { (pitched.trig 7) with tp := some 8000 }
/-- Pin 63 has a function of its own. -/
def pinTaken : State := pitched.setReg64 (iobPage 0) (pinOff 63) 0x1000000000#64

theorem witness_triggers :
    pitched.ltEnabled 7 = false ∧ bit ltWord 0 = true ∧ bit ltWord 1 = true ∧ pitched.ltPitch 7 ≠ 0 ∧
    fld ltWord 8 6 = 63 ∧ pwFunc (pitched.pinWord 0 63) = 0 ∧ pinTaken.ltEnabled 7 = false ∧ pinTaken.ltPitch 7 ≠ 0 ∧
    pwFunc (pinTaken.pinWord 0 63) ≠ 0 ∧ ltOn.ltEnabled 7 = true ∧
    bit (ltWord &&& 0xFFFFFFFE) 0 = false ∧ ltOn.ltTime 7 = true ∧ (ltOn.trig 7).lastAt = none ∧
    (ltOn.trig 7).point = none ∧ ltPos.ltEnabled 7 = true ∧ ltPos.ltTime 7 = false ∧ (ltPos.trig 7).tp = some 8000 := by
  decide +kernel

/-! User I/O (InputOutput). -/

/-- Group 7 of sail 1 in a mode, region 0 ACTIVE. -/
def grpIn (mode : Nat) : State := act.setReg64 (iobPage 1) (grpOff 7) (BitVec.ofNat 64 (mode * 2 ^ 41))
/-- A VALID axis at position 0 that moves 2^24 in 2^−24 counts/µs. -/
def moving (s : State) : State :=
  { s with sampled := [(1, ⟨0, (GovSample.reset.axes.set 0 { AxSample.reset with state := 2, vel := 2 ^ 24 })⟩)] }
/-- POS words for 10 counts ahead and 10 behind. -/
def ahead10 : SWord := mkWord 0x10#6 2560
def behind10 : SWord := mkWord 0x14#6 (0 - 2560)

theorem witness_stamped :
    gwMode ((moving (grpIn 2)).grpWord 1 7) = 2 ∧ ((grpIn 2).grp 1 7).inPkt = false ∧ (moving (grpIn 2)).grpLive 1 7 = true ∧
    SWord.isIdle ahead10 = false ∧ SWord.isPoison ahead10 = false ∧ SWord.isPos ahead10 = true ∧
    ((moving (grpIn 2)).delivered 1 0).valid = true ∧ (SWord.arg ahead10).toNat % 4 = 0 ∧
    stampTarget ahead10 0 = some 2560 ∧ ((moving (grpIn 2)).judge 1 2560 ((moving (grpIn 2)).delivered 1 0)).isSome = true ∧
    stampTarget behind10 0 = some (0 - 2560) ∧
    (moving (grpIn 2)).judge 1 (0 - 2560) ((moving (grpIn 2)).delivered 1 0) = none := by decide +kernel

/-- A packet begun on an axis that is not valid: a word that ends it and one that does not. -/
theorem witness_stamp_poison :
    gwMode ((grpIn 2).grpWord 1 7) = 2 ∧ ((grpIn 2).grp 1 7).inPkt = false ∧ (grpIn 2).grpLive 1 7 = true ∧
    ((grpIn 2).delivered 1 (gwAxis ((grpIn 2).grpWord 1 7))).valid = false ∧ SWord.isEnd 7 = false ∧ SWord.isEnd endWord = true ∧
    SWord.isIdle 7 = false ∧ SWord.isPoison 7 = false ∧ SWord.isIdle endWord = false ∧ SWord.isPoison endWord = false := by
  decide +kernel

/-- A packet that has its crossing, and one that is committed and whole. -/
def pktHeld : StampPkt := ⟨2560, some (80000, 1), [7], 2, true, none, false⟩
def stamped (first : Option (Int × Nat × Moment)) : State :=
  ((grpIn 2).setFld (iobPage 1) 0x44 0 9 100).setGrp 1 7 { Grp.reset with pkts := [{ pktHeld with first := first }] }
/-- Behind one without a crossing; and committed, not yet whole. -/
def behindOpen : State :=
  ((grpIn 2).setFld (iobPage 1) 0x44 0 9 100).setGrp 1 7 { Grp.reset with pkts := [{ pktHeld with tp := none }, pktHeld] }
def part : StampPkt := { pktHeld with first := some (0, 0, (0, 1)), ended := false }
def stampedPart : State := (grpIn 2).setGrp 1 7 { Grp.reset with pkts := [part] }

theorem witness_stamp_commit :
    ((stamped none).grp 1 7).pkts = [pktHeld] ∧ pktHeld.first = none ∧ pktHeld.tp = some (80000, 1) ∧
    nextHeld ((stamped none).grp 1 7).pkts = some (0, (80000, 1)) ∧ (stamped none).rfld (iobPage 1) 0x44 0 9 = 100 ∧
    Moment.lt (placeAt (80000, 1) ((stamped none).t0At 1) ((stamped none).tIo 1) 100).2.2 ((stamped none).grp 1 7).busy = false ∧
    nextHeld (behindOpen.grp 1 7).pkts = some (1, (80000, 1)) ∧ behindOpen.rfld (iobPage 1) 0x44 0 9 = 100 ∧
    ((behindOpen.grp 1 7).pkts.take 1).any (fun q => q.first.isNone) = true := by decide +kernel
theorem witness_stamp_drive :
    ((stamped (some (0, 0, (0, 1)))).grp 1 7).pkts = { pktHeld with first := some (0, 0, (0, 1)) } :: [] ∧
    pktHeld.driving = false ∧ pktHeld.ended = true ∧ (stampedPart.grp 1 7).pkts = part :: [] ∧ part.first.isSome = true ∧
    part.driving = false ∧ part.ended = false ∧ part.words ≠ [] := by decide +kernel

/-- Tap rounding (R224): a moment a quarter of an I/O cycle after t_0 with NC 100 is tap 25; one that rounds to NC is the
next cycle's tap 0. -/
theorem test_place : (placeAt (4, 1) (0, 1) (16, 1) 100).2.1 = 25 ∧ (placeAt (1599, 100) (0, 1) (16, 1) 100).1 = 1 := by
  decide +kernel

/-- A pin word of sail 1, pin 47, as an output of region 0, and a group word for group 7 on it. -/
def pin47 : DWord := BitVec.ofNat 64 (47 * 2 ^ 56 + 1 * 2 ^ 25)
def grp7 : DWord := BitVec.ofNat 64 (0x87 * 2 ^ 56 + 47 * 2 ^ 46 + 1 * 2 ^ 41)
def pinned47 : State := State.reset.setReg64 (iobPage 1) (pinOff 47) pin47
def owned47 : State := pinned47.setReg64 (iobPage 1) (grpOff 0) (grp7 &&& 0x00FFFFFFFFFFFFFF#64)

/-- An empty word for the cap's pin 63, with reserved bits set. -/
def pin63 : DWord := BitVec.ofNat 64 (63 * 2 ^ 56)

theorem witness_streams :
    gwMode ((grpIn 1).grpWord 1 7) = 1 ∧ (grpIn 1).grpLive 1 7 = true ∧ ((grpIn 1).grp 1 7).stream = [] ∧
    ((grpIn 1).grp 1 7).rest ≠ .drop ∧ SWord.kind 7 = 0#2 ∧ SWord.isIdle 7 = false ∧
    ({ grpIn 1 with braked := true } : State).grpLive 1 7 = false ∧ gwMode ((grpIn 3).grpWord 1 7) = 3 ∧
    gwStampIn ((grpIn 3).grpWord 1 7) = false ∧ ((grpIn 3).grp 1 7).capDrop = false ∧ ((grpIn 3).grp 1 7).cap = [] := by
  decide +kernel

theorem witness_pins :
    pin47 &&& pinMask true = pin47 ∧ State.reset.pinOwned 1 47 pin47 = false ∧ pinWordOk 1 47 pin47 = true ∧
    (pin63 ||| 0x0000300E0000FFFE#64) &&& pinMask true = pin63 ∧ State.reset.pinOwned 0 63 pin63 = false ∧
    pinWordOk 0 63 pin63 = true ∧ pin47 ≠ 0 ∧ pinWordOk 1 46 pin47 = false ∧ State.reset.pinOwned 1 46 pin47 = false ∧
    owned47.pinOwned 1 47 pin47 = true ∧ gwMode 0 = 0 ∧ grp7 &&& grpMask = grp7 ∧
    gwMode grp7 ≠ 0 ∧ gwMode (pinned47.grpWord 1 7) = 0 ∧ pinned47.grpClash 1 7 grp7 = false ∧ pwPin grp7 = 0x80 + 7 ∧
    grpWordOk (pinned47.pinWord 1) (pinned47.ioStamps 1) grp7 = true := by decide +kernel

/-! Banks (BankAccess, BankStates). -/

/-- The last bank of the package, owned by its region or by nobody, ON, in a given state. -/
def owned : State := State.reset.setReg (bankPage 767) 0x34 0x10#32
def bankIn (x : Bank) : State := State.reset.setBank 767 x
def bankReq (kind : BitVec 3) (fl : List Flit) : Packet :=
  ⟨{ head0 with bkind := kind, addr := BitVec.ofNat 48 (bankBase 767 + 6), bytes := 2, len := BitVec.ofNat 7 fl.length }, fl⟩

/-- Owned by its region, not served: a handover is pending. -/
def handing : State := State.reset.setReg (bankPage 767) 0x34 0x80000010#32
def readQ : State := bankIn { Bank.reset with reads := [⟨4, 1, 2⟩] }
def wbackQ : State := bankIn { Bank.reset with wback := [(0x7FFF, 9)] }
theorem witness_bank_port :
    owned.portServes 767 = true ∧ State.reset.portServes 0 = false ∧ handing.portServes 767 = false ∧ SWord.isIdle 7 = false ∧
    (readQ.bank 767).reads = ⟨4, 1, 2⟩ :: [] ∧ (wbackQ.bank 767).wback = (0x7FFF, 9) :: [] ∧
    wbackQ.bankFree 767 false = true := by decide +kernel

/-- An access of kind `kind` in progress; one of 16 bytes, three words, is at its first. -/
def accQ (kind : BitVec 3) (fl : List Flit) : State := bankIn { Bank.reset with access := [⟨bankReq kind fl, 0, [], []⟩] }
def bankReq16 (kind : BitVec 3) : Packet := { (bankReq kind []) with hdr := { (bankReq kind []).hdr with bytes := 16 } }
def accQ16 (kind : BitVec 3) : State := bankIn { Bank.reset with access := [⟨bankReq16 kind, 0, [], []⟩] }
def heldQ (kind : BitVec 3) : State := bankIn { Bank.reset with held := [bankReq kind []] }
theorem witness_bank_transfers :
    ((accQ 3 []).bank 767).access = ⟨bankReq 3 [], 0, [], []⟩ :: [] ∧ (accQ 3 []).bankFree 767 ((accQ 3 []).bankRmw 767) = true ∧
    (accQ 2 []).bankRmw 767 = true ∧ (accQ 2 []).bankFree 767 ((accQ 2 []).bankRmw 767) = true ∧
    ((accQ 1 []).bank 767).access = ⟨bankReq 1 [], 0, [], []⟩ :: [] ∧
    wordCount (bankReq 3 []).hdr = 1 ∧ wordCount (bankReq16 3).hdr = 3 ∧ ((accQ16 3).bank 767).access = ⟨bankReq16 3, 0, [], []⟩ :: [] ∧
    (accQ16 3).bankFree 767 ((accQ16 3).bankRmw 767) = true ∧ isNonPosted (bankReq 3 []).hdr = true ∧
    isNonPosted (bankReq 1 []).hdr = false ∧ ((accQ 3 []).router (pageNode (bankPage 767))).owed = [] ∧
    ((heldQ 2).bank 767).held = bankReq 2 [] :: [] ∧ ((heldQ 1).bank 767).held = bankReq 1 [] :: [] ∧
    isNonPosted (bankReq 2 []).hdr = true := by decide +kernel

/-- A write of the last two bytes of a bank's first word leaves the others (R241). -/
theorem test_bank_write :
    after (exec (.bankBeAccess 767 .clean) ((bankIn { Bank.reset with access := [⟨bankReq 2 [bytesFlit [5, 6]], 0, [], []⟩] }).writeDWord
      (bankBase 767) 0x0102030405060708)) (fun t => t.bankWord 767 0 == 0x0605030405060708) = true := by decide +kernel

/-- A FULL image loads (CFG.STAT.BUSY), its header held. -/
def fullIn : State :=
  { State.reset.setBit cfgPage 0x44 21 true with loader := { Loader.reset with hdr := List.replicate 256 0 } }
theorem witness_bank_owner :
    State.reset.fullLoad = false ∧ State.reset.underTest (bankPage 767) = false ∧ State.reset.bankPending 767 = false ∧
    State.reset.bankSecure 767 = false ∧
    State.reset.rbit (bankPage 767) 0x30 0 = false ∧ fld 0x21#32 4 4 = 2 ∧ fld 0x10#32 4 4 = 1 ∧ act.rgnActive (5 / 6) = true ∧
    act.fullLoad = false ∧ act.bankPending 5 = false ∧ fullIn.fullLoad = true ∧
    handing.bankPending 767 = true ∧ handing.underTest (bankPage 767) = false ∧
    ((bankIn { Bank.reset with next := some (15, 7) }).bank 767).next = some (15, 7) ∧
    (bankIn { Bank.reset with next := some (15, 7) }).rbit (bankPage 767) 0x40 16 = false ∧
    ((bankIn { Bank.reset with next := some (15, 7), held := [bankReq 2 []] }).bank 767).reads = [] := by decide +kernel
theorem witness_bank_power :
    State.reset.rbit (bankPage 767) 0x40 16 = false ∧ State.reset.rbit (bankPage 767) 0x0C 4 = false ∧
    State.reset.bankPower 767 ≠ 2 ∧ State.reset.bankPower 767 ≠ 1 ∧ handing.rbit (bankPage 767) 0x0C 4 = false ∧
    handing.bankSecure 767 = false ∧
    ((bankIn { Bank.reset with target := some 2 }).bank 767).target = some 2 ∧
    ((bankIn { Bank.reset with target := some 1 }).bank 767).target = some 1 ∧
    ((bankIn { Bank.reset with target := some 2 }).bank 767).queued = none ∧
    ((bankIn { Bank.reset with wiping := true }).bank 767).wiping = true ∧ State.reset.sec.lcJob = none ∧
    State.reset.scanActive = false := by decide +kernel

/-! HBM and DMA (HbmStacks, DmaEngines). -/

def hbmOn : State := State.reset.setBit (hbmPage 3) 0x40 0 true
def hbmReqOf (kind : BitVec 3) : Packet :=
  ⟨{ head0 with bkind := kind, addr := BitVec.ofNat 48 (hbmBase + 0x17FDFFFFFC), srcNode := 0x45 }, [bytesFlit [1, 2, 3, 4]]⟩
def hbmAsked (kind : BitVec 3) : State := { hbmOn with hbmReq := [(3, [hbmReqOf kind])] }

/-- Boot trains the stacks; the granary holds stack 3's training results, or does not. -/
def hbmBoot (kept : Bool) : State :=
  { fwd with grn := { fwd.grn with scanned := 4, index := if kept then [(0x80000003, some ⟨0x1000, 1, false, 8⟩)] else [] } }

/-- A request to the last word below the descriptor table; 85 °C and 84 °C. -/
theorem witness_hbm :
    tget (fun _ => []) (hbmAsked 3).hbmReq 3 = [hbmReqOf 3] ∧ (hbmAsked 3).hbmServes 3 = true ∧
    (([hbmReqOf 3].find? (fun x => x.hdr.prio.toNat == (hbmAsked 3).leatPrio)).orElse fun _ => [hbmReqOf 3].head?) = some (hbmReqOf 3) ∧
    (([hbmReqOf 2].find? (fun x => x.hdr.prio.toNat == (hbmAsked 2).leatPrio)).orElse fun _ => [hbmReqOf 2].head?) = some (hbmReqOf 2) ∧
    ((hbmAsked 3).router (stackHome 3)).owed = [] ∧
    inDescTable ((hbmReqOf 2).hdr.addr.toNat % 2 ^ 40) = false ∧ inDescTable 0x17FE000000 = true ∧
    85 ≤ (85 : BitVec 8).toInt ∧ (84 : BitVec 8).toInt < 85 ∧ (0x80 : BitVec 8).toInt < 85 := by decide +kernel
theorem witness_hbm_training :
    (hbmBoot true).hbmTraining 3 = true ∧ (hbmBoot true).grn.current (hbmRecord 3) = some ⟨0x1000, 1, false, 8⟩ ∧
    (hbmBoot false).hbmTraining 3 = true ∧ (hbmBoot false).grn.current (hbmRecord 3) = none ∧
    State.reset.hbmTraining 3 = false := by decide +kernel

/-- Engine 7 set to copy 64 bytes between two banks. -/
def dmaSet : State :=
  (((((State.reset.setReg dmaPage (dmaOff 7 0x100) 0x01000000#32).setReg dmaPage (dmaOff 7 0x104) 0x400#32).setReg dmaPage
    (dmaOff 7 0x108) 0x01040000#32).setReg dmaPage (dmaOff 7 0x10C) 0x400#32).setReg dmaPage (dmaOff 7 0x110) 64#32)
def dmaSeg : DmaSeg := ⟨bankBase 0, bankBase 1, 64⟩
def dmaRun (outs : List DmaOut) : State :=
  ((State.reset.setReg dmaPage (dmaOff 7 0x118) 1#32).setReg dmaPage (dmaOff 7 0x114) 2#32).setDma 7
    { Dma.reset with segs := [dmaSeg], cur := 1, outs := outs }

theorem witness_dma :
    dmaSet.dmaBusy 7 = false ∧ dmaSet.dmaHeld 7 = false ∧ dmaSet.dmaAddr 7 0x100 % 4 = 0 ∧ dmaSet.dmaAddr 7 0x108 % 4 = 0 ∧
    (dmaSet.reg dmaPage (dmaOff 7 0x110)).toNat = 64 ∧
    segmentsOf dmaSet.intlv4k 65 (dmaSet.dmaAddr 7 0x100) (dmaSet.dmaAddr 7 0x108) 64 = [dmaSeg] ∧ xferLen dmaSeg 0 = dmaSeg.len ∧
    (fullIn.dmaHeld 7 = true) ∧ (dmaRun []).dmaBusy 7 = true ∧ ((dmaRun []).dma 7).outs = [] ∧ (dmaRun []).dmaNp 7 = true ∧
    ((dmaRun [⟨255, 0, true, 0, 64⟩]).dma 7).outs = [⟨255, 0, true, 0, 64⟩] ∧
    ((dmaRun [⟨255, 0, true, 0, 64⟩]).dma 7).cur = ((dmaRun [⟨255, 0, true, 0, 64⟩]).dma 7).segs.length ∧
    (dmaRun [⟨255, 0, true, 0, 64⟩]).dmaBusy 7 = true ∧ ((dmaRun []).dma 7).stop = false ∧ ((dmaRun []).dma 7).failed = [] ∧
    ((dmaRun []).dma 7).first = none := by decide +kernel

/-- A transfer crosses no 4 KiB boundary at either end and holds at most 2,048 bytes (R255, R43). -/
theorem test_dma_transfer : xferLen ⟨0xF00, 0, 0x10000⟩ 0 = 0x100 ∧ xferLen ⟨0, 0xC00, 0x10000⟩ 0 = 0x400 ∧
    xferLen ⟨0, 0, 0x10000⟩ 0 = 2048 := by decide +kernel

/-! The SEC engine (SecCommands, SecurityEvents). -/

/-- A nonce is in force, and the block at SEC.CMD_ADDR 0 of core SRAM carries it. -/
def secWith (op : Nat) (operands : List Byte) (f : Fuses) : State :=
  let s := ({ State.reset with sec := { Sec.reset with nonceOk := true, keys := some ⟨7, [1], [2]⟩ }, fuses := f } : State).setReg secPage 0x54 0x1234#32
  s.writeBytes sramBase (natBytes 2 op ++ [0, 0] ++ natBytes 8 0 ++ natBytes 8 0x1234 ++ natBytes 4 operands.length
    ++ List.replicate 192 0 ++ operands)
def inState (lc : BitVec 4) : Fuses := { Fuses.blank with lc := lc }
def blockOf (s : State) : CmdBlock := s.cmdBlock (s.rfld secPage 0x48 0 20)

/-- Commands that need no signature: TAKE_OWNERSHIP, TO_VOID of a blank part, ADVANCE_ROLLBACK to 64, DELETE_KEY, GET_DIK. -/
def secTake : State := secWith 1 (List.replicate 48 1) Fuses.blank
def secVoid : State := secWith 6 [] Fuses.blank
def secRoll : State := secWith 7 (natBytes 4 3 ++ natBytes 4 64) (inState 1)
def secDel : State := secWith 9 (natBytes 4 7) (inState 1)
def secDik : State := secWith 10 [] Fuses.blank

/-- The first secure window in the secure partition, and the one that is still being wiped before TO_FIELD's fuses. -/
def secTakeWin : State := secTake.setBit (bankPage 0) 0x48 0 true
def lcLast : State :=
  ({ State.reset with sec := { Sec.reset with lcJob := some ⟨4, 1, none, true⟩ }, fuses := inState 1 } : State).setBank 96
    { Bank.reset with wiping := true }
def secBusy : State := secTake.setBit secPage 0x4C 0 true
/-- After LOCK, nothing in hand. -/
def secLocked : State := State.reset.setBit secPage 0x30 0 true

theorem witness_sec_take : SecAdmits secTake 1 (blockOf secTake) ∧ secTake.powerFail = false ∧ (blockOf secTake).len = 48 := by
  unfold SecAdmits; decide +kernel
theorem witness_sec_take_hash :
    BitVec.ofNat 384 (octets (blockOf secTake).operands 0) ≠ 0 ∧ NoWipe secTake ∧
    secTake.fuses.ownerHash 0 &&& ~~~(BitVec.ofNat 384 (octets (blockOf secTake).operands 0)) = 0 := by
  unfold NoWipe; decide +kernel
theorem witness_sec_take_wipe :
    0 ∈ secureBanks ∧ secTakeWin.bankSecure 0 = true ∧ secTakeWin.powerFail = false ∧
    SecAdmits secTakeWin 1 (blockOf secTakeWin) ∧ (blockOf secTakeWin).len = 48 := by unfold SecAdmits; decide +kernel
theorem witness_sec_wiped :
    lcLast.sec.lcJob = some ⟨4, 1, none, true⟩ ∧ lcLast.powerFail = false ∧ (lcLast.bank 96).wiping = true ∧
    (lcLast.bank 96).access = [] ∧ (lcLast.bank 96).reads = [] ∧
    (∀ i, i ∈ secureBanks → i ≠ 96 → (lcLast.bank i).wiping = false) := by decide +kernel
theorem witness_sec_void : SecAdmits secVoid 6 (blockOf secVoid) ∧ secVoid.powerFail = false ∧ NoWipe secVoid := by
  unfold SecAdmits NoWipe; decide +kernel
theorem witness_sec_rollback :
    SecAdmits secRoll 7 (blockOf secRoll) ∧ (blockOf secRoll).len = 8 ∧ (blockOf secRoll).arg 0 = 3 ∧
    (blockOf secRoll).arg 1 = 64 ∧ secRoll.fuses.rollbackOf 3 ≤ 64 ∧ secRoll.powerFail = false := by
  unfold SecAdmits; decide +kernel
theorem witness_sec_delete :
    SecAdmits secDel 9 (blockOf secDel) ∧ (blockOf secDel).len = 4 ∧ (blockOf secDel).arg 0 = 7 := by
  unfold SecAdmits; decide +kernel
theorem witness_sec_dik : SecAdmits secDik 10 (blockOf secDik) := by unfold SecAdmits; decide +kernel
theorem witness_sec_dik_bytes : ∃ l, secDik.dikBytes = some l := ⟨_, rfl⟩
theorem witness_sec_reserved :
    State.reset.rbit secPage 0x4C 0 = false ∧ 11 ≤ (0xFFFF : BitVec 16).toNat ∧ secBusy.rbit secPage 0x4C 0 = true ∧
    secBusy.sec.lcJob = none ∧ secLocked.rbit secPage 0x30 0 = true ∧ secLocked.sec.lcJob = none := by decide +kernel

/-- What a signed command waits for, the signature apart. -/
def signedFuses (lc : BitVec 4) : Fuses := { inState lc with hash := #v[1, 0, 3] }
def secSigned (op : Nat) (operands : List Byte) (lc : BitVec 4) : State := secWith op operands (signedFuses lc)

/-- A signature that holds (the manual names the algorithms and does not define them, so no model value decides it) admits a
signed command that nothing else refuses. -/
theorem signed_admits (s : State) (op : Nat) (sg : Bool) (b : CmdBlock) (hu : s.fuses.ownerUsable b.keyIdx = true)
    (hk : Config.sha384 b.pub = s.fuses.ownerHash b.keyIdx) (hs : Config.ecdsaOk b.pub b.sig (b.head ++ b.operands) = true)
    (hr : s.cmdRefusal op (cmdStates op) false true b = none) :
    s.cmdRefusal op (cmdStates op) sg true b = none := by
  have h : s.signedOk b = true := by simp [State.signedOk, hu, hk, hs]
  unfold State.cmdRefusal at *
  simpa [h] using hr

/-- All but the signature of ADD_OWNER_KEY, REVOKE_OWNER_KEY, TO_FIELD, TO_RETURN and INSTALL_KEY. -/
def signedCmds : List (Nat × List Byte × BitVec 4) :=
  [(2, natBytes 4 1 ++ List.replicate 48 7, 1), (3, natBytes 4 2, 2), (4, [], 1), (5, [], 2),
   (8, natBytes 4 2 ++ List.replicate 136 0, 4)]

theorem witness_sec_signed : ∀ x ∈ signedCmds,
    let s := secSigned x.1 x.2.1 x.2.2
    s.cmdRefusal x.1 (cmdStates x.1) false true (blockOf s) = none ∧ s.cmdSigned x.1 = true ∧ s.rbit secPage 0x4C 0 = false ∧
    s.sec.lcJob = none ∧
    s.powerFail = false ∧ s.fuses.ownerUsable (blockOf s).keyIdx = true ∧ s.fuses.ownerHash (blockOf s).keyIdx = 1#384 := by
  decide +kernel

/-- With the public key's hash and a signature that holds, SEC admits each of them. -/
theorem witness_sec_admits (x : Nat × List Byte × BitVec 4) (h : x ∈ signedCmds)
    (hk : Config.sha384 (blockOf (secSigned x.1 x.2.1 x.2.2)).pub = 1#384)
    (hs : Config.ecdsaOk (blockOf (secSigned x.1 x.2.1 x.2.2)).pub (blockOf (secSigned x.1 x.2.1 x.2.2)).sig
      ((blockOf (secSigned x.1 x.2.1 x.2.2)).head ++ (blockOf (secSigned x.1 x.2.1 x.2.2)).operands) = true) :
    SecAdmits (secSigned x.1 x.2.1 x.2.2) x.1 (blockOf (secSigned x.1 x.2.1 x.2.2)) := by
  obtain ⟨hr, _, hb, hj, _, hu, hh⟩ := witness_sec_signed x h
  exact ⟨rfl, hb, hj, signed_admits _ _ _ _ hu (by rw [hk, hh]) hs hr⟩

theorem witness_sec_operands :
    (blockOf (secSigned 2 (natBytes 4 1 ++ List.replicate 48 7) 1)).arg 0 = 1 ∧
    (secSigned 2 (natBytes 4 1 ++ List.replicate 48 7) 1).fuses.ownerHash 1 = 0 ∧
    (blockOf (secSigned 3 (natBytes 4 2) 2)).arg 0 = 2 ∧ (blockOf (secSigned 3 (natBytes 4 2) 2)).len = 4 ∧
    (secSigned 3 (natBytes 4 2) 2).fuses.ownerUsable 0 = true ∧
    (blockOf (secSigned 8 (natBytes 4 2 ++ List.replicate 136 0) 4)).len = 140 ∧
    (secSigned 8 (natBytes 4 2 ++ List.replicate 136 0) 4).sec.keys = some ⟨7, [1], [2]⟩ := by decide +kernel
/-- The lengths and hash of ADD_OWNER_KEY; NoWipe for the transitions. -/
theorem witness_sec_add :
    (blockOf (secSigned 2 (natBytes 4 1 ++ List.replicate 48 7) 1)).len = 52 ∧
    BitVec.ofNat 384 (octets ((blockOf (secSigned 2 (natBytes 4 1 ++ List.replicate 48 7) 1)).operands.drop 4) 0) ≠ 0 ∧
    NoWipe (secSigned 4 [] 1) ∧ NoWipe (secSigned 5 [] 2) := by unfold NoWipe; decide +kernel

def trngOn : State := { State.reset with sec := { Sec.reset with words := 3 } }
theorem witness_random :
    State.reset.trngFailed = false ∧ fld 0x1F#32 0 5 ≠ 0 ∧ State.reset.rbit secPage 0x30 0 = false ∧ trngOn.sec.words ≠ 0 ∧
    State.reset.sec.words = 0 ∧ (State.reset.setBit secPage 0x80 1 true).trngFailed = true := by
  decide +kernel

/-- A part in OWNED whose sensor 4 is set to HALT (TAMPER_CFG bits 9:8). -/
def guarded : State := ({ State.reset with fuses := inState 1 } : State).setReg secPage 0x70 0x00000211#32
theorem witness_tamper :
    (0x10#5 &&& ~~~(BitVec.ofNat 5 (guarded.rfld secPage 0x74 0 5))) = BitVec.ofNat 5 (2 ^ 4) ∧
    guarded.tamperResponse 4 false = 2 ∧ guarded.tamperResponse 0 false = 1 ∧ State.reset.tamperResponse 4 false = 0 ∧
    guarded.sec.failedAt = none ∧ guarded.fuses.unlockLeft ≠ 0 ∧ guarded.fuses.state = 1 := by decide +kernel

/-- A token in FIELD with no nonce in force does not hold. -/
def fieldPart : State := { State.reset with fuses := inState 3 }
theorem witness_unlock_fails :
    fieldPart.fuses.state = 2 ∧ fieldPart.powerFail = false ∧ fieldPart.fuses.unlockLeft = 64 ∧ fieldPart.sec.failedAt = none ∧
    (fieldPart.cmdRefusal (0x100 + 1) [1, 2] true false (fieldPart.cmdBlock (fieldPart.rfld secPage 0x88 0 20))).isSome = true := by
  decide +kernel

/-- A token for level 1 at SEC.UNL_ADDR 0, in OWNED; its signature holding, it opens the level. -/
def unlockable : State := secSigned 0x101 [] 1
theorem witness_unlock :
    unlockable.fuses.state = 1 ∧ unlockable.sec.failedAt = none ∧ unlockable.fuses.unlockLeft ≠ 0 ∧
    unlockable.cmdRefusal 0x101 [1, 2] false false (unlockable.cmdBlock (unlockable.rfld secPage 0x88 0 20)) = none ∧
    unlockable.fuses.ownerUsable (blockOf unlockable).keyIdx = true := by decide +kernel

/-! Configuration (ConfigurationLoad). -/

/-- A header of Table 13-1 for the device: KIND, KEY_SLOT 0, the cap alone (DIES 1), SCOPE and LEN. -/
def header (kind scope len : Nat) : List Byte :=
  natBytes 4 0x4954524B ++ natBytes 2 1 ++ natBytes 2 352 ++ natBytes 2 0x8160 ++ [0, BitVec.ofNat 8 kind, 0, 0] ++ natBytes 2 1
    ++ natBytes 4 0 ++ natBytes 4 0 ++ natBytes 16 scope ++ natBytes 8 len ++ List.replicate 304 0
/-- A load in progress, its header read, that stands at an offset with records staged. -/
def staging (h : List Byte) (recs : List Rec) (off : Nat) : State :=
  let s := (State.reset.loadStart 1 Loader.reset).setPhase 2
  s.setLoader { s.loader with hdr := h, recs := recs, off := off }
def packageRec : Rec :=
  ⟨0x0B, 0, 0, natBytes 2 16 ++ [0, 0] ++ natBytes 2 100 ++ [0, 0] ++ List.replicate 16 0⟩
/-- REGION, clock 3200 MHz over 4 with DIVMAX 63 and nothing else. -/
def regionRec (n : Nat) : Rec :=
  ⟨0x04, 0, BitVec.ofNat 64 (n * 2 ^ 40), List.replicate 205 0 ++ [1, 63, 0] ++ List.replicate 64 0⟩
def memoryRec (a : Nat) : Rec := ⟨0x09, 0, BitVec.ofNat 64 a, [1, 2, 3, 4, 5, 6, 7, 8]⟩
def zeroRec (a : Nat) : Rec := ⟨0x0A, 0, BitVec.ofNat 64 a, natBytes 8 16⟩

/-- PACKAGE staged, and nothing staged; neither source has a given length. -/
def recs1 : State := staging (header 0 0 1024) [packageRec] 392
def recs0 : State := staging (header 0 0 1024) [] 352
theorem moreThan_free {s : State} (h : s.loader.limit = none) (n : Nat) : MoreThan s n ↔ True := by simp [MoreThan, h]
/-- A flash source with 500 bytes still holds more than 100 after the first 399. -/
def flashPart : State := (recs1.setReg cfgPage 0x58 399).setLoader { recs1.loader with limit := some 500 }
theorem witness_more_than : MoreThan flashPart 100 := by
  intro m h
  obtain rfl : (500 : Nat) = m := by simpa [flashPart, State.setLoader] using h
  decide +kernel

/-- A record for region 0, whose staging holds; MEMORY and ZERO of a bank and at a register page; PACKAGE. -/
theorem witness_record_region :
    RecordFits recs1 (regionRec (regionNode 0)) ∧ (regionRec (regionNode 0)).plane = some 0 ∧
    (recs1.setLoader { recs1.loader with recs := recs1.loader.recs ++ [regionRec (regionNode 0)] }).recErr (regionRec (regionNode 0))
      = none := by
  unfold RecordFits; rw [moreThan_free rfl]; decide +kernel
theorem witness_record_memory :
    RecordFits recs1 (memoryRec (bankBase 0)) ∧ RecordFits recs1 (zeroRec (bankBase 0)) ∧ (memoryRec (bankBase 0)).plane = none ∧
    (zeroRec (bankBase 0)).plane = none ∧ recs1.loader.partialKind = false ∧
    windowOf (memoryRec (bankBase 0)).addr (max (memoryRec (bankBase 0)).span 1) ≠ .regs := by
  unfold RecordFits; simp only [moreThan_free (rfl : recs1.loader.limit = none)]; decide +kernel
theorem witness_record_page :
    RecordFits recs1 (memoryRec 0x240040) ∧ (memoryRec 0x240040).plane = none ∧
    windowOf (memoryRec 0x240040).addr (max (memoryRec 0x240040).span 1) = .regs := by
  unfold RecordFits; rw [moreThan_free rfl]; decide +kernel
theorem witness_record_package : RecordFits recs0 packageRec ∧ packageRec.plane = none := by
  unfold RecordFits; rw [moreThan_free rfl]; decide +kernel
theorem witness_quiet_load :
    QuietLoad (staging [] [] 352) ∧ (staging [] [] 352).phase = 2 ∧ (staging [] [] 352).loader.ended = false ∧
    (staging [] [] 352).reg cfgPage 0x40 &&& ~~~3#32 = 0 ∧ (staging [] [] 352).phase ≤ 3 ∧
    ((staging [] [] 352).setFld cfgPage 0x44 15 3 2).loadSource = 2 ∧
    ((staging [] [] 352).setFld cfgPage 0x44 15 3 0).loadSource = 0 := by unfold QuietLoad; decide +kernel

/-- The last byte of a MEMORY record is written, and memory after it is not. -/
theorem test_record_memory :
    after (exec (.recordMemory 0 (BitVec.ofNat 64 (bankBase 0)) [1, 2, 3, 4, 5, 6, 7, 8]) (staging (header 0 0 1024) [packageRec] 392))
      (fun t => t.readByte (bankBase 0 + 7) == 8 && t.readByte (bankBase 0 + 8) == 0) = true := by decide +kernel

/-- A sluice stream that has brought `n` bytes of its header; the same by the chain input. -/
def sluicing (n : Nat) : State :=
  let s := State.reset.loadStart 3 { Loader.reset with sluice := true }
  s.setLoader { s.loader with buf := List.replicate n 0 }
def chained (fwd : Bool) : State := State.reset.loadStart 2 Loader.reset |>.setLoader { Loader.reset with forward := fwd }
theorem witness_load_start :
    State.reset.loader.dead = false ∧ State.reset.cfgBusy = false ∧ SWord.kind (mkWord 0x00#6 0) = 0#2 ∧
    SWord.isIdle (mkWord 0x00#6 0) = false ∧ (sluicing 0).cfgBusy = true ∧ (sluicing 0).loader.sluice = true ∧
    (sluicing 0).loadSource = 3 ∧ (sluicing 0).phase = 1 ∧ (sluicing 0).loader.buf.length + 4 < 352 ∧
    (sluicing 348).phase = 1 ∧ (sluicing 348).loader.buf.length + 4 = 352 ∧ 3 < ((sluicing 0).setPhase 5).phase ∧
    ((sluicing 0).setPhase 5).loadSource = 3 ∧ MoreThan (sluicing 0) 4 ∧ MoreThan (sluicing 348) 4 := by
  simp only [moreThan_free (rfl : (sluicing 0).loader.limit = none), moreThan_free (rfl : (sluicing 348).loader.limit = none)]
  decide +kernel
theorem witness_chain :
    (chained true).loader.forward = true ∧ (chained true).loader.ownLen ≤ (chained true).loader.chainIn ∧
    (chained false).loader.forward = false ∧ (chained false).cfgBusy = true ∧ (chained false).loadSource = 2 ∧
    (chained false).phase = 1 ∧ ((chained false).reg cfgPage 0x58).toNat = (chained false).loader.chainIn ∧
    (chained false).loader.limit = none ∧ (chained false).loader.buf.length + 1 < 352 ∧
    State.reset.loader.forward = false ∧ State.reset.cfgBusy = false := by decide +kernel

/-- A device that knows its place: DEVICE 0x8160, one cap. A plaintext header in BLANK passes every check but the signature,
which the manual's ECDSA decides. -/
theorem witness_header (hs : Config.ecdsaOk (hSigner (header 0 0 424)) (((header 0 0 424).drop 256).take 96)
    ((header 0 0 424).take 256) = true) :
    let s := State.reset.loadStart 1 Loader.reset
    s.cfgBusy = true ∧ s.phase = 1 ∧ s.headerCheck (header 0 0 424) = none := by
  refine ⟨by decide +kernel, by decide +kernel, ?_⟩
  unfold State.headerCheck
  rw [hs]
  decide +kernel

/-- A stream of PACKAGE and END. -/
def stream : State := staging (header 0 0 424) [packageRec] 392
def streamEnd : State :=
  let c := stream.countBytes 16
  (c.setLoader { c.loader with ended := true, text := stream.loader.text ++ (⟨0x7F, 0, 0, []⟩ : Rec).bytes,
                               off := stream.loader.off + 16 }).setPhase 3
theorem witness_end :
    let sets := if stream.loader.partialKind then [] else streamEnd.alternates.map (·.2.1)
    stream.cfgBusy = true ∧ stream.phase = 2 ∧ stream.loader.ended = false ∧ stream.loader.off + 32 = hLen stream.loader.hdr ∧
    stream.loader.limit = none ∧ stream.streamRounds.isSome = true ∧ streamEnd.endErrs = [] ∧
    (∀ d, d < 9 → streamEnd.grpErr stream.loader.good d = none ∧ streamEnd.pinErr stream.loader.good d = none) ∧
    bindErr (bindings stream.loader.good) = none ∧ bankErr stream.loader.good = none ∧
    streamEnd.cogEncErr sets (stream.streamRounds.getD 1) = none ∧
    streamEnd.cogBroken sets (stream.streamRounds.getD 1) = none := by decide +kernel

/-- The stream ended: the tag that the cipher's key gives. -/
def streamEnded : State := (stream.setPhase 3).setLoader { stream.loader with ended := true, off := 408 }
theorem witness_tag :
    streamEnded.cfgBusy = true ∧ streamEnded.phase = 3 ∧ streamEnded.loader.ended = true ∧
    streamEnded.loader.partialKind = false ∧ streamEnded.loader.limit = none ∧
    (streamEnded.imageKey (hSlot streamEnded.loader.hdr) (hEph streamEnded.loader.hdr)).isSome = true ∧
    (∀ r ∈ streamEnded.loader.recs, streamEnded.stageStatus r = none) := by decide +kernel
theorem witness_tag_value : ∃ tag,
    Config.imageTag (streamEnded.headerKey streamEnded.loader.hdr) streamEnded.loader.hdr streamEnded.loader.text = tag := ⟨_, rfl⟩

def committed : State := (streamEnded.setPhase 5).setLoader { streamEnded.loader with tact := some 51000 }
theorem witness_activate : committed.loader.tact.isSome = true ∧ committed.loader.partialKind = false := by decide +kernel

/-- T_act: the first multiple of 1 µs at least 50 µs ahead (R313). -/
theorem test_act_time : actTime 1 = 51000 ∧ actTime 1000 = 51000 := by decide

/-! Self-test (SelfTest). -/

/-- Granary entry 1 holds a manifest with boot depth FULL and one variant. -/
def manifestHead : List Byte := natBytes 4 0x464E414D ++ natBytes 4 1 ++ [2, 0, 1, 0]
def zeros : List Byte := List.replicate 17 0
def manifestBytes : List Byte := (manifestHead ++ zeros ++ zeros ++ zeros ++ zeros) ++ natBytes 4 0x2F148218
/-- The stacks are trained. -/
def hbmUp : State := (List.range 4).foldl (fun s k => s.setBit (hbmPage k) 0x40 0 true) fwd
def shipped : State :=
  { hbmUp with grn := { Grn.blank with index := [(1, some ⟨0, 1, false, 84⟩)] },
               mem := (List.range 84).map fun i => ⟨flashBase + 32 + i, manifestBytes.getD i 0⟩ }
/-- The boot test has begun; online tests are on, 160 W; one unit under test. -/
def testing : State := shipped.setFld (bistPage 0) 0x48 0 2 2
def online : State :=
  ((fwd.setBit cfgPage 0x44 31 true).setBit (bistPage 0) 0x40 0 true).setFld (bistPage 0) 0x44 0 12 32
def running (u : TestUnit) (on : Bool) : State := { State.reset with bist := { Bist.reset with running := [(u, on)] } }
/-- Fifty regions under test, 1,600 of power; and every engine through. -/
def loaded : State := testing.setBist { testing.bist with running := List.replicate 50 (⟨1, 1, 0⟩, false) }
def through : State := testing.setBist { testing.bist with nextIdx := (List.range 9).map fun d => (d, 128) }

theorem manifest_crc_head : manifestHead.foldl crcByte 0xFFFFFFFF#32 = 0x6F63FD6B#32 := by decide +kernel
theorem manifest_crc_zeros : zeros.foldl crcByte 0x6F63FD6B#32 = 0xC5B44BE5#32 ∧ zeros.foldl crcByte 0xC5B44BE5#32 = 0x0757EF5A#32 ∧
    zeros.foldl crcByte 0x0757EF5A#32 = 0xE3386571#32 ∧ zeros.foldl crcByte 0xE3386571#32 = 0xD0EB7DE7#32 := by decide +kernel
theorem manifest_crc : crc32 (manifestHead ++ zeros ++ zeros ++ zeros ++ zeros) = 0x2F148218#32 := by
  obtain ⟨a, b, c, d⟩ := manifest_crc_zeros
  simp [crc32, List.foldl_append, manifest_crc_head, a, b, c, d]
theorem manifest_ok : manifestOk manifestBytes = true := by
  have h : manifestBytes.take (48 + 32 * num manifestBytes 10 1 + 4 * num manifestBytes 11 1)
      = manifestHead ++ zeros ++ zeros ++ zeros ++ zeros := by decide +kernel
  unfold manifestOk
  simp only [h, manifest_crc]
  decide +kernel
theorem manifest_of (s : State) (m : List Byte) (h1 : (s.grn.current (BitVec.ofNat 32 1)).map s.entryData = some m)
    (h2 : s.grn.current (BitVec.ofNat 32 2) = none) (hm : manifestOk m = true) : s.manifest = some m := by
  have g1 : ((s.grn.current (BitVec.ofNat 32 1)).map s.entryData).filter manifestOk = some m := by rw [h1]; simp [hm]
  have g2 : ((s.grn.current (BitVec.ofNat 32 2)).map s.entryData).filter manifestOk = none := by rw [h2]; rfl
  unfold State.manifest
  simp only [g1, g2]
theorem shipped_bytes :
    ∀ i : Fin 12, ∀ j : Fin 7, testing.readByte (flashBase + 0 + 32 + (7 * i.val + j.val)) = manifestBytes.getD (7 * i.val + j.val) 0 := by
  decide +kernel
theorem shipped_manifest : (testing.grn.current (BitVec.ofNat 32 1)).map testing.entryData = some manifestBytes := by
  have n : manifestBytes.length = 84 := by decide +kernel
  have d : testing.entryData ⟨0, 1, false, 84⟩ = manifestBytes := by
    refine List.ext_getElem (by rw [n]; rfl) fun i _ hi => ?_
    have e := shipped_bytes ⟨i / 7, by omega⟩ ⟨i % 7, by omega⟩
    have q : 7 * (i / 7) + i % 7 = i := by omega
    simp only [q] at e
    simp only [State.entryData, State.readBytes, List.getElem_map, List.getElem_range]
    rw [e, List.getD_eq_getElem?_getD, List.getElem?_eq_getElem hi, Option.getD_some]
  have c : testing.grn.current (BitVec.ofNat 32 1) = some ⟨0, 1, false, 84⟩ := by decide +kernel
  rw [c, Option.map_some, d]
theorem depth_of (s : State) (m : List Byte) (h : s.manifest = some m) (hd : num m 8 1 = 2) : s.bootDepth = 2 := by
  simp [State.bootDepth, h, hd]
theorem shipped_one : testing.grn.current (BitVec.ofNat 32 2) = none := by decide +kernel
theorem witness_boot_depth : testing.bootDepth = 2 :=
  depth_of testing manifestBytes (manifest_of testing manifestBytes shipped_manifest shipped_one manifest_ok) (by decide +kernel)
theorem depth_same {s t : State} (hg : s.grn = t.grn) (hm : s.mem = t.mem) : s.bootDepth = t.bootDepth := by
  have h : s.entryData = t.entryData := by
    funext e; simp only [State.entryData, State.readBytes, State.readByte, hm]
  simp only [State.bootDepth, State.manifest, hg, h]
theorem witness_boot_first : shipped.bootDepth = 2 := (depth_same (t := testing) (by decide +kernel) (by decide +kernel)).trans witness_boot_depth
theorem witness_boot_test :
    testing.bistDone = false ∧ testing.sec.halt = false ∧ testing.training.done = true ∧ testing.hbmReady = true ∧
    testing.engineUsed 0 = true ∧ testing.engineUsed 8 = true ∧
    testing.loader.dead = false ∧ testing.rfld (bistPage 0) 0x48 0 2 ≠ 0 ∧ shipped.rfld (bistPage 0) 0x48 0 2 = 0 ∧
    testing.bist.running = [] ∧ testing.bist.power + testPower 3 ≤ 1600 ∧
    bootUnit 8 (testing.nextUnit 8) = some ⟨3, 8, 0⟩ ∧ bootUnit 0 (testing.nextUnit 0) = some ⟨7, 0, 0⟩ ∧
    bootUnit 8 (through.nextUnit 8) = none ∧ bootUnit 8 (loaded.nextUnit 8) = some ⟨3, 8, 0⟩ ∧
    1600 < loaded.bist.power + testPower 3 := by decide +kernel
theorem witness_online_test :
    online.booted = true ∧ online.sec.halt = false ∧ online.rbit (bistPage 0) 0x40 0 = true ∧ online.isIsolated 8 = false ∧
    online.bist.running = [] ∧
    (((List.range 112).map fun i => (online.nextUnit 8 + i) % 112).find? fun i => online.eligible (onlineUnit 8 i)) = some 0 ∧
    testPower (onlineUnit 8 0).type ≤ online.rfld (bistPage 0) 0x44 0 12 ∧
    (online.setFld (bistPage 0) 0x44 0 12 0).rfld (bistPage 0) 0x44 0 12 < testPower (onlineUnit 8 0).type := by decide +kernel
theorem witness_test_ends :
    (∀ u ∈ [(⟨1, 8, 15⟩ : TestUnit), ⟨2, 8, 95⟩, ⟨3, 8, 0⟩, ⟨4, 0, 3⟩, ⟨5, 0, 0⟩, ⟨6, 0, 0⟩, ⟨7, 0, 0⟩],
      unitOk u = true ∧ (running u false).bist.running.find? (fun x => x.1 == u) = some (u, false)) ∧
    (running ⟨1, 8, 15⟩ true).bist.running.find? (fun x => x.1 == ⟨1, 8, 15⟩) = some (⟨1, 8, 15⟩, true) ∧
    State.reset.bist.running = [] := by decide +kernel
theorem witness_boot_test_end :
    hbmUp.bistDone = false ∧ hbmUp.training.done = true ∧ hbmUp.hbmReady = true ∧ hbmUp.bist.running = [] ∧
    hbmUp.loader.dead = false ∧ hbmUp.bootDepth = 0 ∧ hbmUp.storedFails = [] ∧
    through.bistDone = false ∧ through.hbmReady = true ∧ through.bist.running = [] ∧
    (∀ d, d < 9 → bootUnit d (through.nextUnit d) = none) := by decide +kernel
theorem witness_boot_test_depth : through.bootDepth = 2 := (depth_same (t := testing) (by decide +kernel) (by decide +kernel)).trans witness_boot_depth

/-! Clocks and power (ClocksAndTelemetry, PowerDomains). -/

/-- A region island takes 3200 MHz over 4; cap island 2 2000 MHz over 2; S_CTRL's own clock and cap island 0 are fixed. -/
def pllOn : State := ((State.reset.setBit (clkPage 8) 0x40 4 true).setBit (clkPage 0) 0x40 5 true)
theorem witness_clock_select :
    throttleable 8 15 = true ∧ pllOn.clockCause 8 15 0x00040404#32 (pllOn.chainLongest (islandRegion 8 15)) = none ∧
    pllOn.rbit (clkPage 8) (islStat 15) 31 = false ∧ throttleable 0 2 = true ∧ pllOn.clockCause 0 2 0x00020205#32 0 = none ∧
    throttleable 8 16 = false ∧ throttleable 0 0 = false ∧
    (pllOn.setBit (clkPage 8) (islStat 17) 31 true).rbit (clkPage 8) (islStat 17) 31 = true := by decide +kernel
/-- The carry-chain limit (Table 4-8): LONGEST 2 admits 1250 MHz, 4 admits 1000 MHz, 8 admits 625 MHz. -/
theorem test_chain_clock :
    pllOn.clockCause 8 15 0x00030304#32 2 = none ∧ pllOn.clockCause 8 15 0x00030304#32 3 = some 4 ∧
    pllOn.clockCause 8 15 0x00040404#32 4 = none ∧ pllOn.clockCause 8 15 0x00040404#32 5 = some 4 := by decide +kernel

theorem witness_setpoint : 100 ≤ fld 450#32 0 9 ∧ fld 450#32 0 9 ≤ 450 ∧ 450 < fld 451#32 0 9 ∧ fld 99#32 0 9 < 100 ∧
    State.reset.packagePower ≤ 10 * State.reset.rfld (pwrPage 0) 0x40 0 9 := by decide +kernel

/-- A request in progress for a domain. -/
def asking (q : DomReq) : State := { fwd with power := { Power.reset with req := some q } }
def regionOff : State := (asking ⟨1, 8, 0, 15, false⟩).setFld (rgnPage 127) 0x40 0 3 stOff
/-- Another request is being carried out; the bank's secure partition. -/
def pwrBusy : State := fwd.setBit (pwrPage 0) 0x54 31 true
def secBank8 : State := fwd.setBit (bankPage (96 * 7)) 0x48 0 true
theorem witness_domains :
    domExists 8 0 15 = true ∧ domExists 0 2 3 = true ∧ domExists 0 4 0 = true ∧
    fwd.isIsolated 8 = false ∧ fwd.isIsolated 0 = false ∧ fwd.rbit (pwrPage 0) 0x54 31 = false ∧ fwd.rgnState 127 ≠ stUnusable ∧
    fwd.domTested 8 0 15 = false ∧ fwd.domTested 0 2 3 = false ∧
    fwd.rgnState 127 ≠ stLoading ∧ fwd.staged.getLsbD 127 = false ∧ fwd.loaderHolds 127 = false ∧
    fwd.gsReserved (regionNode 127) = false := by decide +kernel
theorem witness_domains_bank :
    fwd.rbit (bankPage 767) 0x0C 4 = false ∧ fwd.bankSecure 767 = false ∧ fwd.rbit (bankPage 767) 0x40 16 = false ∧
    fwd.bankPending 767 = false ∧ fwd.underTest (bankPage 767) = false ∧ fwd.bankPower 767 ≠ 1 ∧ fwd.bankPower 767 ≠ 2 ∧
    (fwd.setFld (bankPage 767) 0x40 8 2 2).bankPower 767 ≠ 0 ∧ secBank8.bankSecure (96 * 7) = true ∧
    secBank8.rbit (bankPage (96 * 7)) 0x0C 4 = false ∧ secBank8.rbit (bankPage (96 * 7)) 0x40 16 = false ∧
    secBank8.bankPending (96 * 7) = false ∧ secBank8.underTest (bankPage (96 * 7)) = false := by decide +kernel
theorem witness_domain_refused :
    pwrBusy.rbit (pwrPage 0) 0x54 31 = true ∧ domExists 0 0 0 = false ∧ ({ fwd with isolated := 0x100 } : State).isIsolated 8 = true ∧
    domExists 8 0 0 = true := by decide +kernel
theorem witness_domain_steps :
    regionOff.power.req = some ⟨1, 8, 0, 15, false⟩ ∧ regionOff.rgnState (16 * (8 - 1) + 15) = stOff ∧
    (asking ⟨1, 8, 0, 15, false⟩).rgnState 127 = stCleared ∧ (asking ⟨1, 0, 3, 0, false⟩).power.req = some ⟨1, 0, 3, 0, false⟩ ∧
    (asking ⟨1, 0, 2, 3, false⟩).coreRun 3 = 0 ∧ State.reset.power.req = none ∧
    (asking ⟨1, 8, 0, 15, true⟩).power.req = some ⟨1, 8, 0, 15, true⟩ ∧
    (asking ⟨0, 8, 0, 15, false⟩).power.req = some ⟨0, 8, 0, 15, false⟩ ∧
    (asking ⟨1, 0, 2, 3, true⟩).power.req = some ⟨1, 0, 2, 3, true⟩ ∧
    (asking ⟨1, 0, 4, 0, true⟩).power.req = some ⟨1, 0, 4, 0, true⟩ := by decide +kernel

/-! The twin pair (Fantail's roles and messages). -/

/-- ENABLE and ROLE of the TWN page; the fantail up or not. -/
def twinIn (role : Nat) : State :=
  { (((State.reset.setBit twnPage 0x40 0 true).setFld twnPage 0x44 0 3 role).setFld twnPage 0x44 4 2 2) with twin := Twin.reset }
def withTwin (s : State) (x : Twin) : State := s.setTwin x
def ft (seq : BitVec 16) : FtHead := ⟨true, seq, none, 77⟩
def msg1 : FtMsg := ⟨9, 1, none, 0, []⟩

def enabled : State := State.reset.setBit twnPage 0x40 0 true
/-- The STANDBY takes over; an OWNER waits to raise OWN; a switch has been acknowledged; the partner still holds OWN. -/
def takingOver (planned : Bool) : State := withTwin (twinIn roStandby) { Twin.reset with taking := some (0, planned) }
def raising : State := withTwin (twinIn roOwner) { Twin.reset with raising := true }
def switching (role : Nat) : State := (twinIn role).setBit twnPage 0x44 12 true
def peerHolds (s : State) : State := s.setBit twnPage 0x44 8 true

theorem witness_twin_starts :
    State.reset.rbit twnPage 0x40 0 = false ∧ State.reset.role = roOff ∧ (twinIn roOwner).rbit twnPage 0x40 0 = true ∧
    (twinIn roOwner).role ≠ roFailed ∧ (withTwin State.reset { Twin.reset with awaiting := true }).twin.awaiting = true ∧
    (withTwin State.reset { Twin.reset with awaiting := true }).role = roOff ∧
    enabled.rbit twnPage 0x40 0 = true ∧ enabled.ftUp = false ∧ enabled.rbit twnPage 0x40 6 = false ∧
    (enabled.setBit twnPage 0x40 6 true).rbit twnPage 0x40 6 = true ∧ (enabled.setBit twnPage 0x40 6 true).ftUp = false ∧
    (enabled.setBit twnPage 0x40 6 true).rbit twnPage 0x40 0 = true := by
  decide +kernel
theorem witness_twin_own :
    (twinIn roStandby).role = roStandby ∧ (twinIn roStandby).twin.taking = none ∧ (twinIn roStandby).switching = false ∧
    (switching roStandby).role = roStandby ∧ (switching roStandby).twin.taking = none ∧ (switching roStandby).switching = true ∧
    0 ≤ posDiff (switching roStandby).twnPos (switching roStandby).twin.switchAt ∧
    raising.peerOwn = false ∧ raising.twin.taking = none ∧ raising.twin.raising = true ∧ raising.role = roOwner ∧
    (takingOver false).peerOwn = false ∧ (takingOver false).twin.taking = some (0, false) ∧
    (takingOver true).peerOwn = false ∧ (takingOver true).twin.taking = some (0, true) ∧
    (peerHolds (takingOver true)).peerOwn = true ∧ (peerHolds (takingOver true)).twin.taking.isSome = true ∧
    (twinIn roFailed).role = roFailed := by decide +kernel
theorem witness_twin_switch :
    (twinIn roOwner).role = roOwner ∧ (twinIn roOwner).rbit twnPage 0x5C 0 = false ∧ (twinIn roOwner).ftUp = true ∧
    (twinIn roOwner).twin.unacked.length < 256 ∧
    ((twinIn roOwner).setBit twnPage 0x5C 0 true).rbit twnPage 0x5C 0 = true ∧
    ((twinIn roOwner).setBit twnPage 0x5C 0 true).switching = false ∧
    (switching roOwner).switching = true ∧ (switching roOwner).role = roOwner ∧
    0 ≤ posDiff (switching roOwner).twnPos (((switching roOwner).reg64 twnPage 0x54).extractLsb' 0 56) ∧
    ((switching roOwner).grps.any fun e => e.2.pkts.any fun q => q.first.isSome) = false := by
  decide +kernel
theorem witness_twin_join :
    (twinIn roDetached).role = roDetached ∧ (twinIn roJoining).role = roJoining ∧ (twinIn roJoining).twin.step ≠ 6 ∧
    (twinIn roOff).role ≠ roFailed := by decide +kernel

theorem witness_ft_good :
    FtGood (twinIn roStandby) (ft 0) false ∧ FtGood (twinIn roStandby) (ft 1) true ∧
    FtGood (twinIn roStandby) { ft 0 with ack := some 9 } false ∧ { ft 0 with ack := some 9 }.ack = some 9 ∧
    FtGood (withTwin (twinIn roStandby) { Twin.reset with rxSeq := some 0xFFFF }) (ft 0) true ∧ FtGood (twinIn roJoining) (ft 1) true ∧
    (twinIn roStandby).ftUp = true ∧ { ft 0 with crcOk := false }.crcOk = false ∧ FtGood (twinIn roOwner) (ft 1) true ∧
    ((twinIn roOwner).setBit twnPage 0x5C 0 true).rbit twnPage 0x5C 0 = true := by unfold FtGood; decide +kernel
def referenced : State := (twinIn roOwner).setAxState 0 2
/-- The partner's position, near and far; a STANDBY that differed before. -/
def near : PosCheck := ⟨0, 2, 7⟩
def far : PosCheck := ⟨0x1000000, 2, 7⟩
def differing : State := withTwin (twinIn roStandby) { Twin.reset with differ := 1 }
theorem witness_ft_poschk :
    FtGood referenced (ft 0) false ∧ referenced.role = roOwner ∧ referenced.twin.differ = 0 ∧
    referenced.axState referenced.twnAxis = 2 ∧
    referenced.posGap referenced.twnAxis near ≤ referenced.rfld twnPage 0x4C 0 16 * 256 ∧
    referenced.rfld twnPage 0x4C 0 16 * 256 < referenced.posGap referenced.twnAxis far ∧
    FtGood differing (ft 0) false ∧ differing.role = roStandby ∧ differing.twin.differ ≠ 0 ∧
    differing.rfld twnPage 0x4C 0 16 * 256 < differing.posGap differing.twnAxis far := by
  unfold FtGood; decide +kernel
def closing : State := withTwin (twinIn roStandby) { Twin.reset with closed := [(4, some 9)] }
theorem witness_ft_digest :
    FtGood closing (ft 0) false ∧ tget (fun _ => none) closing.twin.closed (4#32).toNat = some 9#64 ∧
    closing.twin.closed = (4, some 9#64) :: [] ∧ closing.lockstep = false := by unfold FtGood; decide +kernel
/-- Queue 5 at port 0 of region 0, mirrored from the owner. -/
def mirrorTo : State :=
  { twinIn roStandby with atts := (direct 0 0 false [3]).atts, descs := (direct 0 0 false [3]).descs }
theorem witness_ft_mirq :
    FtGood mirrorTo (ft 1) true ∧ mirrorTo.role = roStandby ∧ (5#32).getLsbD 31 = false ∧
    mirrorTo.queueAtt ((5#32).toNat % 2 ^ 20) = some 0 ∧ isSvc 0 = false ∧
    (0x80000005#32).getLsbD 31 = true ∧ mirrorTo.queueAtt ((0x80000005#32).toNat % 2 ^ 20) = some 0 ∧ DirectQueue mirrorTo 0 ∧ TakesWord mirrorTo 0 endWord := by
  unfold FtGood DirectQueue TakesWord; decide +kernel
theorem witness_ft_reliable :
    (twinIn roStandby).twin.ckpts.1 ≠ (9#32).toNat ∧ (twinIn roStandby).twin.counts.1 ≠ (9#32).toNat ∧
    (withTwin (twinIn roJoining) { Twin.reset with step := 3 }).twin.step = 3 ∧
    FtGood (withTwin (twinIn roJoining) { Twin.reset with step := 3 }) (ft 1) true ∧ (BitVec.ofNat 48 hbmBase).toNat / 2 ^ 40 = 0xFF ∧
    inDescTable ((BitVec.ofNat 48 hbmBase).toNat % 2 ^ 40) = false := by unfold FtGood; decide +kernel
def resending (n : Nat) : State := withTwin (twinIn roOwner) { Twin.reset with unacked := [msg1], resends := n }
theorem witness_ft_time :
    (resending 6).twin.unacked = [] ++ [msg1] ∧ (resending 6).twin.resends < 7 ∧ 7 ≤ (resending 7).twin.resends ∧
    (resending 7).ftUp = true ∧ (resending 7).role = roOwner ∧ (resending 7).twin.unacked = [] ++ [msg1] := by
  decide +kernel
/-- A partner's BEAT in the middle of the exchange: the offset is half the difference of the two delays (R358). -/
theorem test_beat_offset :
    after (exec (.ftBeatRx ⟨true, 0, none, 1000⟩ 0 500) (twinIn roOwner))
      (fun t => t.reg twnPage 0x60 == BitVec.ofInt 32 750) = true := by decide +kernel

/-! The granary and health (GranaryStore). -/

/-- All areas scanned and empty, VHOLD at ARM; a secure request for identifier 1. -/
def granary : State := ({ State.reset with grn := { Grn.blank with scanned := 7 } } : State).setGate 0x47 gateOpen
def asked (id addr : Nat) (len : Nat) : State :=
  ((((granary.setReg grnPage 0x44 (BitVec.ofNat 32 id)).setFld grnPage 0x48 0 13 len).setReg grnPage 0x4C
    (BitVec.ofNat 32 (addr % 2 ^ 32))).setFld grnPage 0x50 0 16 (addr / 2 ^ 32)).setGate 0x77 gateOpen

/-- A COMMIT, DELETE or READ of identifier 1 of area 1, of four bytes in core SRAM; VHOLD too low; one is in. -/
def asks : State := asked 0x40000001 sramBase 4
theorem witness_granary_requests :
    GrnIdle asks ∧ idArea (asks.grnAsked 1 (grnSender 0)).id = some 1 ∧ asks.grn.scanned.getLsbD 1 = true ∧
    ((asks.setVhold 255).grnShown 1).grnRefusal (asks.grnAsked 1 (grnSender 0)) 1 4 = none ∧
    (asks.grnAsked 1 (grnSender 0)).addr = sramBase ∧ (asks.grnAsked 1 (grnSender 0)).len = 4 ∧
    (((asks.setVhold 255).grnShown 1).fetchAll 0x47 0x30 sramBase 4 8).2 = (0, [0, 0, 0, 0]) ∧
    (((asks.setVhold 0).grnShown 1).grnRefusal (asks.grnAsked 1 (grnSender 0)) 1 4).isSome = true ∧
    ((asks.setVhold 255).grnShown 2).grnRefusal (asks.grnAsked 2 (grnSender 2)) 1 0 = none ∧
    asks.grn.current (asks.grnAsked 3 (grnSender 1)).id = none := by unfold GrnIdle; decide +kernel
def holding : State := { asks with grn := { asks.grn with index := [(0x40000001, some ⟨0x200000, 7, false, 8⟩)] } }
theorem witness_granary_read :
    GrnIdle holding ∧ idArea (holding.grnAsked 3 (grnSender 1)).id = some 1 ∧ holding.grn.scanned.getLsbD 1 = true ∧
    holding.grn.current (holding.grnAsked 3 (grnSender 1)).id = some ⟨0x200000, 7, false, 8⟩ ∧
    ((holding.grnShown 3).storeAll 0x47 0x30 (holding.grnAsked 3 (grnSender 1)).addr
      (((holding.grnShown 3).entryData ⟨0x200000, 7, false, 8⟩).take (min 4 8)) 8).2 = 0 ∧
    (holding.setBit grnPage 0x54 31 true).rbit grnPage 0x54 31 = true := by
  unfold GrnIdle; decide +kernel

/-- A commit of four bytes in flight; the erase of sector 64 beside head 65. -/
def committing : State := { granary with grn := { granary.grn with flight := some ⟨.other, 0x40000001, false, [1, 2, 3, 4]⟩ } }
def erasing : State := { granary with grn := { granary.grn with erasing := some 64, used := [(1, [64, 65])] } }
theorem witness_granary_commit :
    committing.grn.flight = some ⟨.other, 0x40000001, false, [1, 2, 3, 4]⟩ ∧ committing.grn.queue = [] ∧
    (committing.grn.place 1 (entryUnits 4)).map (fun x => (x.2, decide (4 ≤ (x.1.freeOf 1).length))) = some (0x200010, true) ∧
    ((0x40000001#32).toNat / 2 ^ 30) = 1 := by
  decide +kernel
theorem witness_granary_erase :
    erasing.grn.erasing = some 64 ∧ erasing.grn.usedOf (sectorArea 64) = [64, 65] ∧ erasing.eraseCount 64 < 100000 := by
  decide +kernel
theorem witness_granary_power : granary.grn.queue = [] ∧ granary.grn.erasing = none ∧ granary.cfgBusy = false := by decide +kernel

/-- The first entry of area 1 stands behind the erase count of sector 64, its payload 32 bytes on. -/
theorem test_commit_place :
    after (exec (.commitDone 0) committing) (fun t => t.readByte (flashBase + 64 * 0x8000 + 16) == 0x47 &&
      t.readByte (flashBase + 64 * 0x8000 + 17) == 0x4A && t.readByte (flashBase + 64 * 0x8000 + 51) == 4) = true := by decide +kernel

/-- Sensor readings of −1 % to +20 %, the worst at monitor 31. -/
def readings : Vector (BitVec 16) 32 := Vector.ofFn fun i : Fin 32 => if i.val = 31 then 20000#16 else BitVec.ofInt 16 (-1000)
theorem witness_monitors :
    (∀ m, m < 32 → readingBad (readings.toList.getD m 0) = false) ∧ tget (fun _ => 0#32) State.reset.health.bad 8 = 0 ∧
    worstOf ((List.range 32).map fun m => (m, readings.toList.getD m 0)) = some (31, 20000#16) := by decide +kernel

/-! External interfaces (LanesMacsSerial, HostInterface). -/

def laneRaw : State := (State.reset.setBit (xcvPage 1) 0x08 0 true).setFld (xcvPage 1) (laneOff 31 0x100) 0 3 1
/-- The last RAW lane; the source's depth is a configuration field. -/
theorem witness_lane (hd : 0 < Config.xcvDepth) :
    laneMode laneRaw 31 = 1 ∧ laneRaw.released1 (xcvPage (31 / 16)) = true ∧ (laneRaw.lane 31).rx.length < Config.xcvDepth :=
  ⟨by decide +kernel, by decide +kernel, hd⟩

/-- MAC 7 on, broadcasts admitted, MAXLEN 1518; its lane in ETH 10G. -/
def macUp (tx : List (List SWord)) : State :=
  (((State.reset.setBit ethPage 0x08 0 true).setReg ethPage (ethOff 7 0x100) 0x05EE0011#32).setFld (xcvPage 1)
    (laneOff 23 0x100) 0 3 2).setMac 7 { Mac.reset with tx := tx }
def bcast : List Byte := List.replicate 6 0xFF ++ List.replicate 54 1
theorem witness_mac :
    (macUp []).macOn 7 = true ∧ 60 ≤ bcast.length ∧ bcast.length + 4 ≤ 9216 ∧ bcast.length + 4 ≤ (macUp []).maxLen 7 ∧
    isPause bcast = false ∧ (macUp []).macAdmits 7 bcast = true ∧ (macUp []).rbit ethPage (ethOff 7 0x100) 3 = false ∧
    ((macUp []).mac 7).rx.length + (frameWords bcast).length ≤ 4096 ∧
    ((macUp [frameWords [1, 2]]).mac 7).tx = frameWords [1, 2] :: [] ∧ (macUp [frameWords [1, 2]]).macOn 7 = true := by decide +kernel
/-- A frame of five bytes: the END word's ARG holds its valid bytes less 1, and the bytes come back (R440). -/
theorem test_frame_words : frameWords [1, 2, 3, 4, 5] = [mkWord 0 0x04030201#32, mkWord 0x20#6 5#32] ∧
    wordsFrame (frameWords [1, 2, 3, 4, 5]) = [1, 2, 3, 4, 5] := by decide +kernel

/-- The blocks of UARTs, SPI and IIC released, every port enabled. -/
def serialsOn : State :=
  let s := ((State.reset.setBit uartPage 0x08 0 true).setBit spiPage 0x08 0 true).setBit iicPage 0x08 0 true
  (((s.setBit uartPage (serOff 3 0) 0 true).setBit spiPage (serOff 4 0) 0 true).setBit spiPage (serOff 9 0) 0 true).setBit iicPage
    (serOff 13 0) 0 true
def serialWith (k : Nat) (x : Serial) : State := serialsOn.setSerial k x
theorem witness_serial :
    serialsOn.released1 uartPage = true ∧ (serialsOn.serial 3).tx.length < 64 ∧
    ((serialWith 3 { Serial.reset with rx := [7, 8] }).serial 3).rx = 7 :: [8] ∧ serialsOn.serOn 13 = true ∧
    (serialsOn.serial 13).rx.length < serDepth 13 ∧
    serDepth 13 ≤ ((serialWith 13 { Serial.reset with rx := List.replicate 32 0 }).serial 13).rx.length ∧
    serialsOn.serOn 4 = true ∧ serialsOn.rbit spiPage (serOff 4 4) 30 = false ∧
    (serialsOn.setBit cfgPage 0x44 31 true).booted = true ∧ serialsOn.serOn 9 = true ∧
    serialsOn.rbit iicPage (serOff 13 0x0C) 0 = false ∧
    (serialsOn.setBit spiPage (serOff 9 4) 30 true).rbit spiPage (serOff 9 4) 30 = true := by decide +kernel

/-- PCIe released with RATE 5 and WIDTH 4; a link that is up with BAR0 at the core SRAM. -/
def pcieSet : State := (State.reset.setBit pciePage 0x08 0 true).setReg pciePage 0x40 0x4B#32
def pcieUpOn : State :=
  ((({ pcieSet with outer := { Outer.reset with pcieLanes := 16 } } : State).setReg pciePage 0x44 0x4B#32).setReg pciePage 0x4C
    (BitVec.ofNat 32 (sramBase / 2 ^ 28))).setGate 0x47 gateOpen
theorem witness_pcie :
    pcieSet.released1 pciePage = true ∧ pcieSet.rbit pciePage 0x40 0 = true ∧ pcieSet.pcieLink = false ∧
    min 5 (pcieSet.rfld pciePage 0x40 1 3) = 5 ∧ min 4 (pcieSet.rfld pciePage 0x40 4 3) = 4 ∧ widthLanes 4 = 16 ∧
    (∀ l, l < 16 → laneOwner pcieSet l ≠ 1) ∧
    pcieUpOn.pcieLink = true ∧ pcieUpOn.cfgBusy = false ∧ pcieUpOn.outer.pcieLanes ≤ 16 := by decide +kernel
/-- The SRAM's last word but those of the secure top, through BAR0. -/
def barOff (n : Nat) : BitVec 28 := BitVec.ofNat 28 (sramBase + n)
theorem witness_bar :
    (∀ c, c < 4 → pcieUpOn.coreRun c ≠ 1) ∧ pcieUpOn.barAddr 1 (barOff 0xFBFFC).toNat = sramBase + 0xFBFFC ∧
    isRegAddr (sramBase + 0xFBFFC) = false ∧ windowOf (sramBase + 0xFBFFC) 4 = .sram ∧
    pcieUpOn.busStatus barWho (sramBase + 0xFBFFC) 4 true = 0 ∧ (pcieUpOn.memWrite (sramBase + 0xFBFFC) [1, 2, 3, 4]).2 = 0 ∧
    pcieUpOn.busStatus barWho (sramBase + 0xFBFFC) 4 false = 0 ∧ (pcieUpOn.memRead (sramBase + 0xFBFFC) 4).2.1 = 0 ∧
    pcieUpOn.seen barWho.node (sramBase + 0xFBFFC) 4 0 = 0 := by decide +kernel
def bar2On : State := pcieUpOn.loadStart 1 Loader.reset
theorem witness_bar2 :
    bar2On.pcieLink = true ∧ bar2On.cfgBusy = true ∧ bar2On.loadSource = 1 ∧ bar2On.phase = 1 ∧
    bar2On.loader.buf.length + 351 < 352 ∧ MoreThan bar2On 351 := by
  rw [moreThan_free rfl]; decide +kernel
/-- Channel 3 set for eight bytes of the SRAM (or of a hole of the map), from the host or to it. -/
def hdmaAt (a : Nat) (dir : Bool) : State :=
  ((((pcieUpOn.setReg pciePage (hdmaOff 3 0x108) (BitVec.ofNat 32 (a % 2 ^ 32))).setReg pciePage (hdmaOff 3 0x10C)
    (BitVec.ofNat 32 (a / 2 ^ 32))).setReg pciePage (hdmaOff 3 0x110) 8#32).setBit pciePage (hdmaOff 3 0x114) 1 dir)
def hdmaSet (dir : Bool) : State := hdmaAt sramBase dir
def hdmaBusyAt (a : Nat) : State := (hdmaAt a false).setReg pciePage (hdmaOff 3 0x118) 0x80000000#32
def hdmaHole : Nat := 0x47 * 2 ^ 40 + 0x3000000
theorem witness_hdma :
    (hdmaSet true).released1 pciePage = true ∧ (hdmaSet true).hdmaBusy 3 = false ∧ 0 < (hdmaSet true).hdmaLen 3 ∧
    (hdmaSet true).hdmaLen 3 ≤ 0x1000000 ∧ (hdmaSet true).hdmaLen 3 % 4 = 0 ∧
    (hdmaSet true).rbit pciePage (hdmaOff 3 0x114) 1 = true ∧ (hdmaSet true).pcieLink = true ∧
    (hdmaSet false).rbit pciePage (hdmaOff 3 0x114) 1 = false ∧ (hdmaSet false).hdmaBusy 3 = false ∧
    ((hdmaSet true).hdmaRead sramBase 8 4 []).2.2 = true ∧ ((hdmaAt hdmaHole true).hdmaRead hdmaHole 8 4 []).2.2 = false := by
  decide +kernel
/-- A completion that is stored and one that is refused (R447). -/
theorem witness_completion :
    let s := hdmaBusyAt sramBase
    let h := hdmaBusyAt hdmaHole
    s.hdmaBusy 3 = true ∧ s.rbit pciePage (hdmaOff 3 0x114) 1 = false ∧
    ([1, 2, 3, 4] : List Byte).length + s.hdmaDone 3 ≤ s.hdmaLen 3 ∧ (s.hdmaStore (s.hdmaPkg 3) [1, 2, 3, 4] 4 0).2.2 = true ∧
    (s.hdmaPkg 3 + s.hdmaDone 3) % 0x1000 + 4 ≤ 0x1000 ∧
    (s.store 0x54 hdmaPort (s.hdmaPkg 3 + s.hdmaDone 3) [1, 2, 3, 4] false).2 = 0 ∧
    h.hdmaBusy 3 = true ∧ (h.hdmaStore (h.hdmaPkg 3) [1, 2, 3, 4] 4 0).2.2 = false := by decide +kernel

/-! Debug (TapAccess, RunControl). -/

def tapWith (code : Nat) : State :=
  ({ State.reset with dbg := { Debug.reset with ir := [(0, code)] } } : State).setGate 0x47 gateOpen
/-- The cap's TAP holds a scan instruction, the scan begun; another TAP holds one too. -/
def scanning (both : Bool) : State :=
  ({ State.reset with dbg := { Debug.reset with ir := (0, 0x20) :: (if both then [(8, 0x21)] else []) } } : State).setBit dbgPage 0x40 4
    true |>.setBit dbgPage 0x40 20 true
theorem witness_tap :
    State.reset.board.vccDbg = true ∧ State.reset.scanActive = false ∧ isScan 0x10 = false ∧ State.reset.tapAdmits 0 0x10 = true ∧
    State.reset.tapAdmits 8 0x02 = true ∧ State.reset.tapAdmits 8 0x10 = false ∧ isScan 0x21 = true ∧ State.reset.scanOpen = true ∧
    ({ State.reset with board := { Board.reset with vccDbg := false } } : State).board.vccDbg = false := by decide +kernel
/-- A scan instruction loaded beside another, and the last one left. -/
theorem witness_scan :
    (scanning true).board.vccDbg = true ∧ (scanning true).scanOpen = true ∧ (scanning true).scanActive = true ∧
    isScan 0x02 = false ∧ isScan ((scanning false).tapIr 0) = true ∧ (∀ e, e < 9 → e ≠ 0 → isScan ((scanning false).tapIr e) = false) ∧
    (scanning false).tapAdmits 0 0x02 = true := by decide +kernel
theorem witness_fuse :
    (tapWith 0x30).tapIr 0 = 0x30 ∧ (tapWith 0x30).board.vccDbg = true ∧ (35#6).toNat < 36 ∧ (tapWith 0x30).scanTaint = false ∧
    (tapWith 0x30).fuses.state = 0 ∧ (tapWith 0x30).powerFail = false ∧
    tget (fun _ => 0) (tapWith 0x30).fuses.brake ((if 35 < 32 then 35 / 4 + 1 else 0) * 4 + 35 % 4) ||| (2#2).toNat = (2#2).toNat := by
  decide +kernel
def sramAddr : BitVec 48 := BitVec.ofNat 48 sramBase
theorem witness_dbgacc :
    let s := tapWith 0x10
    s.tapIr 0 = 0x10 ∧ s.dbgActs = true ∧ s.dbg.busy = false ∧ NoCoreRuns s ∧ isRegAddr sramAddr.toNat = false ∧
    s.heldAt (s.dbgWho true) sramAddr.toNat = none ∧ s.heldAt (s.dbgWho false) sramAddr.toNat = none ∧
    s.busStatus (s.dbgWho true) sramAddr.toNat 4 false = 0 ∧ (s.memRead sramAddr.toNat 4).2.1 = 0 ∧
    s.seen 0x77 sramAddr.toNat 4 0 = 0 ∧ s.busStatus (s.dbgWho false) sramAddr.toNat 4 true = 0 ∧
    (s.memWrite sramAddr.toNat [1, 2, 3, 4]).2 = 0 ∧ windowOf sramAddr.toNat 4 = .sram := by unfold NoCoreRuns; decide +kernel
/-- Sail 1 isolated: a refusal of sail 2 does not come back; a hole of the map, answered; a bank whose handover waits. -/
def cutOff : State := { fwd with isolated := 2#9, dbg := { Debug.reset with ir := [(0, 0x10)] } }
def lostAddr : BitVec 48 := BitVec.ofNat 48 (regionNode 16 * 2 ^ 40 + 0x3000000)
def heldBack : State :=
  { fwd with dbg := { Debug.reset with ir := [(0, 0x10)] } }.setReg (bankPage 767) 0x34 0x80000010#32
def bankAddr (b : Nat) : BitVec 48 := BitVec.ofNat 48 (bankBase b)
theorem witness_dbg_refused :
    let s := cutOff
    let st := (tapWith 0x10).busStatus ((tapWith 0x10).dbgWho true) 0xFE0000000000 4 false
    s.tapIr 0 = 0x10 ∧ s.dbgActs = true ∧ s.dbg.busy = false ∧ NoCoreRuns s ∧ s.heldAt (s.dbgWho true) lostAddr.toNat = none ∧
    s.busStatus (s.dbgWho true) lostAddr.toNat 4 false ≠ 0 ∧
    s.seen 0x77 lostAddr.toNat 4 (s.busStatus (s.dbgWho true) lostAddr.toNat 4 false) = 0xF ∧
    (tapWith 0x10).heldAt ((tapWith 0x10).dbgWho true) 0xFE0000000000 = none ∧ st ≠ 0 ∧ st ≠ 0xF ∧
    (tapWith 0x10).seen 0x77 0xFE0000000000 4 st = st ∧ heldBack.tapIr 0 = 0x10 ∧ heldBack.dbgActs = true ∧
    heldBack.dbg.busy = false ∧ heldBack.heldAt (heldBack.dbgWho true) (bankAddr 767).toNat = some 767 := by
  unfold NoCoreRuns; decide +kernel
def secaccAddr : BitVec 48 := BitVec.ofNat 48 (sramBase + 0xFBFFC)
theorem witness_secacc :
    (tapWith 0x11).tapIr 0 = 0x11 ∧ (tapWith 0x11).board.vccDbg = true ∧ (tapWith 0x11).dbg.busy = false ∧
    secaccReach secaccAddr.toNat false = true ∧ secaccReach secaccAddr.toNat true = true ∧ isRegAddr secaccAddr.toNat = false ∧
    (tapWith 0x11).busStatus ⟨0x77, 0x3F, true⟩ secaccAddr.toNat 4 false = 0 ∧
    (tapWith 0x11).busStatus ⟨0x77, 0x3F, true⟩ secaccAddr.toNat 4 true = 0 ∧
    (tapWith 0x11).seen 0x77 secaccAddr.toNat 4 0 = 0 ∧ secaccReach 0 false = false ∧ secaccReach 0 true = false ∧
    (tapWith 0x10).tapIr 0 ≠ 0x11 := by decide +kernel
theorem witness_dbg_busy :
    ({ tapWith 0x10 with dbg := { Debug.reset with busy := true } } : State).dbg.busy = true := by decide +kernel

/-- Core 3 in a RUN state; task 5 running where it runs. -/
def coreIn (n : Nat) : State :=
  ((State.reset.setRun 3 n).setCore 3 { Core.reset with task := some 5, pc := 0x40 }).setTaskState 3 5 2
theorem witness_run_control :
    (coreIn 1).dbgActs = true ∧ (coreIn 1).reg dbgPage (dbgOff 3 0x100) &&& 7#32 = 0 ∧ (coreIn 1).coreRun 3 = 1 ∧
    (coreIn 1).reserved 3 = none ∧ ((coreIn 1).setResv 3 (some 4)).reserved 3 ≠ none ∧ (coreIn 2).coreRun 3 = 2 ∧
    (coreIn 2).sec.halt = false ∧ ((coreIn 2).core 3).haltAsk = false ∧ (coreIn 2).dbgActs = true ∧
    (∀ c, c < 4 → (coreIn 1).reserved c = none) ∧ (coreIn 2).rfld dbgPage (dbgOff 3 0x108) 0 6 < 8 ∧
    ((coreIn 2).setReg dbgPage (dbgOff 3 0x108) 32#32).rfld dbgPage (dbgOff 3 0x108) 0 6 = 32 ∧ (coreIn 0).coreRun 3 = 0 ∧
    State.reset.scanActive = false ∧ ({ State.reset with board := { Board.reset with vccDbg := false } } : State).scanActive = false ∧
    (∀ c, c < 4 → State.reset.coreRun c ≠ 1 ∧ State.reset.coreRun c ≠ 2) := by decide +kernel
theorem witness_keeps_task : (coreIn 2).keepsTask 3 := by
  refine ⟨5, by decide +kernel, by decide +kernel, by decide +kernel, ?_⟩
  have h : (coreIn 2).bestTask 3 = none := by decide +kernel
  intro u hu
  rw [h] at hu
  exact absurd hu (by simp)
theorem witness_not_acting :
    ({ coreIn 1 with board := { Board.reset with vccDbg := false } } : State).dbgActs = false := by decide +kernel

/-! The cores (16_glaette_cores). -/

/-- A check from which Runs follows: nothing is due on the core, no other core runs. -/
def runsB (s : State) (c t : Nat) : Bool :=
  s.coreReady c && !s.atBreak c && s.fetchTrap c == none && (otherCores c).all (fun d => s.coreRun d != 1) &&
  !(s.core c).stepping && !(s.core c).haltAsk && !(s.core c).turnDue && s.taskState c t == 2 && decide (t < 16) && (s.core c).task == some t &&
  (match s.bestTask c with | none => true | some u => decide (s.taskPrio c u ≤ s.taskPrio c t))

theorem runs_of_check {s : State} {c t o w : Nat} (h : runsB s c t = true) (hw : Windows (s.core c) t o w) : Runs s c t o w := by
  simp only [runsB, Bool.and_eq_true, beq_iff_eq, decide_eq_true_eq, Bool.not_eq_true'] at h
  obtain ⟨⟨⟨⟨⟨⟨⟨⟨⟨⟨h1, h2⟩, h3⟩, h4⟩, h5⟩, h6⟩, h11⟩, h7⟩, h8⟩, h9⟩, h10⟩ := h
  refine ⟨h1, h2, h3, fun d hd => ?_, h8, h9, hw⟩
  by_cases e : d = c
  · subst e
    refine .inr ⟨h5, h6, .inl ⟨t, h9, h7, h11, fun u hu => ?_⟩⟩
    rw [hu] at h10
    simpa using h10
  · refine .inl ?_
    have := List.all_eq_true.mp h4 d (by simp [otherCores, hd, e])
    simpa using this

/-- Core 1 runs task 0, privileged, from address 0x100 of core SRAM; slot 0 is its window, slot 1 its OUT slot. -/
def coreOn : State := (State.reset.setBit (glcPage 1) 0x40 1 true).coreStart 1 0x100#32 false
def onCore (s : State) (f : Core → Core) : State := s.setCore 1 (f (s.core 1))
theorem witness_runs : Runs coreOn 1 0 1 0 := runs_of_check (by decide +kernel) (by unfold Windows; decide +kernel)

/-- Rows of the instruction tables. -/
theorem witness_glc_rows :
    IsGlcRow ⟨.glcAnd, fun a b => a &&& b, 3, noFlag, noFlag⟩ ∧ IsGlcImm (.glcAndi, fun a i => a &&& i.setWidth 32) ∧
    IsStore (.glcStw, 4) := ⟨by simp [IsGlcRow], by simp [IsGlcImm], by simp [IsStore]⟩
theorem witness_glc_load :
    IsLoad (.glcLdh, 2, fun l => (l.getD 1 0 ++ l.getD 0 0).signExtend 32) := by simp [IsLoad]

/-! Results and flags from Table 16-6: a carry with a zero result, a borrow, an overflow, divisors 0 and −1. -/
def regs2 (a b : Word) : State := (coreOn.setCreg 1 1 a).setCreg 1 2 b
theorem test_glc_add : after (exec (.glcAdd 1 3 1 2 true) (regs2 0xFFFFFFFF 1)) (fun t =>
    t.creg 1 3 == 0 && t.cst 1 == 5 && t.cpc 1 == 0x104) = true := by decide +kernel
theorem test_glc_sub : after (exec (.glcSub 1 3 1 2 true) (regs2 0x80000000 1)) (fun t =>
    t.creg 1 3 == 0x7FFFFFFF && t.cst 1 == 0xC) = true := by decide +kernel
theorem test_glc_div : after (exec (.glcDiv 1 3 1 2 false) (regs2 0x80000000 0xFFFFFFFF)) (fun t =>
    t.creg 1 3 == 0x80000000) = true ∧ after (exec (.glcRem 1 3 1 2 false) (regs2 7 0)) (fun t => t.creg 1 3 == 7) = true := by
  decide +kernel
theorem test_glc_sar : after (exec (.glcSar 1 3 1 2 false) (regs2 0x80000000 33)) (fun t => t.creg 1 3 == 0xC0000000) = true := by
  decide +kernel
theorem test_glc_imm : after (exec (.glcAndi 1 3 1 0xFFFF) (regs2 0xFFFFFFFF 0)) (fun t => t.creg 1 3 == 0xFFFF) = true ∧
    after (exec (.glcLui 1 3 0x8001) coreOn) (fun t => t.creg 1 3 == 0x80010000) = true := by decide +kernel
/-- A register that is source and destination; a compare leaves registers. -/
theorem test_glc_same : after (exec (.glcSub 1 1 1 1 true) (regs2 5 0)) (fun t => t.creg 1 1 == 0 && t.cst 1 == 5) = true ∧
    after (exec (.glcCmp 1 1 2) (regs2 1 2)) (fun t => t.creg 1 1 == 1 && t.cst 1 == 2) = true := by decide +kernel
/-- Words of the encoding tables: ADD s0, s1, s2 with S, STM and ORI of chapter 16, and the zero word. -/
theorem test_glc_words : glcIllegal 0 = true ∧ glcIllegal 0x00221C01#32 = false ∧ glcIllegal 0xA140FF00#32 = false ∧
    glcIllegal 0x0C000000#32 = false := by decide +kernel

/-! Loads and stores. -/

def bg : MemAttr := ⟨false, false, true⟩
/-- The window 0x10000000 of core 1 shows package memory about p; the cap's memory is open. -/
def aperturedTo (p : Nat) : State :=
  (coreOn.setReg (glcPage 1) 0x50 (BitVec.ofNat 32 (2 ^ 31 + p / 2 ^ 28))).setGate 0x47 gateOpen
def shownAt (p : Nat) : Nat := 0x10000000 + p % 2 ^ 28
def apertured : State := aperturedTo (bankBase 0)
def bankAt : Nat := shownAt (bankBase 0)
/-- Core SRAM as the package sees it. -/
def ramP : Nat := sramBase + 0x3000
def aperturedRam : State := aperturedTo ramP
theorem witness_plain : Plain coreOn 1 0 0x2000 4 false (sramBase + 0x2000) ∧ Plain coreOn 1 0 0x2002 2 true (sramBase + 0x2002) :=
  ⟨⟨by decide, ⟨bg, by decide +kernel, rfl⟩, .inl (by decide +kernel)⟩, ⟨by decide, ⟨bg, by decide +kernel, rfl⟩, .inl (by decide +kernel)⟩⟩
theorem witness_plain_aperture : Runs aperturedRam 1 0 1 0 ∧ Plain aperturedRam 1 0 (shownAt ramP) 4 false ramP ∧
    Plain aperturedRam 1 0 (shownAt ramP + 3) 1 true (ramP + 3) :=
  ⟨runs_of_check (by decide +kernel) (by unfold Windows; decide +kernel),
   ⟨by decide +kernel, ⟨bg, by decide +kernel, rfl⟩, .inr (by decide +kernel)⟩,
   ⟨by decide, ⟨bg, by decide +kernel, rfl⟩, .inr (by decide +kernel)⟩⟩
/-- Core 0 reads the boot ROM's last word (R405). -/
def romCore : State := (State.reset.setBit (glcPage 0) 0x40 1 true).coreStart 0 0x100#32 false
theorem witness_rom :
    Runs romCore 0 0 1 0 ∧ romCore.coreTarget 0 0xFFFFFFFC = .rom ∧
    ∃ m, romCore.mpu 0 0 0xFFFFFFFC 0 (romCore.corePriv 0) = some m ∧ m.cached = false :=
  ⟨runs_of_check (by decide +kernel) (by unfold Windows; decide +kernel), by decide +kernel, ⟨bg, by decide +kernel, rfl⟩⟩
/-- Region 0 lets task 0 post writes to the window, where the bank is under test (R391). -/
def posting1 : State :=
  ((((apertured.setReg (glcPage 1) 0x100 (BitVec.ofNat 32 (bankAt / 0x1000 * 0x1000))).setReg (glcPage 1) 0x104
    (BitVec.ofNat 32 (bankAt / 0x1000 * 0x1000))).setReg (glcPage 1) 0x108 0x00018010#32)).setBit (bankPage 0) 0x0C 5 true
theorem witness_posted : Runs posting1 1 0 1 0 ∧
    (let who : Who := ⟨coreNode 1, posting1.corePort 1, false⟩
     (∃ m, posting1.mpu 1 0 bankAt 1 (posting1.corePriv 1) = some m ∧ m.cached = false ∧ m.np = false) ∧
     posting1.coreTarget 1 bankAt = .aperture (bankBase 0) ∧ isRegAddr (bankBase 0) = false ∧
     posting1.heldAt who (bankBase 0 - bankBase 0 % 4) = none ∧
     posting1.busStatus who (bankBase 0 - bankBase 0 % 4) 4 true ≠ 0) :=
  ⟨runs_of_check (by decide +kernel) (by unfold Windows; decide +kernel),
   ⟨⟨false, false, false⟩, by decide +kernel, rfl, rfl⟩, by decide +kernel, by decide +kernel, by decide +kernel, by decide +kernel⟩
/-- Region 0 of core 1's MPU: the page at 0x2000, cached; its line 0x80 is held. -/
def line80 (dirty : Bool) : CacheLine := ⟨0x80, List.replicate 63 1 ++ [9], dirty⟩
def cachedAt (dirty : Bool) : State :=
  onCore (((coreOn.setReg (glcPage 1) 0x100 0x2000#32).setReg (glcPage 1) 0x104 0x2000#32).setReg (glcPage 1) 0x108 0x00018078#32)
    fun x => x.putDset 0x80 [line80 dirty]
theorem witness_hit : Runs (cachedAt false) 1 0 1 0 ∧ Hit (cachedAt false) 1 0 0x203C 4 false (line80 false) ∧
    Hit (cachedAt false) 1 0 0x203F 1 true (line80 false) :=
  ⟨runs_of_check (by decide +kernel) (by unfold Windows; decide +kernel),
   ⟨by decide, ⟨⟨true, false, false⟩, by decide +kernel, by decide⟩, by decide +kernel, by decide +kernel, by decide⟩,
   ⟨by decide, ⟨⟨true, false, false⟩, by decide +kernel, by decide⟩, by decide +kernel, by decide +kernel, by decide⟩⟩
def locked : State := coreOn.setResv 1 (some ((sramBase + 0x2000) / 64))
theorem witness_locked : Runs locked 1 0 1 0 ∧ locked.reserved 1 ≠ none ∧ coreOn.reserved 1 = none :=
  ⟨runs_of_check (by decide +kernel) (by unfold Windows; decide +kernel), by decide +kernel, by decide +kernel⟩
/-- A negative offset, a byte with its sign, the bytes of a halfword. -/
theorem test_glc_load : after (exec (.glcLdb 1 3 1 0xFFFF false) ((regs2 0x2001 0).writeByte (sramBase + 0x2000) 0x80))
    (fun t => t.creg 1 3 == 0xFFFFFF80) = true ∧
    after (exec (.glcSth 1 2 1 2 false) (regs2 0x2000 0x11223344)) (fun t =>
      t.readByte (sramBase + 0x2002) == 0x44 && t.readByte (sramBase + 0x2003) == 0x33 && t.readByte (sramBase + 0x2004) == 0) = true := by
  decide +kernel

/-! LDM and STM. -/

/-- The base register s4 at 0x2040. -/
def multOn : State := coreOn.setCreg 1 4 0x2040#32
theorem mult_open_ld : ∀ i, i < 0x80 → multOn.mpu 1 0 (0x2000 + i) 0 (multOn.corePriv 1) = some bg := by decide +kernel
theorem mult_open_st : ∀ i, i < 0x80 → multOn.mpu 1 0 (0x2000 + i) 1 (multOn.corePriv 1) = some bg := by decide +kernel
theorem witness_multiple :
    Runs multOn 1 0 1 0 ∧ bit (multOn.cst 1) 8 = false ∧ PlainRange multOn 1 0 (0x2040 - 4 * maskBelow 0xC00001#24 24) (4 * maskBelow 0xC00001#24 24) true ∧
    PlainRange multOn 1 0 0x2040 (4 * maskBelow 0xC00001#24 24) false := by
  have n : maskBelow 0xC00001#24 24 = 3 := by decide +kernel
  refine ⟨runs_of_check (by decide +kernel) (by unfold Windows; decide +kernel), by decide +kernel, ⟨by rw [n], by rw [n]; decide, ?_⟩,
    ⟨by decide, by rw [n]; decide, ?_⟩⟩
  · intro a h1 h2
    rw [n] at h1 h2
    have := mult_open_st (a - 0x2000) (by omega)
    rw [show 0x2000 + (a - 0x2000) = a by omega] at this
    exact ⟨bg, this, rfl⟩
  · intro a h1 h2
    rw [n] at h2
    have := mult_open_ld (a - 0x2000) (by omega)
    rw [show 0x2000 + (a - 0x2000) = a by omega] at this
    exact ⟨bg, this, rfl⟩
theorem witness_multiple_break :
    maskBelow 0xC00001#24 0 = 0 ∧ (0xC00001#24).getLsbD 0 = true ∧ maskBelow 0xC00001#24 (23 + 1) = maskBelow 0xC00001#24 24 ∧
    (0xC00001#24).getLsbD 23 = true ∧ 4 * maskBelow 0xC00001#24 24 ≤ (multOn.creg 1 4).toNat := by decide +kernel
/-- The lowest register at the lowest address, the base below it. -/
theorem test_glc_stm : after (exec (.glcStm 1 0 0x000003#24 24 false) ((multOn.setCreg 1 8 5).setCreg 1 9 6)) (fun t =>
    t.readWord (sramBase + 0x2038) == 5 && t.readWord (sramBase + 0x203C) == 6 && t.creg 1 4 == 0x2038) = true := by decide +kernel

/-! Control flow and traps. -/

/-- After a call: window 1, OUT slot 2, the caller's window 0. -/
def called : State := onCore coreOn fun x => x.advance 0 0x200#32
theorem witness_call :
    (coreOn.core 1).freeSlot = some 2 ∧ 2 ≤ (coreOn.core 1).freeCount ∧ Runs called 1 0 2 1 ∧
    ((called.core 1).slot 1).below = some 0 ∧ ((coreOn.core 1).slot 0).below = none ∧ coreOn.wsp 1 0 = coreOn.wtop 1 0 ∧
    coreOn.bestTask 1 = none :=
  ⟨by decide +kernel, by decide +kernel, runs_of_check (by decide +kernel) (by unfold Windows; decide +kernel), by decide +kernel,
   by decide +kernel, by decide +kernel, by decide +kernel⟩
/-- A branch backwards that is taken, and a return to LINK. -/
theorem test_glc_flow : after (exec (.glcB 1 1 0x3FFFFF#22) coreOn) (fun t => t.cpc 1 == 0xFC) = true ∧
    after (exec (.glcRet 1) called) (fun t => t.cpc 1 == 0x200) = true := by decide +kernel

/-- The background region is off: region 0 lets the program run, and nothing is read or written. -/
def guardedCore : State :=
  ((coreOn.setBit (glcPage 1) 0x40 1 false).setReg (glcPage 1) 0x104 0#32).setReg (glcPage 1) 0x108 0x00018020#32
/-- Other tasks hold the slots from 2 on, one or none left free. -/
def crowded (n : Nat) : State := onCore coreOn fun x =>
  (List.range n).foldl (fun x i => x.setSlot (2 + i) { WSlot.free with valid := true, task := 9, age := 5, out := i == 0 }) x
def underWater : State := coreOn.setReg (tskPage 1) (tskOff 0 0x10C) 0x1F00#32
def inHandler : State := coreOn.setCst 1 0x10#32
theorem witness_traps :
    coreOn.inTrap 1 = false ∧ (coreOn.rbit dbgPage (dbgOff 1 0x100) 4 && coreOn.board.vccDbg) = false ∧
    (coreOn.creg 1 1 + (1 : BitVec 16).signExtend 32).toNat % 2 ≠ 0 ∧ Runs guardedCore 1 0 1 0 ∧
    (guardedCore.core 1).freeSlot = some 2 ∧ guardedCore.mpu 1 0 0x2000 0 (guardedCore.corePriv 1) = none ∧
    guardedCore.mpu 1 0 0x2000 1 (guardedCore.corePriv 1) = none ∧ Runs (crowded 9) 1 0 1 0 ∧
    ((crowded 9).core 1).freeCount = 1 ∧ ((crowded 9).core 1).freeSlot = some 11 ∧ Runs underWater 1 0 1 0 ∧
    underWater.wsp 1 0 ≠ underWater.wtop 1 0 :=
  ⟨by decide +kernel, by decide +kernel, by decide +kernel, runs_of_check (by decide +kernel) (by unfold Windows; decide +kernel),
   by decide +kernel, by decide +kernel, by decide +kernel, runs_of_check (by decide +kernel) (by unfold Windows; decide +kernel),
   by decide +kernel, by decide +kernel, runs_of_check (by decide +kernel) (by unfold Windows; decide +kernel), by decide +kernel⟩
theorem witness_handler :
    Runs inHandler 1 0 1 0 ∧ inHandler.inTrap 1 = true ∧
    inHandler.rbit (wdtPage 0) 0x40 2 = false ∧ (∀ d, d < 4 → d ≠ 1 → inHandler.coreRun d ≠ 1) ∧
    ((coreOn.setBit dbgPage (dbgOff 1 0x100) 4 true).rbit dbgPage (dbgOff 1 0x100) 4 &&
      (coreOn.setBit dbgPage (dbgOff 1 0x100) 4 true).board.vccDbg) = true ∧
    Runs (coreOn.setBit dbgPage (dbgOff 1 0x100) 4 true) 1 0 1 0 :=
  ⟨runs_of_check (by decide +kernel) (by unfold Windows; decide +kernel), by decide +kernel, by decide +kernel, by decide +kernel,
   by decide +kernel, runs_of_check (by decide +kernel) (by unfold Windows; decide +kernel)⟩
/-- XCAUSE and the handler of SVC 7 (Tables 16-12, 16-13). -/
theorem test_glc_svc : after (exec (.glcSvc 1 7) (coreOn.setReg (glcPage 1) 0x48 0x4000#32)) (fun t =>
    t.cpc 1 == 0x4090 && (t.core 1).xpc == 0x104 && (t.core 1).xcause == 0x00070009 && t.cst 1 == 0x10) = true := by decide +kernel

/-! Windows, tasks. -/

/-- Slot 2 is the only window of task 3, which is privileged and spills below 0x1000. -/
def spilling : State :=
  (onCore coreOn fun x => x.setSlot 2 { WSlot.free with valid := true, task := 3, age := 7 }).setReg (tskPage 1)
    (tskOff 3 0x10C) 0x1000#32 |>.setBit (tskPage 1) (tskOff 3 0x100) 8 true
def filling : State := underWater
theorem witness_windows :
    (∀ i, i < 12 → ((coreOn.core 1).slot i).valid = true → i ∈ coreOn.spillKept 1) ∧ Runs spilling 1 0 1 0 ∧
    ((spilling.core 1).slot 2).valid = true ∧ 2 ∉ spilling.spillKept 1 ∧
    (∀ j, j < 12 → ((spilling.core 1).slot j).valid = true → j ∉ spilling.spillKept 1 → j ≠ 2 →
      ((spilling.core 1).slot 2).age < ((spilling.core 1).slot j).age) ∧
    (spilling.core 1).bottomOf 3 = some 2 ∧ 80 ≤ spilling.wsp 1 3 ∧ spilling.wlim 1 3 ≤ spilling.wsp 1 3 - 80 ∧
    spilling.mpu 1 3 (0x1000 - 80) 1 (spilling.taskPriv 1 3 || ((3 : Nat) == 0 && spilling.inTrap 1)) = some bg ∧
    spilling.mpu 1 3 (0x1000 - 80 + 79) 1 (spilling.taskPriv 1 3 || ((3 : Nat) == 0 && spilling.inTrap 1)) = some bg ∧
    bg.cached = false :=
  ⟨by decide +kernel, runs_of_check (by decide +kernel) (by unfold Windows; decide +kernel), by decide +kernel, by decide +kernel,
   by decide +kernel, by decide +kernel, by decide +kernel, by decide +kernel, by decide +kernel, by decide +kernel, rfl⟩
theorem witness_fill :
    coreOn.wsp 1 0 = coreOn.wtop 1 0 ∧ Runs (crowded 10) 1 0 1 0 ∧ ((crowded 10).core 1).freeCount = 0 ∧ Runs filling 1 0 1 0 ∧
    (filling.core 1).freeSlot = some 2 ∧ filling.wsp 1 0 ≠ filling.wtop 1 0 ∧ (filling.core 1).bottomOf 0 = some 0 ∧
    filling.wsp 1 0 + 80 ≤ 0x100000 ∧ filling.mpu 1 0 (filling.wsp 1 0) 0 (filling.corePriv 1) = some bg :=
  ⟨by decide +kernel, runs_of_check (by decide +kernel) (by unfold Windows; decide +kernel), by decide +kernel,
   runs_of_check (by decide +kernel) (by unfold Windows; decide +kernel), by decide +kernel, by decide +kernel, by decide +kernel,
   by decide +kernel, by decide +kernel⟩

/-- A handler that has called: slot 0 is the interrupted window, slots 1 and 2 the handler's, slot 3 OUT (R380). -/
def deepHandler : State :=
  match execGlcSvc 1 7 (coreOn.setReg (glcPage 1) 0x48 0x4000#32) with
  | .next t => match execGlcCall 1 4 (t.setCpc 1 0x100#32) with
    | .next t => t
    | _ => t
  | _ => coreOn
theorem test_glc_spill_kept : deepHandler.spillKept 1 = [3, 2, 0] := by decide +kernel

/-- Task 15 is READY (or WAITING) with its windows in slots 2 and 3; slices are on. -/
def twoTasks (st prio : Nat) : State :=
  ((onCore coreOn fun x => (x.setSlot 2 { WSlot.free with valid := true, task := 15, age := 7 }).setSlot 3
    { WSlot.free with valid := true, task := 15, out := true, age := 8, below := some 2 }).setTaskState 1 15 st).setFld (tskPage 1)
    (tskOff 15 0x100) 16 4 prio |>.setFld (tskPage 1) 0x40 0 16 100
theorem witness_tasks :
    Runs (twoTasks 1 0) 1 0 1 0 ∧ (twoTasks 1 0).bestTask 1 = some 15 ∧ (twoTasks 1 0).taskPrio 1 15 = (twoTasks 1 0).taskPrio 1 0 ∧
    (twoTasks 1 0).inTrap 1 = false ∧ (twoTasks 1 0).reserved 1 = none ∧ ((twoTasks 1 0).core 1).outOf 15 ≠ none ∧
    (twoTasks 1 0).rfld (tskPage 1) 0x40 0 16 ≠ 0 ∧ coreOn.bestTask 1 = none ∧ locked.reserved 1 ≠ none :=
  ⟨runs_of_check (by decide +kernel) (by unfold Windows; decide +kernel), by decide +kernel, by decide +kernel, by decide +kernel,
   by decide +kernel, by decide +kernel, by decide +kernel, by decide +kernel, by decide +kernel⟩
def withEvents : State := (coreOn.setReg (tskPage 1) (tskOff 0 0x118) 6#32).setCreg 1 1 2#32
theorem witness_wait_signal :
    Runs withEvents 1 0 1 0 ∧ withEvents.reg (tskPage 1) (tskOff 0 0x118) &&& withEvents.creg 1 1 ≠ 0 ∧
    coreOn.reg (tskPage 1) (tskOff 0 0x118) &&& coreOn.creg 1 1 = 0 ∧
    ((coreOn.setCreg 1 1 0x3F1F#32).creg 1 1 &&& ~~~0x3F1F#32) = 0 ∧ (coreOn.setCreg 1 1 0x3F1F#32).taskState 3 15 ≠ 3 ∧
    Runs (coreOn.setCreg 1 1 0x3F1F#32) 1 0 1 0 :=
  ⟨runs_of_check (by decide +kernel) (by unfold Windows; decide +kernel), by decide +kernel, by decide +kernel, by decide +kernel,
   by decide +kernel, runs_of_check (by decide +kernel) (by unfold Windows; decide +kernel)⟩
/-- WAIT meets no event in a trap or a locked sequence; a switch that is due there comes with its end (R397). -/
def lockedTasks : State := (twoTasks 1 0).setResv 1 (some 5)
theorem witness_wait_held :
    inHandler.reg (tskPage 1) (tskOff 0 0x118) &&& inHandler.creg 1 1 = 0 ∧ inHandler.inTrap 1 = true ∧
    locked.reg (tskPage 1) (tskOff 0 0x118) &&& locked.creg 1 1 = 0 ∧ locked.reserved 1 ≠ none := by decide +kernel
theorem test_switch_due : after (exec (.sliceExpire 1) lockedTasks) (fun t =>
    (t.core 1).task == some 0 && after (exec (.glcStc 1 2 1 1 false) t) (fun u => (u.core 1).task == some 15)) = true := by
  decide +kernel
/-- s1 names the cached line. -/
def cleaning : State := (cachedAt true).setCreg 1 1 0x2000#32
/-- Task 0 as a user, with region 0 to run its program. -/
def userCore : State :=
  (guardedCore.setBit (tskPage 1) (tskOff 0 0x100) 8 false).setReg (glcPage 1) 0x108 0x00018004#32
theorem witness_caches :
    Runs cleaning 1 0 1 0 ∧ (cleaning.core 1).dfind ((cleaning.creg 1 1).toNat / 64) = some (line80 true) ∧
    (line80 true).dirty = true ∧ (line80 true).data.length = 64 ∧ (cleaning.creg 1 1).toNat < 0x100000 ∧
    coreOn.corePriv 1 = true ∧ Runs userCore 1 0 1 0 ∧ userCore.corePriv 1 = false ∧ (userCore.core 1).freeSlot = some 2 :=
  ⟨runs_of_check (by decide +kernel) (by unfold Windows; decide +kernel), by decide +kernel, by decide, by decide, by decide +kernel,
   by decide +kernel, runs_of_check (by decide +kernel) (by unfold Windows; decide +kernel), by decide +kernel, by decide +kernel⟩

def timerOn : State := State.reset.setTimer 3 15 ⟨1600, some 0⟩
def waiting3 : State := State.reset.setTaskState 3 15 3
theorem witness_task_events :
    NoCoreRuns timerOn ∧ (timerOn.timer 3 15).since ≠ none ∧ State.reset.taskState 3 15 = 0 ∧ bit 0x80000000#32 31 = true ∧
    waiting3.taskState 3 15 ≠ 0 ∧ (waiting3.core 3).task ≠ some 15 ∧ bit 0#32 31 = false ∧ NoCoreRuns waiting3 := by
  unfold NoCoreRuns; decide +kernel
def woken : State := onCore (twoTasks 3 1) fun x => { x with masks := [(15, 4#32)] }
theorem witness_takeover :
    Runs woken 1 0 1 0 ∧ woken.inTrap 1 = false ∧ woken.reserved 1 = none ∧ woken.taskState 1 15 = 3 ∧
    (woken.reg (tskPage 1) (tskOff 15 0x118) ||| 4#32) &&& tget (fun _ => 0) (woken.core 1).masks 15 ≠ 0 ∧
    woken.taskPrio 1 0 < woken.taskPrio 1 15 ∧ 15 ∈ (woken.core 1).order ∧ (woken.core 1).outOf 15 ≠ none :=
  ⟨runs_of_check (by decide +kernel) (by unfold Windows; decide +kernel), by decide +kernel, by decide +kernel, by decide +kernel,
   by decide +kernel, by decide +kernel, by decide +kernel, by decide +kernel⟩
theorem witness_core_reset :
    (coreOn.core 1).haltAsk = false ∧ isDebug 0x77 0x3F = true ∧ (coreOf 0x46 0x39 = some 3 ∧ 3 ≠ (1 : Fin 4).val) ∧ coreOf 0x45 0x31 = some (1 : Fin 4).val := by
  decide +kernel
/-- An access of core 1 to the first bank is outstanding; and the same with the bank under test. -/
def onBus (n : Nat) : State := onCore apertured fun x => { x with bus := some (bankAt, n) }
def underTestBank : State := (onBus 62).setBit (bankPage 0) 0x0C 5 true
theorem witness_bus :
    ((onBus 0).core 1).bus = some (bankAt, 0) ∧ (onBus 0).coreTarget 1 bankAt = .aperture (bankBase 0) ∧
    (onBus 0).heldAt ⟨coreNode 1, (onBus 0).corePort 1, false⟩ (bankBase 0 - bankBase 0 % 4) = none ∧
    (onBus 0).busStatus ⟨coreNode 1, (onBus 0).corePort 1, false⟩ (bankBase 0 - bankBase 0 % 4) 4 false ≠ stUnderTest ∧
    (underTestBank.core 1).bus = some (bankAt, 62) ∧ underTestBank.coreTarget 1 bankAt = .aperture (bankBase 0) ∧
    underTestBank.heldAt ⟨coreNode 1, underTestBank.corePort 1, false⟩ (bankBase 0 - bankBase 0 % 4) = none ∧
    underTestBank.busStatus ⟨coreNode 1, underTestBank.corePort 1, false⟩ (bankBase 0 - bankBase 0 % 4) 4 false = stUnderTest := by
  decide +kernel
/-- The bank's handover is pending; sail 1 is isolated, across which the answer of sail 2 would come. -/
def heldBus : State := (onBus 0).setReg (bankPage 0) 0x34 0x80000010#32
def cutBus : State :=
  { onCore (aperturedTo (bankBase 96)) (fun x => { x with bus := some (shownAt (bankBase 96), 0) }) with isolated := 2#9 }
theorem witness_bus_away :
    (heldBus.core 1).bus = some (bankAt, 0) ∧ heldBus.coreTarget 1 bankAt = .aperture (bankBase 0) ∧
    heldBus.heldAt ⟨coreNode 1, heldBus.corePort 1, false⟩ (bankBase 0 - bankBase 0 % 4) ≠ none ∧
    (cutBus.core 1).bus = some (shownAt (bankBase 96), 0) ∧
    cutBus.coreTarget 1 (shownAt (bankBase 96)) = .aperture (bankBase 96) ∧
    cutBus.seen (coreNode 1) (bankBase 96) 4
      (cutBus.busStatus ⟨coreNode 1, cutBus.corePort 1, false⟩ (bankBase 96) 4 false) = 0xF ∧
    (onBus 0).seen (coreNode 1) (bankBase 0) 4
      ((onBus 0).busStatus ⟨coreNode 1, (onBus 0).corePort 1, false⟩ (bankBase 0) 4 false) ≠ 0xF ∧
    underTestBank.seen (coreNode 1) (bankBase 0) 4 stUnderTest ≠ 0xF := by decide +kernel
theorem witness_bus_timeout : ((onBus 0).core 1).task = some 0 ∧ Windows ((onBus 0).core 1) 0 1 0 ∧
    ((onBus 0).core 1).freeSlot = some 2 ∧ (onBus 0).inTrap 1 = false ∧ (∀ d, d < 4 → (onBus 0).steady d) := by
  refine ⟨by decide +kernel, by unfold Windows; decide +kernel, by decide +kernel, by decide +kernel, fun d hd => ?_⟩
  by_cases e : d = 1
  · subst e
    have h : (onBus 0).bestTask 1 = none := by decide +kernel
    exact .inr ⟨by decide +kernel, by decide +kernel, .inl ⟨0, by decide +kernel, by decide +kernel, by decide +kernel, fun u hu => by rw [h] at hu; cases hu⟩⟩
  · have : ∀ d, d < 4 → d ≠ 1 → (onBus 0).coreRun d ≠ 1 := by decide +kernel
    exact .inl (this d hd e)
def forcing : State := onCore locked fun x => { x with haltAsk := true }
theorem witness_lock_force :
    forcing.reserved 1 ≠ none ∧ (forcing.core 1).haltAsk = true ∧ forcing.coreRun 1 = 1 ∧ (forcing.core 1).stepping = false := by
  decide +kernel

theorem witness_reset_halting : isDebug 0x77 0x3E = true ∧ (forcing.core 1).haltAsk = true ∧ forcing.coreRun 1 = 1 := by
  decide +kernel
/-- A step ends with its instruction, not before (R470). -/
theorem test_step : after (exec (.tskEvpendWrite 1 3 1) (onCore coreOn fun x => { x with stepping := true })) (fun t =>
    t.coreRun 1 == 1 && after (exec (.glcFence 1) t) (fun u => u.coreRun 1 == 2 && u.cpc 1 == 0x104)) = true := by decide +kernel

/-! Watchdogs. -/

/-- Core 3's watchdog on with ACTION 0 or 1; no core runs. -/
def watched (action : Nat) : State :=
  ((State.reset.setReg (wdtPage 3) (wdtOff 3 0x100) (BitVec.ofNat 32 (1 + 4 * action))).setReg (wdtPage 3) (wdtOff 3 0x104) 50#32).setCore 3
    { Core.reset with wdt := ⟨1600, some 0⟩ }
theorem witness_watchdog :
    (watched 0).rbit (wdtPage 3) (wdtOff 3 0x100) 0 = true ∧ (∀ d, d < 4 → (watched 0).coreRun d ≠ 1) ∧
    ((watched 0).core 3).wdt.since = some 0 ∧ (watched 0).rbit (wdtPage 3) (wdtOff 3 0x100) 2 = false ∧
    (watched 1).rbit (wdtPage 3) (wdtOff 3 0x100) 2 = true ∧ (watched 1).rbit (wdtPage 0) 0x40 2 = false ∧
    (watched 1).coreRun 3 ≠ 3 ∧ (watched 1).rbit (wdtPage 3) (wdtOff 3 0x100) 0 = true ∧
    ((watched 1).core 3).wdt.since ≠ none ∧ (∀ d, d < 4 → d ≠ 3 → (watched 1).coreRun d ≠ 1) := by decide +kernel
theorem witness_watchdog_off : State.reset.rbit (wdtPage 3) (wdtOff 3 0x100) 0 = false ∧
    State.reset.rbit (wdtPage 3) (wdtOff 3 0x100) 2 = false ∧ (∀ d, d < 4 → State.reset.coreRun d ≠ 1) := by decide +kernel
theorem witness_watchdog_steady : ∀ d, d < 4 → (watched 0).steady d := fun d hd => .inl (witness_watchdog.2.1 d hd)
/-- A SYNC word (Table 4-2). -/
def syncWord : SWord := mkWord 0x1B#6 0
def fabOn (brake : Bool) : State :=
  { (State.reset.setBit (wdtPage 0) 0x50 0 true).setBit (wdtPage 0) 0x50 1 brake with fabWdt := ⟨9, some 0⟩ }
def pkgOn : State := { State.reset.setBit (wdtPage 0) 0x40 0 true with pkgWdt := ⟨9, some 0⟩ }
theorem witness_watchdogs_package :
    SWord.isIdle syncWord = false ∧ SWord.kind syncWord = 3#2 ∧ SWord.arg syncWord = 3#3 ∧ SWord.isIdle (mkWord 0 0) = false ∧
    SWord.kind (mkWord 0 0) ≠ 3#2 ∧ (fabOn false).rbit (wdtPage 0) 0x50 0 = true ∧ (fabOn false).fabWdt.since ≠ none ∧ (fabOn false).rbit (wdtPage 0) 0x50 1 = false ∧
    (fabOn true).rbit (wdtPage 0) 0x50 1 = true ∧ (fabOn true).fabWdt.since ≠ none ∧
    ({ twinIn 1 with fabWdt := ⟨9, some 0⟩ } : State).role ≠ 0 ∧ pkgOn.rbit (wdtPage 0) 0x40 0 = true ∧ pkgOn.pkgWdt.since ≠ none := by
  decide +kernel

/-! The register reference (20_register_reference) and the trace buffer. -/

/-- The debug master, and core 3 as it stands at node 0x46. -/
def dbgm : Who := ⟨0x77, 0x3F, false⟩
def peeking : Who := ⟨0x77, 0x3E, false⟩
def core3 : Who := ⟨0x46, 0x39, false⟩
/-- The dies run and the gates of the blocks are open; ETH, UART and the trace buffer are on. -/
def gatesOn : State := [ethPage, uartPage, dmaPage, dbgPage, trcPage].foldl (fun s p => s.setGate (pageNode p) gateOpen) fwd
def capOn : State := ((gatesOn.setBit ethPage 0x08 0 true).setBit uartPage 0x08 0 true).setBit trcPage 0x08 0 true
def capLocked : State := capOn.setBit ethPage 0x30 0 true
theorem witness_reaches :
    (∀ off ∈ [0x08, 0x14, 0x18, 0x2C, 0x30], ∀ p ∈ [ethPage, uartPage, dmaPage, bankPage 767], Reaches capOn core3 p off ∧
      Reaches capOn dbgm p off) ∧ Reaches capLocked core3 ethPage 0x14 ∧ Reaches capOn dbgm dbgPage 0x30 := by
  unfold Reaches NoCoreRuns; decide +kernel
theorem witness_header_writes :
    capOn.rbit ethPage 0x30 0 = false ∧ capLocked.rbit ethPage 0x30 0 = true ∧
    (∀ p ∈ [ethPage, uartPage, dmaPage, bankPage 767], capOn.failedBlock p = false) ∧ enKind ethPage ≠ .fixed ∧
    enKind (bankPage 767) ≠ .free ∧ capOn.enabledPage ethPage = true ∧ capOn.enabledPage uartPage = true ∧
    capOn.rbit (bankPage 767) 0x0C 4 = false ∧ capOn.rbit (bankPage 767) 0x40 16 = false ∧ capOn.bankPending 767 = false ∧
    capOn.underTest (bankPage 767) = false ∧ capOn.bankSecure 767 = false ∧ capOn.bankPower 767 ≠ 2 ∧
    capOn.bankPower 767 = 0 ∧ (capOn.setFld (bankPage 767) 0x40 8 2 2).bankPower 767 ≠ 0 := by decide +kernel
/-- A 1 written to EVT_PEND clears the event, whether EVT_EN has it or not; a 0 keeps it (Table 20-2). -/
theorem test_evt_pend : after (exec (.evtPendClear ethPage 1 0x46 0x39) ((capOn.setReg ethPage 0x10 3).setReg ethPage 0x14 2))
    (fun t => t.reg ethPage 0x10 == 2) = true := by decide +kernel
/-- The debug master and a core read FRM_RX of MAC 7; its page is on, and one that is off. -/
theorem witness_register_reads :
    Reaches capOn dbgm ethPage (0x2DC#12).toNat ∧ isRC ethPage (0x2DC#12).toNat = true ∧ capOn.enabledPage ethPage = true ∧
    Reaches capOn peeking ethPage (0x2DC#12).toNat ∧ peeking.quiet = true ∧ dbgm.quiet = false ∧
    gatesOn.enabledPage ethPage = false ∧ Reaches gatesOn core3 ethPage (0x40#12).toNat ∧
    (BitVec.ofNat 48 (regAddr ⟨.prb, 0⟩ 0x44)).toNat = regAddr ⟨.prb, 0⟩ 0x44 ∧
    Reaches capOn core3 ⟨.prb, 0⟩ 0x44 ∧ rwMask ⟨.prb, 0⟩ 0x44 ≠ 0 ∧ capOn.enabledPage ⟨.prb, 0⟩ = true ∧
    State.reset.busStatus dbgm 0xFE0000000000 4 true ≠ 0 := by
  unfold Reaches NoCoreRuns; decide +kernel
theorem witness_register_memory :
    let s := State.reset.setGate 0x47 gateOpen
    NoCoreRuns s ∧ isRegAddr sramBase = false ∧ s.busStatus core3 sramBase 4 true = 0 ∧
    (s.memWrite sramBase (wordBytes 5)).2 = 0 ∧ s.seen core3.node sramBase 4 0 = 0 ∧ windowOf sramBase 4 = .sram := by
  unfold NoCoreRuns; decide +kernel
/-- The gate of ETH's endpoint has opened before; bank and region pages where a power request or a reset is taken. -/
theorem witness_header_frames :
    isCapNode (pageNode ethPage) = true ∧ ((capOn.setRouter (pageNode ethPage) { Router.reset with opened := true }).router
      (pageNode ethPage)).opened = true ∧ isCapNode (pageNode (bankPage 767)) = false ∧ capOn.underTest (rgnPage 127) = false ∧
    Reaches capOn core3 (rgnPage 127) 0x08 ∧ capOn.failedBlock (rgnPage 127) = false := by
  unfold Reaches NoCoreRuns; decide +kernel
theorem test_read_clears : after (exec (.regReadClear ethPage 0x2DC 0x77 0x3F) (capOn.setReg ethPage 0x2DC 9)) (fun t =>
    t.answer == [9] && t.reg ethPage 0x2DC == 0) = true := by decide +kernel

/-- The trace buffer on, with an owner; with STOP and a record where WPTR points. -/
def owner3 : Nat := ownerCode 0x46 0x39
def traced : State :=
  match execTrcClaim 0x46 0x39 capOn with
  | .next t => t.setBit trcPage 0x44 0 true
  | _ => capOn
def traceFull : State := { traced.setBit trcPage 0x44 1 true with trace := [(0, [7])] }
theorem witness_trace :
    capOn.trcOwner = none ∧ capOn.trcServes = true ∧ traced.trcOwner = some owner3 ∧
    owner3 ≠ ownerCode (0x77 : BitVec 8).toNat (0x3F : BitVec 6).toNat ∧ traced.trcServes = true ∧ traced.rbit trcPage 0x44 0 = true ∧
    traced.rbit trcPage 0x44 1 = false ∧ traceFull.rbit trcPage 0x44 1 = true ∧ traceFull.traceHeld (traceFull.rfld trcPage 0x48 0 16) = true ∧
    State.reset.trcServes = false ∧ capOn.rbit trcPage 0x44 0 = false := by decide +kernel
/-- STOP, WPTR at the last place, the first place taken: the record fills the buffer. -/
def traceLast : State := { (traced.setBit trcPage 0x44 1 true).setFld trcPage 0x48 0 16 65535 with trace := [(0, [7])] }
theorem witness_trace_full :
    traceLast.trcServes = true ∧ traceLast.rbit trcPage 0x44 0 = true ∧ traceLast.trcOwner ≠ none ∧
    traceLast.rfld trcPage 0x48 0 16 = 65535 ∧ traceLast.traceHeld 65535 = false ∧ traceLast.traceHeld ((65535 + 1) % 65536) = true := by
  decide +kernel
theorem test_trace_full : after (exec (.traceRecordRx (Vector.replicate 32 1)) traceLast) (fun t => t.rbit trcPage 0x10 0) = true := by
  decide +kernel
theorem witness_trace_data :
    (∀ w, w < 8 → Reaches capOn core3 trcPage (0x50 + 4 * w)) ∧ capOn.enabledPage trcPage = true ∧ core3.quiet = false ∧
    peeking.quiet = true ∧ Reaches capOn peeking trcPage 0x6C := by unfold Reaches NoCoreRuns; decide +kernel
/-- RDATA[7] of a record, and RADDR at its end (R474). -/
theorem test_trace_read : after (exec (.trcRdataRead false) ({ traced.setFld trcPage 0x4C 0 16 65535 with
      trace := [(65535, List.replicate 28 0 ++ [1, 2, 3, 4])] } : State)) (fun t =>
    t.answer == [0x04030201] && t.rfld trcPage 0x4C 0 16 == 0) = true := by decide +kernel

/-! The whole device. -/

/-- Nothing waits and all is quiet, before the package is released and after. -/
theorem witness_idle :
    State.reset.pending = [] ∧ State.reset.releasedTo 0 ≠ 3 ∧ State.reset.loader.memAt = none ∧
    State.reset.loader.waiting = false ∧ fwd.pending = [] ∧ fwd.releasedTo 0 = 3 ∧ fwd.loader.memAt = none ∧
    fwd.loader.waiting = false := by decide +kernel
theorem witness_idle_cores : ∀ c, c < 4 → State.reset.coreRun c = 1 → (State.reset.core c).task ≠ none := by decide +kernel
theorem test_tap_registers : idcode 0 = 0x0816056F#32 ∧ idcode 6 = 0x0816856F#32 ∧
    ({ Debug.reset with busy := true, dstatus := 8#4 } : Debug).captured = 0x600000#23 ++ 0#64 := by decide +kernel
theorem witness_idle_quiet : (∀ n o, State.reset.outNow n o = none) ∧ ∀ n o, fwd.outNow n o = none := by
  constructor <;> intro n o <;> simp only [State.outNow] <;> split <;> rfl
/-- A step on an empty queue is a tick. -/
theorem witness_step : step State.reset = .next State.reset.tick := rfl
theorem witness_inv : State.reset.Inv := by unfold State.Inv; decide +kernel
theorem witness_fault : exec (.cellMac c0 f0) State.reset = .fault .cellEncoding := rfl

/-- Live and strapped fields: link 11 at sail 1 and at sail 8 (Tables 1-3, 11-12), banks 1 and 2 of sail 1 (Table 10-8),
TWIN_ID (Table 15-11), an open pair of a channel in ABZ mode (R209). -/
theorem test_live_fields :
    State.reset.blockValue (fvlPage 11 1) 0x40 = 0x0008003B#32 ∧ State.reset.blockValue (fvlPage 11 8) 0x40 = 0x0001002B#32 ∧
    State.reset.blockValue (bankPage 1) 0x48 = 2 ∧ State.reset.blockValue (bankPage 2) 0x48 = 0 ∧
    ({ State.reset with board := { State.reset.board with twinId := true } } : State).blockValue twnPage 0x44 = 0x800#32 ∧
    ((State.reset.setReg encPage 0x2C0 1).lineFault 7 2).blockValue encPage 0x2D4 = 0 ∧
    State.reset.blockValue encPage 0x2D4 = 1 := by decide +kernel
/-- FILT of a channel that feeds an axis in WAIT_REF keeps its value (R235); of an enabled trigger PITCH,
WIDTH and MINGAP do not change (R233). -/
def fed : State := (State.reset.setReg encPage 0x2C0 1).axCtrlWrite 3 0x701#32
theorem test_frozen_fields :
    fed.axState 3 = 1 ∧ (fed.encWrite encPage 0x2C0 0x71#32).1.encFilt 7 = 0 ∧
    (fed.encWrite encPage 0x2C0 0x71#32).1.rbit govPage 0x10 4 = true ∧
    (fed.encWrite encPage 0x280 0x71#32).1.encFilt 6 = 7 ∧
    (ltOn.govWrite govPage (ltOff 7 0x204) 5).1.ltPitch 7 = ltOn.ltPitch 7 ∧
    (ltOn.govWrite govPage (ltOff 7 0x20C) 0x50006#32).1.reg govPage (ltOff 7 0x20C) = 0x64#32 := by decide +kernel

end Sys2Proof.Tests
end

section
/-! PROOFS. One instruction of a Glaette core where nothing is due at a boundary (R388, R395, R403), and from it the
branches (Table 16-8). -/

namespace Sys2Proof.Proofs.CoreFlow

open Sys2Proof Sys2Proof.Machine Sys2Proof.Laws

variable {s u v : State} {c d t o w : Nat}

/-! Reading a core after a write. -/

@[simp] theorem core_setCore_self (s : State) (c : Nat) (x : Core) : (s.setCore c x).core c = x :=
  tget_tset_self _ _ _ _

theorem core_setCore_ne (s : State) (x : Core) (h : d ≠ c) : (s.setCore c x).core d = s.core d :=
  tget_tset_ne _ _ _ _ _ h

@[simp] theorem cpc_setCpc (s : State) (c : Nat) (a : Word) : (s.setCpc c a).cpc c = a := by
  simp [State.cpc, State.setCpc]

@[simp] theorem cst_setCpc (s : State) (c : Nat) (a : Word) : (s.setCpc c a).cst c = s.cst c := by
  simp [State.cst, State.setCpc]

/-- ST with MACT and MIDX cleared. -/
def withoutMact (st : Word) : Word := st &&& ~~~0x3F00#32

@[simp] theorem cst_clearMact (s : State) (c : Nat) : (s.clearMact c).cst c = withoutMact (s.cst c) := by
  simp [State.cst, State.clearMact, State.setCst, withoutMact]

@[simp] theorem cpc_clearMact (s : State) (c : Nat) : (s.clearMact c).cpc c = s.cpc c := by
  simp [State.cpc, State.clearMact, State.setCst]

/-! The part of the state that an instruction without result or access touches. -/

/-- `u` is `s` but for PC, ST and the instruction cache of core c. -/
structure Moved (c : Nat) (s u : State) : Prop where
  own : ∃ pc st ic, u.core c = { s.core c with pc := pc, st := st, icache := ic }
  others : ∀ d, d ≠ c → u.core d = s.core d
  only : Only [.cores] s u

theorem moved_setCore (s : State) (c : Nat) (pc st : Word) (ic : Tbl (List Nat)) :
    Moved c s (s.setCore c { s.core c with pc := pc, st := st, icache := ic }) :=
  ⟨⟨pc, st, ic, core_setCore_self _ _ _⟩, fun _ h => core_setCore_ne s _ h, only_cores s _ (by simp)⟩

theorem moved_refl (c : Nat) (s : State) : Moved c s s :=
  ⟨⟨_, _, _, rfl⟩, fun _ _ => rfl, only_refl _ s⟩

theorem Moved.trans (h : Moved c s u) (h' : Moved c u v) : Moved c s v := by
  obtain ⟨⟨_, _, _, hc⟩, hd, ho⟩ := h
  obtain ⟨⟨pc, st, ic, hc'⟩, hd', ho'⟩ := h'
  exact ⟨⟨pc, st, ic, by rw [hc', hc]⟩, fun d hne => (hd' d hne).trans (hd d hne), only_trans ho ho'⟩

theorem moved_setCpc (s : State) (c : Nat) (a : Word) : Moved c s (s.setCpc c a) := moved_setCore s c a _ _

theorem moved_clearMact (s : State) (c : Nat) : Moved c s (s.clearMact c) := moved_setCore s c _ _ _

theorem fetchLine_cases (s : State) (c : Nat) :
    s.fetchLine c = s ∨ s.fetchLine c = s.icacheIn c (s.cpc c).toNat := by
  simp only [State.fetchLine]
  split
  · split
    · exact .inr rfl
    · exact .inl rfl
  · exact .inl rfl

theorem moved_fetchLine (s : State) (c : Nat) : Moved c s (s.fetchLine c) := by
  rcases fetchLine_cases s c with h | h
  · rw [h]; exact moved_refl c s
  · rw [h]; exact moved_setCore s c _ _ _

@[simp] theorem cpc_fetchLine (s : State) (c : Nat) : (s.fetchLine c).cpc c = s.cpc c := by
  rcases fetchLine_cases s c with h | h <;> simp [h, State.cpc, State.icacheIn]

@[simp] theorem cst_fetchLine (s : State) (c : Nat) : (s.fetchLine c).cst c = s.cst c := by
  rcases fetchLine_cases s c with h | h <;> simp [h, State.cst, State.icacheIn]

/-! What such a change keeps. -/

theorem Moved.regs (h : Moved c s u) : u.regs = s.regs := h.only .regs (by decide)

theorem Moved.reg (h : Moved c s u) (p : Page) (off : Nat) : u.reg p off = s.reg p off := by
  unfold State.reg; rw [h.regs]

theorem Moved.coreRun (h : Moved c s u) (d : Nat) : u.coreRun d = s.coreRun d := by
  unfold State.coreRun State.rfld; rw [h.reg]

theorem Moved.taskState (h : Moved c s u) (d t : Nat) : u.taskState d t = s.taskState d t := by
  unfold State.taskState State.rfld; rw [h.reg]

theorem Moved.taskPrio (h : Moved c s u) (d t : Nat) : u.taskPrio d t = s.taskPrio d t := by
  unfold State.taskPrio State.rfld; rw [h.reg]

/-- Every core, core c too, is as it was but for PC, ST and the instruction cache. -/
theorem Moved.core (h : Moved c s u) (d : Nat) :
    ∃ pc st ic, u.core d = { s.core d with pc := pc, st := st, icache := ic } := by
  by_cases hd : d = c
  · exact hd ▸ h.own
  · exact ⟨_, _, _, h.others d hd⟩

theorem Moved.bestTask (h : Moved c s u) (d : Nat) : u.bestTask d = s.bestTask d := by
  obtain ⟨_, _, _, hd⟩ := h.core d
  unfold State.bestTask
  simp only [hd, h.taskState, h.taskPrio]

theorem Moved.keepsTask (h : Moved c s u) (hk : s.keepsTask d) : u.keepsTask d := by
  obtain ⟨_, _, _, hd⟩ := h.core d
  simpa only [State.keepsTask, hd, h.taskState, h.taskPrio, h.bestTask] using hk

theorem setBit_eq_self_iff (s : State) (p : Page) (off i : Nat) (b : Bool) :
    s.setBit p off i b = s ↔
      tset resetOfKey s.regs (regKey p off) (putFld (s.reg p off) i 1 (b2n b)) = s.regs :=
  ⟨fun h => congrArg State.regs h, fun h => congrArg (fun r => { s with regs := r }) h⟩

theorem Moved.steady (h : Moved c s u) (hs : s.steady d) : u.steady d := by
  obtain ⟨_, _, _, hd⟩ := h.core d
  rcases hs with hrun | ⟨hstep, hhalt, hk | ⟨ht, hb, hidle⟩⟩
  · exact .inl (by rwa [h.coreRun])
  · exact .inr ⟨by simpa only [hd], by simpa only [hd], .inl (h.keepsTask hk)⟩
  · refine .inr ⟨by simpa only [hd], by simpa only [hd], .inr ⟨by simpa only [hd], by rwa [h.bestTask], ?_⟩⟩
    rwa [setBit_eq_self_iff, h.regs, h.reg, ← setBit_eq_self_iff]

theorem Moved.creg (h : Moved c s u) (r : BitVec 5) : u.creg c r = s.creg c r := by
  obtain ⟨_, _, _, hc⟩ := h.own
  unfold State.creg
  rw [hc]
  rfl

theorem Moved.coreFrame (h : Moved c s u) (o w : Nat) : CoreFrame c o w [] s u := by
  obtain ⟨_, _, _, hc⟩ := h.own
  exact ⟨fun r _ => h.creg r, h.others, by rw [hc], fun i _ _ => by rw [hc]; rfl, fun i => by rw [hc]; rfl⟩

/-! Boundaries where nothing is due (R403). -/

theorem schedule_keepsTask (hk : s.keepsTask d) (n : Nat) : s.schedule d n = s := by
  obtain ⟨t, ht, hst, hdue, hbest⟩ := hk
  cases n with
  | zero => rfl
  | succ n =>
    simp only [State.schedule, ht, hst, hdue]
    cases hb : s.bestTask d with
    | none => simp [hb]
    | some b => simp [hb, Nat.not_lt.mpr (hbest b hb)]

theorem schedule_idle (ht : (s.core d).task = none) (hb : s.bestTask d = none)
    (hidle : s.setBit (glcPage d) 0x44 16 true = s) (n : Nat) : s.schedule d n = s := by
  cases n with
  | zero => rfl
  | succ n => simp [State.schedule, ht, hb, hidle]

theorem boundary_steady (hs : s.steady d) : s.boundary d = s := by
  unfold State.boundary
  rcases hs with hrun | ⟨_, hhalt, hk | ⟨ht, hb, hidle⟩⟩
  · simp [hrun]
  · simp [hhalt, schedule_keepsTask hk]
  · simp [hhalt, schedule_idle ht hb hidle]

theorem allBoundaries_steady (hs : ∀ d, d < 4 → s.steady d) : s.allBoundaries = s := by
  simp [State.allBoundaries, List.range_succ, boundary_steady (hs 0 _), boundary_steady (hs 1 _),
    boundary_steady (hs 2 _), boundary_steady (hs 3 _)]

theorem stepEnd_steady (hs : s.steady d) : s.stepEnd d = s := by
  unfold State.stepEnd
  rcases hs with hrun | ⟨hstep, _⟩
  · simp [hrun]
  · simp [hstep]

/-! One instruction. -/

/-- The state in which an instruction other than LDM and STM does its work: its line fetched, MACT cleared (R395). -/
def fetched (s : State) (c : Nat) : State := (s.fetchLine c).clearMact c

theorem moved_fetched (s : State) (c : Nat) : Moved c s (fetched s c) :=
  (moved_fetchLine s c).trans (moved_clearMact _ c)

@[simp] theorem cpc_fetched (s : State) (c : Nat) : (fetched s c).cpc c = s.cpc c := by simp [fetched]

@[simp] theorem cst_fetched (s : State) (c : Nat) : (fetched s c).cst c = withoutMact (s.cst c) := by
  simp [fetched]

theorem coreRun_of_coreReady (h : s.coreReady c = true) : s.coreRun c = 1 := by
  simp only [State.coreReady, Bool.and_eq_true, beq_iff_eq] at h
  obtain ⟨⟨⟨⟨hrun, _⟩, _⟩, _⟩, _⟩ := h
  exact hrun

theorem Moved.stillRuns (h : Moved c s u) (hr : Runs s c t o w) : u.stillRuns c (some t) = true := by
  obtain ⟨_, _, _, hc⟩ := h.own
  obtain ⟨hready, _, _, _, _, htask, _⟩ := hr
  simp [State.stillRuns, h.coreRun, coreRun_of_coreReady hready, hc, htask]

theorem instr_eq (h : Runs s c t o w) (body : State → State × Eff) :
    s.instr c false body =
      (((body (fetched s c)).1.finish c (some t) (s.cpc c) (body (fetched s c)).2).stepEnd c).allBoundaries := by
  obtain ⟨hready, hbreak, htrap, _, _, htask, _⟩ := h
  simp [State.instr, hready, hbreak, htrap, htask, fetched]

/-- An instruction whose only effect is where it goes on: at its target where `taken` holds, else at PC + 4. -/
theorem instr_branch (h : Runs s c t o w) (hc : c < 4) {body : State → State × Eff} {taken : Bool} {target : Word}
    (hb : body (fetched s c) = (fetched s c, if taken = true then .jump target else .next)) :
    s.instr c false body = (fetched s c).setCpc c (if taken = true then target else s.cpc c + 4) := by
  have hfin : (fetched s c).finish c (some t) (s.cpc c) (if taken = true then .jump target else .next) =
      (fetched s c).setCpc c (if taken = true then target else s.cpc c + 4) := by
    simp only [State.finish, (moved_fetched s c).stillRuns h]
    cases taken <;> rfl
  have hsteady : ∀ d, d < 4 →
      ((fetched s c).setCpc c (if taken = true then target else s.cpc c + 4)).steady d := by
    obtain ⟨_, _, _, hs, _⟩ := h
    exact fun d hd => ((moved_fetched s c).trans (moved_setCpc _ c _)).steady (hs d hd)
  rw [instr_eq h, hb, hfin, stepEnd_steady (hsteady c hc), allBoundaries_steady hsteady]

/-! ST and the conditions. -/

theorem bit_withoutMact (st : Word) {i : Nat} (hi : i < 32) :
    bit (withoutMact st) i = (bit st i && !(decide (8 ≤ i) && decide (i < 14))) := by
  have hmask : ∀ i, i < 32 → (~~~0x3F00#32).getLsbD i = !(decide (8 ≤ i) && decide (i < 14)) := by decide
  rw [bit, withoutMact, BitVec.getLsbD_and, hmask i hi, bit]

theorem stAfter_withoutMact (st : Word) : StAfter st (withoutMact st) 0 [] := fun i hi => by
  simpa using bit_withoutMact st hi

/-- Row by row, the model's conditions are those of Table 16-8. -/
theorem branchTaken_eq_condOf (st : Word) (cond : Fin 15) :
    branchTaken st cond.val = (condOf (bit st 0) (bit st 1) (bit st 2) (bit st 3)).getD cond.val false := by
  match cond with
  | 0 | 1 | 2 | 3 | 4 | 5 | 6 | 7 | 8 | 9 | 10 | 11 | 12 | 13 | 14 => rfl

/-- MACT and MIDX are no flags: a condition does not see them cleared. -/
theorem branchTaken_withoutMact (st : Word) (cond : Nat) :
    branchTaken (withoutMact st) cond = branchTaken st cond := by
  simp [branchTaken, bit_withoutMact]

/-! Branches (R388). -/

/-- PC + 4, or the target where the branch's condition holds. -/
def branchPc (s : State) (c : Nat) (cond : Fin 15) (disp : BitVec 22) : Word :=
  if branchTaken (s.cst c) cond.val = true then relTarget (s.cpc c) disp.toInt else s.cpc c + 4

theorem exec_glcB {c : Fin 4} (h : Runs s c.val t o w) (cond : Fin 15) (disp : BitVec 22) :
    exec (.glcB c cond disp) s = .next ((fetched s c.val).setCpc c.val (branchPc s c.val cond disp)) :=
  congrArg Host.Outcome.next <| instr_branch h c.isLt <| by
    simp only [cst_fetched, cpc_fetched, branchTaken_withoutMact]

/-- Condition code 15 under the branches' OP is reserved (R389). -/
theorem glcIllegal_of_cond15 {word : Word} (hop : fld word 26 6 = 0x20) (hcond : fld word 22 4 = 15) :
    glcIllegal word = true := by
  simp [glcIllegal, hop, hcond]

theorem toNat_branchWord (cond : BitVec 4) (disp : BitVec 22) :
    (0x20#6 ++ cond ++ disp).toNat = 0x20 * 2 ^ 26 + cond.toNat * 2 ^ 22 + disp.toNat := by
  rw [BitVec.toNat_append, BitVec.toNat_append, ← Nat.shiftLeft_add_eq_or_of_lt disp.isLt,
    ← Nat.shiftLeft_add_eq_or_of_lt cond.isLt, Nat.shiftLeft_eq, Nat.shiftLeft_eq, BitVec.toNat_ofNat]
  omega

theorem fld_branchWord_op (cond : BitVec 4) (disp : BitVec 22) : fld (0x20#6 ++ cond ++ disp) 26 6 = 0x20 := by
  rw [fld, toNat_branchWord]
  omega

theorem fld_branchWord_cond (cond : BitVec 4) (disp : BitVec 22) :
    fld (0x20#6 ++ cond ++ disp) 22 4 = cond.toNat := by
  rw [fld, toNat_branchWord]
  omega

/-- Settles O49: the branch's state is the fetched one with its PC set, and Table 16-8 is met row by row. -/
theorem branchConditions : Obligations.BranchConditions := by
  refine ⟨fun s c t o w h cond disp => ⟨_, exec_glcB h cond disp, ?_, ?_, ?_⟩,
    fun disp => glcIllegal_of_cond15 (fld_branchWord_op 15#4 disp) (fld_branchWord_cond 15#4 disp)⟩
  · rw [cpc_setCpc, branchPc, branchTaken_eq_condOf]
    rfl
  · rw [cst_setCpc, cst_fetched]
    exact stAfter_withoutMact _
  · have hmoved := (moved_fetched s c.val).trans (moved_setCpc _ c.val (branchPc s c.val cond disp))
    exact ⟨hmoved.coreFrame o w, hmoved.only⟩

end Sys2Proof.Proofs.CoreFlow
end

section
/-! PROOFS. A read of a register page by an initiator that reaches it (R17, R478, R479). -/

namespace Sys2Proof.Proofs.PageRead

open Sys2Proof Sys2Proof.Machine Sys2Proof.Laws Sys2Proof.Proofs.CoreFlow

variable {s t : State} {p : Page} {off : Nat} {who : Who} {ks : List Nat}

/-! Frames of registers. -/

theorem regsBut_setReg (s : State) (v : Word) (h : regKey p off ∈ ks) : RegsBut ks s (s.setReg p off v) :=
  fun k hk => (regs_setReg s p off k v).trans (if_neg (ne_of_mem_of_not_mem h hk).symm)

theorem reg_eq_of_regsBut (h : RegsBut ks s t) (hk : regKey p off ∉ ks) : t.reg p off = s.reg p off :=
  h (regKey p off) hk

theorem only_reply (s : State) (st : Nat) (ws : List Word) : Only [.status, .answer] s (s.reply st ws) :=
  only_trans (only_status s (BitVec.ofNat 4 st) (by simp)) (only_answer _ ws (by simp))

theorem allBoundaries_of_noCoreRuns (h : NoCoreRuns s) : s.allBoundaries = s :=
  allBoundaries_steady fun d hd => .inl (h d hd)

/-! Addresses of registers. -/

theorem pageNumber_lt (p : Page) : pageNumber p < 0x1000 := by
  unfold pageNumber
  split <;> omega

theorem regAddr_node (p : Page) (h : off < 0x1000) : regAddr p off / 2 ^ 40 = pageNode p := by
  have := pageNumber_lt p
  unfold regAddr
  omega

theorem nodeExists_of_pageExists (h : pageExists p = true) : nodeExists (pageNode p) = true := by
  cases hn : nodeExists (pageNode p) with
  | true => rfl
  | false => simp [pageExists, pageAt, hn] at h

theorem pageNode_ne_hbm (h : pageExists p = true) : pageNode p ≠ 0xFF := fun he => by
  have hnode := nodeExists_of_pageExists h
  rw [he] at hnode
  exact absurd hnode (by decide)

theorem isRegAddr_regAddr (hp : pageExists p = true) (h : off < 0x1000) : isRegAddr (regAddr p off) = true := by
  have hnum := pageNumber_lt p
  have hnode := regAddr_node p h
  have hoff : regAddr p off % 2 ^ 40 < 0x1000000 := by
    unfold regAddr
    omega
  simp only [isRegAddr, hnode, decide_eq_true_eq]
  exact ⟨pageNode_ne_hbm hp, hoff⟩

theorem pageOfAddr_regAddr (hp : pageExists p = true) (h : off < 0x1000) :
    pageOfAddr (regAddr p off) = some (p, off) := by
  have hnum : regAddr p off / 0x1000 % 0x1000 = pageNumber p := by
    have := pageNumber_lt p
    unfold regAddr
    omega
  have hoff : regAddr p off % 0x1000 = off := by
    unfold regAddr
    omega
  rw [pageExists, beq_iff_eq] at hp
  rw [pageOfAddr, regAddr_node p h, hnum, hoff, hp]
  rfl

/-! The way back of a response (R17). -/

theorem pathCut_congr (h : t.isolated = s.isolated) (n dest fuel : Nat) :
    t.pathCut n dest fuel = s.pathCut n dest fuel := by
  induction fuel generalizing n with
  | zero => rfl
  | succ fuel ih => simp only [State.pathCut, State.isIsolated, h, ih]

theorem seen_regAddr_congr (hiso : t.isolated = s.isolated) (hp : pageExists p = true) (h : off < 0x1000)
    (src n : Nat) : t.seen src (regAddr p off) n stOK = s.seen src (regAddr p off) n stOK := by
  simp only [State.seen, State.answerer, State.destOf, regAddr_node p h, pageNode_ne_hbm hp, pathCut_congr hiso,
    show stOK ≠ stNodeAbsent by decide, if_false, false_and]

/-! Reads of a page (R479). -/

theorem bytesWord_wordBytes (v : Word) : bytesWord (wordBytes v) = v := by
  change v.extractLsb' 24 8 ++ v.extractLsb' 16 8 ++ v.extractLsb' 8 8 ++ v.extractLsb' 0 8 = v
  rw [BitVec.extractLsb'_append_extractLsb'_eq_extractLsb' (show 24 = 16 + 8 from rfl),
    BitVec.extractLsb'_append_extractLsb'_eq_extractLsb' (show 16 = 8 + 8 from rfl),
    BitVec.extractLsb'_append_extractLsb'_eq_extractLsb' (show 8 = 0 + 8 from rfl)]
  exact BitVec.extractLsb'_eq_self

theorem bytesWords_wordBytes (v : Word) : bytesWords 1 (wordBytes v) = [v] :=
  congrArg (· :: []) (bytesWord_wordBytes v)

theorem pageExists_of_reaches (h : Reaches s who p off) : pageExists p = true := by
  obtain ⟨hp, _⟩ := h
  exact hp

theorem noCoreRuns_of_reaches (h : Reaches s who p off) : NoCoreRuns s := by
  obtain ⟨_, _, _, _, _, hrun, _⟩ := h
  exact hrun

theorem busStatus_of_reaches (h : Reaches s who p off) : s.busStatus who (regAddr p off) 4 false = stOK := by
  obtain ⟨hp, hoff, hst, _⟩ := h
  rw [State.busStatus, if_pos (isRegAddr_regAddr hp hoff)] at hst ⊢
  exact hst

/-- Where an initiator reaches the page and the read succeeds, its bytes come back. -/
theorem busRead_of_reaches (h : Reaches s who p off) {v : Word} (hread : s.regRead p off who = (t, stOK, v))
    (hiso : t.isolated = s.isolated) : s.busRead who (regAddr p off) 4 = (t, stOK, wordBytes v) := by
  have hst := busStatus_of_reaches h
  obtain ⟨hp, hoff, _, _, _, _, hseen⟩ := h
  have hback : t.seen who.node (regAddr p off) 4 stOK = stOK := (seen_regAddr_congr hiso hp hoff _ _).trans hseen
  simp [State.busRead, hst, isRegAddr_regAddr hp hoff, pageOfAddr_regAddr hp hoff, hread, State.accessEnd, hback]

theorem pageRead_of_reaches (h : Reaches s who p off) {v : Word} (hread : s.regRead p off who = (t, stOK, v))
    (hiso : t.isolated = s.isolated) (hrun : NoCoreRuns t) : s.pageRead p off who = t.reply stOK [v] := by
  have hrun' : NoCoreRuns (t.reply stOK [v]) := hrun
  simp [State.pageRead, pageExists_of_reaches h, busRead_of_reaches h hread hiso, bytesWords_wordBytes,
    allBoundaries_of_noCoreRuns hrun']

end Sys2Proof.Proofs.PageRead
end

section
/-! PROOFS. A read of the trace buffer's record, by command and by address (R474). -/

namespace Sys2Proof.Proofs.TraceRead

open Sys2Proof Sys2Proof.Machine Sys2Proof.Laws Sys2Proof.Proofs.PageRead

variable {s t : State} {p : Page} {off : Nat}

/-! The record at RADDR, and what a read of it leaves. -/

/-- `TRC.RADDR`. -/
def raddr (s : State) : Nat := s.rfld trcPage 0x4C 0 16

/-- Word w of the record at RADDR. -/
def recordWord (s : State) (w : Nat) : Word :=
  bytesWord (((tget (fun _ => []) s.trace (raddr s)).drop (4 * w)).take 4)

/-- The state that a read of RDATA[w] leaves: word 7 advances RADDR; under QUIET, where a record stands, it sets PEEKED
(Table 19-7). -/
def afterRead (s : State) (w : Nat) (quiet : Bool) : State :=
  if w = 7 then
    if quiet then (if s.traceHeld (raddr s) then s.setBit dbgPage 0x40 0 true else s)
    else s.setFld trcPage 0x4C 0 16 ((raddr s + 1) % 65536)
  else s

/-- `t` is `s` but for RADDR and the register that holds PEEKED. -/
structure ReadFrame (s t : State) : Prop where
  regs : RegsBut [regKey trcPage 0x4C, regKey dbgPage 0x40] s t
  only : Only [.regs] s t

theorem readFrame_refl (s : State) : ReadFrame s s := ⟨fun _ _ => rfl, only_refl _ s⟩

theorem readFrame_setReg (s : State) (v : Word) (h : regKey p off ∈ [regKey trcPage 0x4C, regKey dbgPage 0x40]) :
    ReadFrame s (s.setReg p off v) :=
  ⟨regsBut_setReg s v h, only_regs s _ (by simp)⟩

theorem readFrame_afterRead (s : State) (w : Nat) (quiet : Bool) : ReadFrame s (afterRead s w quiet) := by
  unfold afterRead
  split
  · split
    · split
      · exact readFrame_setReg s _ (by simp)
      · exact readFrame_refl s
    · exact readFrame_setReg s _ (by simp)
  · exact readFrame_refl s

theorem ReadFrame.isolated (h : ReadFrame s t) : t.isolated = s.isolated := h.only .isolated (by decide)

theorem ReadFrame.noCoreRuns (h : ReadFrame s t) (hs : NoCoreRuns s) : NoCoreRuns t := fun c hc => by
  have hkey : regKey (glcPage c) 0x44 ∉ [regKey trcPage 0x4C, regKey dbgPage 0x40] := by
    simp only [List.mem_cons, List.not_mem_nil, or_false, regKey, glcPage, trcPage, dbgPage, blkCode]
    omega
  have hrun : t.coreRun c = s.coreRun c := congrArg (fld · 0 2) (reg_eq_of_regsBut h.regs hkey)
  rw [hrun]
  exact hs c hc

theorem ReadFrame.only_reply (h : ReadFrame s t) (st : Nat) (ws : List Word) :
    Only [.regs, .status, .answer] s (t.reply st ws) :=
  only_trans (only_mono h.only (by simp)) (only_mono (PageRead.only_reply t st ws) (by simp))

theorem raddr_afterRead (s : State) (w : Nat) (quiet : Bool) :
    raddr (afterRead s w quiet) = if w = 7 ∧ quiet = false then (raddr s + 1) % 65536 else raddr s := by
  have hpeek : raddr (s.setBit dbgPage 0x40 0 true) = raddr s :=
    congrArg (fld · 0 16) (reg_setReg_ne s _ _ _ _ _ (by decide))
  have hadv : raddr (s.setFld trcPage 0x4C 0 16 ((raddr s + 1) % 65536)) = (raddr s + 1) % 65536 :=
    (rfld_setFld_self s trcPage 0x4C 0 16 _ (by decide)).trans (Nat.mod_mod _ _)
  by_cases hw : w = 7
  · cases quiet with
    | false => simp [afterRead, hw, hadv]
    | true => by_cases hheld : s.traceHeld (raddr s) = true <;> simp [afterRead, hw, hheld, hpeek]
  · simp [afterRead, hw]

/-! The two commands that read the record. -/

theorem exec_trcRdataRead (s : State) (quiet : Bool) :
    exec (.trcRdataRead quiet) s = .next ((afterRead s 7 quiet).reply stOK [recordWord s 7]) := by
  refine congrArg Host.Outcome.next (congrArg (State.reply · stOK _) ?_)
  cases quiet <;> rfl

theorem blockValue_trc (s : State) (off : Nat) : s.blockValue trcPage off =
    if inArr off 0x50 8 4 then (s.trcRead ((off - 0x50) / 4) true).2 else s.reg trcPage off := rfl

theorem popsWord_trc (s : State) (off : Nat) :
    s.popsWord trcPage off = (off == 0x6C && s.traceHeld (raddr s)) := rfl

theorem blockRead_trc (s : State) (off : Nat) (who : Who) : s.blockRead trcPage off who =
    if who.quiet then
      ((if s.popsWord trcPage off then s.setBit dbgPage 0x40 0 true else s), stOK, s.blockValue trcPage off)
    else if isRC trcPage off then (s.setReg trcPage off 0, stOK, s.blockValue trcPage off)
    else if off = 0x6C then ((s.trcRead 7 false).1, stOK, (s.trcRead 7 false).2)
    else (s, stOK, s.blockValue trcPage off) := rfl

theorem regRead_rdata (hen : s.enabledPage trcPage = true) {w : Nat} (hw : w < 8) (who : Who) :
    s.regRead trcPage (0x50 + 4 * w) who = (afterRead s w who.quiet, stOK, recordWord s w) := by
  have hvalue : s.blockValue trcPage (0x50 + 4 * w) = recordWord s w := by
    have hin : inArr (0x50 + 4 * w) 0x50 8 4 = true := by
      simp only [inArr, decide_eq_true_eq]
      omega
    rw [blockValue_trc, if_pos hin, show (0x50 + 4 * w - 0x50) / 4 = w by omega]
    rfl
  have hrc : isRC trcPage (0x50 + 4 * w) = false := by
    simp only [isRC, trcPage, inArr, decide_eq_false_iff_not]
    omega
  have hblock : s.regRead trcPage (0x50 + 4 * w) who = s.blockRead trcPage (0x50 + 4 * w) who := by
    simp [State.regRead, hen, show ¬ 0x50 + 4 * w < 0x40 by omega, show trcPage.blk ≠ .sec by decide]
  rw [hblock, blockRead_trc, popsWord_trc, hvalue, hrc]
  by_cases hlast : w = 7
  · subst hlast
    cases who.quiet <;> rfl
  · have hoff : 0x50 + 4 * w ≠ 0x6C := by omega
    cases who.quiet <;> simp [afterRead, hlast, hoff]

theorem exec_regReadClear_rdata {node : BitVec 8} {port : BitVec 6} {w : Nat} (hw : w < 8)
    (h : Reaches s ⟨node.toNat, port.toNat, false⟩ trcPage (0x50 + 4 * w)) (hen : s.enabledPage trcPage = true) :
    exec (.regReadClear trcPage (BitVec.ofNat 12 (0x50 + 4 * w)) node port) s =
      .next ((afterRead s w (Who.quiet ⟨node.toNat, port.toNat, false⟩)).reply stOK [recordWord s w]) := by
  have hoff : (BitVec.ofNat 12 (0x50 + 4 * w)).toNat = 0x50 + 4 * w := by
    rw [BitVec.toNat_ofNat]
    omega
  have hframe := readFrame_afterRead s w (Who.quiet ⟨node.toNat, port.toNat, false⟩)
  refine congrArg Host.Outcome.next ?_
  rw [hoff]
  exact pageRead_of_reaches h (regRead_rdata hen hw _) hframe.isolated
    (hframe.noCoreRuns (noCoreRuns_of_reaches h))

/-- Settles O45: both commands leave the same state, which differs in RADDR and PEEKED alone. -/
theorem traceDataReads : Obligations.TraceDataReads := by
  refine fun s node port => ⟨fun quiet => ⟨_, exec_trcRdataRead s quiet, rfl, rfl, ?_, ?_, ?_⟩, fun w hw => ?_⟩
  · exact (raddr_afterRead s 7 quiet).trans (by cases quiet <;> rfl)
  · exact (readFrame_afterRead s 7 quiet).regs
  · exact (readFrame_afterRead s 7 quiet).only_reply _ _
  · intro who a hreach hen
    have hframe := readFrame_afterRead s w who.quiet
    exact ⟨_, exec_regReadClear_rdata hw hreach hen, rfl, rfl, raddr_afterRead s w who.quiet, hframe.regs,
      hframe.only_reply _ _⟩

end Sys2Proof.Proofs.TraceRead
end
